-- ==== Sys2Proof/Word.lean ====
section
/-! DEFINITION. The plainest value types of the Ulgrama 340 model: bytes, two-byte quantities,
window numbers and trunk addresses (spec/00_scope.md, Conventions). -/

namespace Sys2Proof

/-- One byte of a trunk frame, of the port or of the configuration image. -/
abbrev Byte := BitVec 8

/-- A two-byte quantity: a digest, a check word. -/
abbrev Half := BitVec 16

/-- A window number: a 16-bit count that wraps from 65535 to 0 (Conventions, "Window numbers"). -/
abbrev Window := BitVec 16

/-- A trunk address, 0 to 31 (Conventions, "Addresses"). -/
abbrev Addr := Fin 32

end Sys2Proof
end

