-- ==== Sys2Proof/Config.lean ====
section
/-! DEFINITION. The configuration a station reads once at each start (R179, R191), as plain data. The
decoder of the image is in Sys2Proof/Decode.lean. The spec leaves no value of an executed command
open, so this file holds no free value. -/

namespace Sys2Proof

/-- The three station roles, in the order of R57. -/
inductive Role where
  | discharge
  | filter
  | crusher
  deriving DecidableEq, Repr

/-- The bound pair of a material class: its least and greatest claim volume (Conventions, R4). -/
structure Bounds where
  min : Nat
  max : Nat
  deriving DecidableEq, Repr

/-- The hall section of the configuration image, bytes 0 to 19 (R191). -/
structure HallParams where
  /-- 0 for 125, 1 for 250, 2 for 500 kbit/s. -/
  lineRate : Nat
  /-- W in units of 0.5 s. -/
  w : Nat
  /-- B, the flume budget. -/
  b : Nat
  /-- K, the flush limit. -/
  k : Nat
  /-- A, the aging step. -/
  a : Nat
  /-- The bound pairs of classes 1 to 7, in class order. -/
  bounds : List Bounds
  /-- The parameter digest: the CRC-16 of the hall section (R179). -/
  digest : Half
  deriving DecidableEq, Repr

/-- One analog channel's part of the station section (R164, R191). -/
structure ChannelParams where
  /-- The rate in units of 10 ms. -/
  rate : Nat
  low : Nat
  high : Nat
  persistence : Nat
  deriving DecidableEq, Repr

/-- The role part of a discharge station (R108, R191). -/
structure DischargeParams where
  baseRank : Nat
  ageLimit : Nat
  /-- The class factors of classes 1 to 6, in class order. -/
  factors : List Nat
  /-- The index time in units of 0.1 s. -/
  indexTime : Nat
  pusher : Nat
  indexTrack : Nat
  dischargeTrack : Nat
  deriving DecidableEq, Repr

/-- The role part of a filter station (R133, R191). -/
structure FilterParams where
  baseRank : Nat
  flushVolume : Nat
  flushThreshold : Nat
  urgentThreshold : Nat
  hysteresis : Nat
  /-- The flush fraction, in sixteenths of W. -/
  fraction : Nat
  pump : Nat
  /-- The proving time in units of 0.1 s. -/
  proving : Nat
  deriving DecidableEq, Repr

/-- The role part of a crusher station (R147, R191). -/
structure CrusherParams where
  /-- The capacities of bins 1 to 7, in order. -/
  capacities : List Nat
  /-- The hold thresholds of bins 1 to 7, in order. -/
  thresholds : List Nat
  surgeCapacity : Nat
  drainRate : Nat
  /-- The reversal time in units of 0.1 s. -/
  reversal : Nat
  feed : Nat
  reducedFeed : Nat
  reverse : Nat
  deriving DecidableEq, Repr

/-- A station's configuration (R191). Of the three role parts, the configured role's is read from the
image and the other two are blank. -/
structure Config where
  hall : HallParams
  address : Addr
  role : Role
  transit : Nat
  ceiling : Nat
  /-- The attention mask (R187). -/
  mask : BitVec 16
  dormancy : Bool
  dormantDelay : Nat
  /-- The supply threshold in units of 0.5 V: 34, 37, 40 or 43 (R184). -/
  supplyThreshold : Nat
  /-- Channels 0 to 3. -/
  channels : List ChannelParams
  /-- The encoder prescaler, 1 to 128. -/
  prescaler : Nat
  /-- The stall time in units of 0.1 s. -/
  stallTime : Nat
  dis : DischargeParams
  fil : FilterParams
  cru : CrusherParams
  deriving DecidableEq, Repr

def DischargeParams.blank : DischargeParams := ⟨0, 0, [], 0, 0, 0, 0⟩
def FilterParams.blank : FilterParams := ⟨0, 0, 0, 0, 0, 0, 0, 0⟩
def CrusherParams.blank : CrusherParams := ⟨[], [], 0, 0, 0, 0, 0, 0⟩

/-- What stands for the configuration until an image is found good. While it stands, the station is in
START_HOLD and no block runs (section 10.2), so only port reads could show it. DESIGN CHOICE, unsafe
(log 3). -/
def Config.blank : Config where
  hall := ⟨0, 0, 0, 0, 0, [], 0⟩
  address := 0
  role := .discharge
  transit := 0
  ceiling := 0
  mask := 0
  dormancy := false
  dormantDelay := 0
  supplyThreshold := 0
  channels := []
  prescaler := 1
  stallTime := 0
  dis := DischargeParams.blank
  fil := FilterParams.blank
  cru := CrusherParams.blank

end Sys2Proof
end

