-- ==== Sys2Proof/Syntax.lean ====
section
/-! DEFINITION. The commands of the Ulgrama 340: one constructor of `Instr` per row of
spec/opcode_table.json, with the operands the spec gives the event. The trunk frame bodies are those
of R190; their byte fields keep whatever value the wire carried, since the rule that takes a frame
judges its fields (R190). -/

namespace Sys2Proof

/-- What a MARK carries (R53, R190). -/
structure MarkBody where
  window : Window
  digest : Half
  count : Byte
  deriving DecidableEq, Repr

/-- The station information of a HELLO or a ROW: the three fields of the station byte and the
parameter digest (R59, R190). The role code is raw: 1 DISCHARGE, 2 FILTER, 3 CRUSHER, 0 fails R59. -/
structure StationInfo where
  role : BitVec 2
  transit : BitVec 3
  ceiling : BitVec 3
  digest : Half
  deriving DecidableEq, Repr

/-- What a HELLO carries (R190). -/
structure HelloBody where
  info : StationInfo
  leaving : Bool
  deriving DecidableEq, Repr

/-- What a PRESENT carries: nothing (R56, R190). -/
structure PresentBody where
  deriving DecidableEq, Repr

/-- What a CLAIM carries (section 1.3, R190); the kind, class and rank bytes are raw. -/
structure ClaimBody where
  id : Byte
  kind : Byte
  cls : Byte
  volume : Byte
  rank : Byte
  remainder : Bool
  deriving DecidableEq, Repr

/-- What a WITHDRAW carries (R10, R190). -/
structure WithdrawBody where
  id : Byte
  deriving DecidableEq, Repr

/-- What a DONE carries (R11, R190). -/
structure DoneBody where
  id : Byte
  volume : Byte
  short : Bool
  arrival : Window
  cls : Byte
  deriving DecidableEq, Repr

/-- What a GATE carries (R29, R190): raw crusher state code, the holds of classes 1 to 7 in bits 0 to
6, and the resume window. -/
structure GateBody where
  state : Byte
  holds : BitVec 7
  resume : Window
  deriving DecidableEq, Repr

/-- What a STOP carries: its raw cause code (R30, R190). -/
structure StopBody where
  cause : Byte
  deriving DecidableEq, Repr

/-- What a RELEASE carries: the raw target byte and the force flag (R31, R190). -/
structure ReleaseBody where
  target : Byte
  force : Bool
  deriving DecidableEq, Repr

/-- What an ASK carries: the raw target byte (0xFF for ALL) and the raw subject (R190). -/
structure AskBody where
  target : Byte
  subject : Byte
  deriving DecidableEq, Repr

/-- One claim record of a ROW, as its six bytes give it (R97, R190). -/
structure RowRecord where
  id : Byte
  flush : Bool
  cls : BitVec 3
  committed : Bool
  remainder : Bool
  volume : Byte
  rank : BitVec 3
  age : BitVec 4
  p : Byte
  c : Byte
  deriving DecidableEq, Repr

/-- What a ROW carries (R97, R190). -/
structure RowBody where
  info : StationInfo
  window : Window
  records : List RowRecord
  deriving DecidableEq, Repr

/-- The eleven frame kinds, in the order R73 names them. -/
inductive FrameKind where
  | mark | hello | present | claim | withdraw | done | gate | stop | release | ask | row
  deriving DecidableEq, Repr

/-- A frame's body, by kind (R190). -/
inductive Body where
  | mark (b : MarkBody)
  | hello (b : HelloBody)
  | present (b : PresentBody)
  | claim (b : ClaimBody)
  | withdraw (b : WithdrawBody)
  | done (b : DoneBody)
  | gate (b : GateBody)
  | stop (b : StopBody)
  | release (b : ReleaseBody)
  | ask (b : AskBody)
  | row (b : RowBody)
  deriving DecidableEq, Repr

/-- How a station comes to take a frame (R73, R78): received valid from the trunk, not having
transmitted it, with the SENDER it names; or its own frame in flight found good by listen-back, whose
contents are those the station sent. -/
inductive Rx (α : Type) where
  | peer (sender : Addr) (body : α)
  | own
  deriving DecidableEq, Repr

/-- A slot of the contention cycle (section 4.2): the urgent slot U or a rotating slot 0 to 31. -/
inductive Slot where
  | urgent
  | rotating (k : Fin 32)
  deriving DecidableEq, Repr

/-- The four 12-bit conversions that one average is made of (R164). -/
structure Conversions where
  c0 : BitVec 12
  c1 : BitVec 12
  c2 : BitVec 12
  c3 : BitVec 12
  deriving DecidableEq, Repr

/-- The commands of the block: the steps of spec/opcode_table.json, in its order. A docstring names the
rule the row cites. -/
inductive Instr where
  /-- R54. A valid MARK frame is taken. -/
  | mark (rx : Rx MarkBody)
  /-- R59. A valid HELLO frame is taken. -/
  | hello (rx : Rx HelloBody)
  /-- R56. A valid PRESENT frame is taken. -/
  | present (rx : Rx PresentBody)
  /-- R4. A valid CLAIM frame is taken. -/
  | claim (rx : Rx ClaimBody)
  /-- R10. A valid WITHDRAW frame is taken. -/
  | withdraw (rx : Rx WithdrawBody)
  /-- R11. A valid DONE frame is taken. -/
  | done (rx : Rx DoneBody)
  /-- R29. A valid GATE frame is taken. -/
  | gate (rx : Rx GateBody)
  /-- R30. A valid STOP frame is taken. -/
  | stop (rx : Rx StopBody)
  /-- R31. A valid RELEASE frame is taken. -/
  | release (rx : Rx ReleaseBody)
  /-- R96. A valid ASK frame is taken. -/
  | ask (rx : Rx AskBody)
  /-- R12. A valid ROW frame is taken. -/
  | row (rx : Rx RowBody)
  /-- R73. A frame this station did not transmit ends and fails the validity checks. -/
  | corruptFrame
  /-- R79. The own frame is judged bad at its end; `received` is the SENDER of the frame received in
  its place when that frame is valid by R73, and none when it is not. -/
  | listenBackFailure (received : Option Addr)
  /-- R76. A slot of the contention cycle starts. -/
  | contentionSlot (slot : Slot)
  /-- R74. All 33 slots pass with the line at rest. -/
  | quietCycle
  /-- R74. The line has been at rest for 2 character times since the receiver started. -/
  | cyclePositionTaken
  /-- R52. The window timer runs out. -/
  | windowTimerExpiry
  /-- R92. The listening timer expires. -/
  | listeningTimerExpiry
  /-- R165. Analog channel `ch` completes an average of the four conversions `conv`. -/
  | channelAverage (ch : Fin 4) (conv : Conversions)
  /-- R184. A field supply sense average of the four conversions `conv` is handed over. -/
  | vfsAverage (conv : Conversions)
  /-- R167. An edge on ENC_A or ENC_B. -/
  | encoderEdge
  /-- R168. The stall timer runs out. -/
  | stall
  /-- R113. The class-code lines CC0 to CC2 change to `code`. -/
  | classCodeChange (code : BitVec 3)
  /-- R113. A LOT_END strobe. -/
  | lotEnd
  /-- R152. A BIN_SWAP strobe with `bin` on CC0 to CC2. -/
  | binSwap (bin : BitVec 3)
  /-- R161. A JAM_CLEAR edge. -/
  | jamClear
  /-- R181. The SHIFT input has held the new level `active` for 20 ms. -/
  | shiftChange (active : Bool)
  /-- R115. An INDEX has run for its index time. -/
  | indexComplete
  /-- R141. A FLUSH reaches its flush time. -/
  | flushComplete
  /-- R159. A REVERSE has run for its reversal time. -/
  | reverseComplete
  /-- R143. A flush's elapsed running time reaches the proving time. -/
  | pumpProving
  /-- R159. The recurrence interval runs out. -/
  | recurrenceIntervalExpiry
  /-- R174. A 128 µs drive cycle starts. -/
  | driveCycleStart
  /-- R180. A 10 ms crystal check ends with the crystal's count over it. -/
  | clockCheck (count : Nat)
  /-- R179. The read of the configuration image ends: the image, or none when three attempts in a row
  failed. -/
  | configLoad (image : Option (List Byte))
  /-- R178. The logic supply falls below the reset level. -/
  | logicSupplyLow
  /-- R178. The logic supply has stayed at or above 2.9 V for 1 ms; `fromBelow` says that it had been
  below 1.5 V. -/
  | logicSupplySettled (fromBelow : Bool)
  /-- R185. NSEL rises before the command is complete. -/
  | spiIncomplete
  /-- R185. A transaction with the unknown command code `code` completes. -/
  | unknownCommand (code : Byte)
  /-- R186, code 0x10. -/
  | readStatus
  /-- R186, code 0x11. -/
  | readRoster (arg : Byte)
  /-- R186, code 0x12. -/
  | readClaim (arg : Byte)
  /-- R186, code 0x13. -/
  | readPlan (arg : Byte)
  /-- R186, code 0x14. -/
  | readHallCondition
  /-- R186, code 0x15. -/
  | readLot (arg : Byte)
  /-- R186, code 0x16. -/
  | readChannel (arg : Byte)
  /-- R186, code 0x17. -/
  | readCounters
  /-- R186, code 0x18. -/
  | readStartCause
  /-- R188, code 0x19. -/
  | peekAttention
  /-- R188, code 0x30. -/
  | takeAttention
  /-- R130, R146, code 0x21. -/
  | hold
  /-- R130, R146, code 0x22. -/
  | releaseHold
  /-- R130, code 0x23. -/
  | lotClose
  /-- R146, code 0x24. -/
  | flushNow
  /-- R189, code 0x25. -/
  | clearFault
  /-- R189, code 0x26. -/
  | hallStop
  /-- R189, code 0x27. -/
  | hallRelease
  /-- R189, code 0x28. -/
  | forceRelease (arg : Byte)
  /-- R182, code 0x29. -/
  | leave
  /-- R183, code 0x2A. -/
  | wake
  /-- R178, code 0x2B. -/
  | reset
  /-- R71. The first start bit seen after a frame end. -/
  | frameStart
  /-- R188. The command byte of TAKE ATTENTION completes and the flags are copied. -/
  | attentionCopy
  deriving DecidableEq, Repr

end Sys2Proof
end

