-- ==== Sys2Proof/Machine/State.lean ====
section
/-! DEFINITION. The state of one Ulgrama 340 as plain data, its value after reset, and the reasons a step
could stop. Every piece is listed with its rule in INVENTORY.md under '## State'. Times are counted in
ticks of 2 µs (DESIGN CHOICE, log 1). -/

namespace Sys2Proof.Machine

/-! ## Why a step stops -/

/-- The faults of the block. The spec describes none: no rule stops the block, and every command has an
effect in every state, so no constructor exists and nothing raises one. Safe: nothing can fault. -/
inductive Fault where
  deriving DecidableEq, Repr

/-- The refusals of the model. -/
inductive Refusal where
  /-- Raised by `exec`'s arm of a command that has no meaning yet. No arm raises it now. Safe: the
  machine stops where the hardware goes on. -/
  | notModelled (mnemonic : String)
  deriving DecidableEq, Repr

/-! ## The claim table (chapter 1) -/

/-- The kind of a claim (section 1.1). -/
inductive ClaimKind where
  | lot
  | flush
  deriving DecidableEq, Repr

/-- The state of a claim; a committed arrival window is present only when COMMITTED (section 1.1). -/
inductive ClaimStatus where
  | waiting
  | committed (arrival : Window)
  deriving DecidableEq, Repr

/-- A claim record (section 1.1). -/
structure Claim where
  owner : Addr
  id : Byte
  kind : ClaimKind
  cls : Nat
  volume : Nat
  declared : Nat
  effective : Nat
  posted : Window
  age : Nat
  status : ClaimStatus
  remainder : Bool
  deriving DecidableEq, Repr

/-- The claim table block: the records in table order (R1) and the own next-id counter (R2). -/
structure TableState where
  claims : List Claim
  nextId : Byte
  deriving DecidableEq, Repr

/-- The causes of refusal of a CLAIM (R4 to R7). -/
inductive RefusalCause where
  | unknownOwner | excludedOwner | badField | badClass | badVolume
  | kindMismatch | committed | ownerFull | tableFull
  deriving DecidableEq, Repr

/-- The reasons with which a claim is reported REMOVED (R9). -/
inductive RemovalReason where
  | withdrawn | done | rowDropped | leaving | excluded | listenOnly | stale
  deriving DecidableEq, Repr

/-! ## The flume plan and the hall condition (chapter 2) -/

/-- One placement of a plan entry (R36). -/
structure Placement where
  owner : Addr
  id : Byte
  volume : Nat
  arrival : Window
  discharge : Window
  deriving DecidableEq, Repr

/-- One entry of the plan, or the arriving entry (R36, R38). -/
structure PlanEntry where
  cls : Option Nat
  volume : Nat
  placements : List Placement
  deriving DecidableEq, Repr

/-- The flume plan with its base window, and the arriving entry (R36, R38). -/
structure PlanState where
  base : Option Window
  entries : List PlanEntry
  arriving : PlanEntry
  deriving DecidableEq, Repr

/-- The crusher state of the gate state (R27). -/
inductive GateView where
  | running | holding | jammed
  deriving DecidableEq, Repr

/-- The cause of a stop (R27). -/
inductive StopCause where
  | jam | surgeFull | operator
  deriving DecidableEq, Repr

/-- One originator of the stop set with its cause and its restated mark (R27, R35). -/
structure StopEntry where
  addr : Addr
  cause : StopCause
  restated : Bool
  deriving DecidableEq, Repr

/-- The hall condition record (R27). -/
structure HallState where
  presence : Bool
  gate : GateView
  holds : BitVec 7
  resume : Window
  stops : List StopEntry
  firstCause : Option StopCause
  deriving DecidableEq, Repr

/-! ## Windows and the roster (chapter 3) -/

/-- The window block (R51, R55, R65). The timer is absent while stopped, and holds the ticks since it was
last started while running. -/
structure WindowState where
  number : Window
  timer : Option Nat
  expiries : Nat
  sent : Bool
  asked : List Addr
  deriving DecidableEq, Repr

/-- Why a roster entry is EXCLUDED (R57). -/
inductive EntryCause where
  | parameters | role
  deriving DecidableEq, Repr

/-- The state of a roster entry; the exclusion cause is present only while EXCLUDED (R57). -/
inductive EntryStatus where
  | present
  | silent
  | excluded (cause : EntryCause)
  deriving DecidableEq, Repr

/-- A roster entry (R57). -/
structure RosterEntry where
  addr : Addr
  role : Role
  transit : Nat
  ceiling : Nat
  digestMatch : Bool
  status : EntryStatus
  missed : Nat
  heard : Bool
  deriving DecidableEq, Repr

/-! ## The trunk interface (chapter 4) -/

/-- The blocks that request frames (R82, R88). -/
inductive Block where
  | window | roster | plan | sync | role | mode | port
  deriving DecidableEq, Repr

/-- What an entry of the outgoing queue asks to send: one of the four kinds whose body is built at the
start of transmission, or a body fixed when it was requested (R82, R83). -/
inductive QBody where
  | mark
  | present
  | gate
  | row
  | hello (b : HelloBody)
  | claim (b : ClaimBody)
  | withdraw (b : WithdrawBody)
  | done (b : DoneBody)
  | stop (b : StopBody)
  | release (b : ReleaseBody)
  | ask (b : AskBody)
  deriving DecidableEq, Repr

/-- An entry of the outgoing queue (R82). Its age is its place in the queue. `sent` holds the body being
transmitted while the frame is in flight; `followUp` is the follow-up mark of R84; `pulled` records a
withdrawal asked for in flight (R87, R95). -/
structure QFrame where
  body : QBody
  who : Block
  urgent : Bool
  sent : Option Body
  followUp : Bool
  pulled : Bool
  deriving DecidableEq, Repr

/-- The line state (R80). -/
inductive LineState where
  | active | listenOnly
  deriving DecidableEq, Repr

/-- The position in the contention cycle (R74): the slot now running, absent until slot U's start is
taken, and the ticks since the cycle began. -/
structure CyclePos where
  slot : Option Slot
  ticks : Nat
  deriving DecidableEq, Repr

/-- The trunk interface (R89). `busy` says that a frame has started since the last frame end (R71); the
failed-frame counters stand in `Counters`. `rest` counts the ticks of rest before a position is taken. -/
structure TrunkState where
  line : LineState
  failCount : Nat
  failHold : Bool
  confMarks : Nat
  confExpiries : Nat
  lastSender : Option Addr
  cycle : Option CyclePos
  busy : Bool
  rest : Nat
  queue : List QFrame
  deriving DecidableEq, Repr

/-- Why a request is refused (R88). -/
inductive RefuseReason where
  | full | listenOnly | excluded
  deriving DecidableEq, Repr

/-- Why a queued frame is dropped (R88). -/
inductive DropReason where
  | listenOnly | dormant | excluded
  deriving DecidableEq, Repr

/-- The fate of a request, as reported to its block (R88). -/
inductive Fate where
  | queued | absorbed | replaced | cancelled | sent | displaced
  | refused (why : RefuseReason)
  | dropped (why : DropReason)
  | withdrawn
  deriving DecidableEq, Repr

/-! ## The sync controller (chapter 5) -/

/-- Why the station is excluded (R90). -/
inductive ExclusionCause where
  | address | parameters | role
  deriving DecidableEq, Repr

/-- The sync state; the exclusion cause is present only while EXCLUDED (R90). -/
inductive SyncStatus where
  | listening
  | syncing
  | synced
  | diverged
  | excluded (cause : ExclusionCause)
  deriving DecidableEq, Repr

/-- The row round (R90). -/
inductive RowRound where
  | idle | asked | opened
  deriving DecidableEq, Repr

/-- The sync controller (R90). `askLost` records that the round's ASK was reported REFUSED, DISPLACED or
DROPPED, which R100 reads. -/
structure SyncState where
  status : SyncStatus
  listenTimer : Option Nat
  round : RowRound
  received : List Addr
  roundMarks : Nat
  attempts : Nat
  askLost : Bool
  deriving DecidableEq, Repr

/-! ## The role units (chapters 6 to 8) -/

/-- The state of a lot (R110). -/
inductive LotStatus where
  | opened | sealed | claimed | committed | discharging
  deriving DecidableEq, Repr

/-- Why a lot was sealed (R113). -/
inductive SealReason where
  | classChange | lotEnd | volumeBound | age | shift | port
  deriving DecidableEq, Repr

/-- A lot record (R110). `length` is absent until the lot's INDEX completes; `travel` is the length
accumulated by its INDEX so far; `onTrack` says where the lot lies (R109). -/
structure Lot where
  number : BitVec 16
  cls : Nat
  status : LotStatus
  volume : Option Nat
  running : Option Nat
  length : Option Nat
  travel : Nat
  onTrack : Bool
  sealReason : Option SealReason
  undersize : Bool
  claimId : Option Byte
  discharge : Option Window
  refused : Bool
  age : Nat
  remainder : Bool
  deriving DecidableEq, Repr

/-- The discharge in progress (R120). -/
structure Discharging where
  lot : BitVec 16
  id : Byte
  arrival : Window
  travel : Nat
  deriving DecidableEq, Repr

/-- A DONE requested and not yet sent (R124, R141); `lost` says that the queue refused or displaced it,
so that it is requested again at the next MARK taken. -/
structure PendingDone where
  body : DoneBody
  lost : Bool
  deriving DecidableEq, Repr

/-- The discharge unit (R109, R124, R128, R130); lots in seal order, head first. -/
structure DischargeState where
  lots : List Lot
  lotCounter : BitVec 16
  progress : Option Discharging
  held : Bool
  beltFault : Bool
  pending : List PendingDone
  deriving DecidableEq, Repr

/-- The filter state (R134). -/
inductive FilterMode where
  | online | claimed | committed | flushing | settling | fault
  deriving DecidableEq, Repr

/-- The pressure band (R134). -/
inductive Band where
  | normal | flush | urgent | bypass
  deriving DecidableEq, Repr

/-- The flush in progress (R134). Its elapsed running time is that of the FLUSH operation record. -/
structure Flushing where
  id : Byte
  arrival : Window
  proved : Bool
  deriving DecidableEq, Repr

/-- The filter unit (R134). `postedRank` is the declared rank of the posted frame, which R139 reads. -/
structure FilterState where
  mode : FilterMode
  band : Band
  claimId : Option Byte
  discharge : Option Window
  refused : Bool
  bypassOpen : Bool
  cleaned : Bool
  held : Bool
  flushRequest : Bool
  progress : Option Flushing
  settle : Nat
  pending : Option PendingDone
  postedRank : Nat
  deriving DecidableEq, Repr

/-- The crusher state (R148). -/
inductive CrusherMode where
  | running | reversing | jammed
  deriving DecidableEq, Repr

/-- A window record: where the diverter stood and whether the crusher was accepting (R149). -/
structure WindowRecord where
  position : Nat
  accepting : Bool
  deriving DecidableEq, Repr

/-- An entry of the inbound list (R150). -/
structure Inbound where
  owner : Addr
  id : Byte
  cls : Nat
  volume : Nat
  arrival : Window
  deriving DecidableEq, Repr

/-- The crusher unit (R148). The recurrence interval is absent while stopped, and holds the ticks of FEED
running time since it was started while running. -/
structure CrusherState where
  mode : CrusherMode
  diverter : Nat
  current : WindowRecord
  previous : WindowRecord
  inbound : List Inbound
  fills : List Nat
  holds : BitVec 7
  surge : Nat
  surgeStop : Bool
  attempts : Nat
  recurrence : Option Nat
  deriving DecidableEq, Repr

/-! ## Measurement and drive (chapter 9) -/

/-- The state of an analog channel (R164). -/
inductive ChannelStatus where
  | inBounds | above | below
  deriving DecidableEq, Repr

/-- An analog channel; its rate, bound pair and persistence are the configuration's (R164). -/
structure Channel where
  last : Option Nat
  status : ChannelStatus
  highRun : Nat
  lowRun : Nat
  returnRun : Nat
  deriving DecidableEq, Repr

/-- The capture slot (R166). -/
inductive Capture where
  | empty
  | pending (ch : Fin 4)
  | filled (ch : Fin 4) (avg : Nat)
  deriving DecidableEq, Repr

/-- The measurement unit (R164, R166, R167, R168). The stall timer is absent while stopped. -/
structure MeasureState where
  channels : List Channel
  capture : Capture
  travel : BitVec 16
  prescale : Nat
  stallTimer : Option Nat
  deriving DecidableEq, Repr

/-- The operations of the drive sequencer (R169). -/
inductive OpKind where
  | index | feed | discharge | flush | reverse | safeStop
  deriving DecidableEq, Repr

/-- The owners of operations (R169). -/
inductive OpOwner where
  | dischargeUnit | filterUnit | crusherUnit | modeController
  deriving DecidableEq, Repr

/-- An operation record: the operation, its run time where it is timed, its elapsed running time, and the
two drive levels it drives while running (R169). Its owner and its level follow from the operation
(`Op.owner`, `Op.level`). -/
structure Op where
  kind : OpKind
  runTime : Option Nat
  elapsed : Nat
  drv0 : Nat
  drv1 : Nat
  deriving DecidableEq, Repr

/-- The drive sequencer (R169, R174). The stack is held top first. `phase` counts the ticks of the
running drive cycle. -/
structure SeqState where
  running : Option Op
  stack : List Op
  deferred : Option Op
  shadow0 : Nat
  shadow1 : Nat
  out0 : Nat
  out1 : Nat
  phase : Nat
  deriving DecidableEq, Repr

/-- The reports of the sequencer to an operation's owner (R169). -/
inductive OpReport where
  | started | deferred | suspended | resumed | completed | cancelled | abandoned | refused
  deriving DecidableEq, Repr

/-- The conditions the annunciator shows, worst first, and none (R176). -/
inductive ToneCond where
  | twoTone | steadyHigh | steadyLow | pulsed | off
  deriving DecidableEq, Repr

/-- The annunciator: the condition shown and the ticks since its pattern began, modulo its one second
(R176). -/
structure Tone where
  cond : ToneCond
  phase : Nat
  deriving DecidableEq, Repr

/-! ## Supply and mode, and the inspection port (chapters 10 and 11) -/

/-- The station mode (R177). -/
inductive StationMode where
  | startHold | run | quiet | leaving | dormant
  deriving DecidableEq, Repr

/-- The start cause (R177, R178). -/
inductive StartCause where
  | powerOn | supplyDip | portReset | wake
  deriving DecidableEq, Repr

/-- The configuration condition (R177). -/
inductive ConfigCond where
  | loading | good | fault
  deriving DecidableEq, Repr

/-- The clock condition (R177). -/
inductive ClockCond where
  | unproved | qualified | fault
  deriving DecidableEq, Repr

/-- The field supply condition (R177). -/
inductive Supply where
  | normal | low
  deriving DecidableEq, Repr

/-- The supply and mode controller (R177). -/
structure ModeState where
  mode : StationMode
  startCause : StartCause
  config : ConfigCond
  clock : ClockCond
  clockRun : Nat
  supply : Supply
  returnRun : Nat
  quietWindows : Nat
  leaveRequest : Bool
  wakeMark : Bool
  deriving DecidableEq, Repr

/-- The result of a port command (R185). -/
inductive PortResult where
  | ok | refusedState | refusedRole | badArg
  deriving DecidableEq, Repr

/-- The inspection port (R185, R187, R188). `sdo` holds the bytes the last transaction clocked out, to which
only 0x00 bytes can be added (`PortState.clocked`); `copy` the flags copied for a TAKE ATTENTION in progress.
The mask is the configuration's. -/
structure PortState where
  flags : BitVec 16
  result : PortResult
  sdo : List Byte
  copy : Option (BitVec 16)
  deriving DecidableEq, Repr

/-- The levels of the field input pins whose level a rule reads: CC0 to CC2 (R111) and SHIFT (R180). -/
structure Pins where
  classCode : BitVec 3
  shift : Bool
  deriving DecidableEq, Repr

/-- The eight counters READ COUNTERS returns (R186), each 16 bits wide and stopping at 65535. -/
structure Counters where
  valid : Nat
  corrupt : Nat
  ownFailures : Nat
  ownRefused : Nat
  stale : Nat
  shortDischarges : Nat
  mixed : Nat
  inboundLost : Nat
  deriving DecidableEq, Repr

/-! ## Reports between the blocks -/

/-- A report of one block to another, made during a command. -/
inductive Report where
  /-- R88. The fate of a frame request, to the block that made it. -/
  | fate (who : Block) (body : QBody) (f : Fate)
  /-- R9. -/
  | admitted (id : Byte)
  /-- R9. -/
  | replaced (id : Byte)
  /-- R9. -/
  | refused (id : Byte) (cause : RefusalCause)
  /-- R9. -/
  | committed (id : Byte) (arrival : Window)
  /-- R9. -/
  | removed (id : Byte) (reason : RemovalReason)
  /-- R33. -/
  | stopTaken (originator : Addr) (cause : StopCause)
  /-- R33. -/
  | stopCleared
  /-- R33. -/
  | gateChanged (view : GateView) (holds : BitVec 7)
  /-- R33. -/
  | presenceChanged (presence : Bool)
  /-- R49. The own placements, each with whether its claim was COMMITTED when the MARK was taken or is to
  be committed at it, and the number of own WAITING claims left unplaced. -/
  | planBuilt (base : Window) (own : List (Placement × Bool × Bool)) (unplaced : Nat)
  /-- R70. A roster entry was created, changed or removed. -/
  | rosterChanged (addr : Addr)
  /-- R62, R70. -/
  | roleConflict (addr : Addr)
  /-- R66, R70. -/
  | addressConflict
  /-- R106. -/
  | syncChanged (status : SyncStatus)
  /-- R106. -/
  | syncGained
  /-- R106. -/
  | syncLost
  /-- R95, R106. -/
  | excluded
  /-- R80. -/
  | listenOnly
  /-- R81. -/
  | lineActive
  /-- R165. -/
  | entered (ch : Fin 4) (status : ChannelStatus)
  /-- R165. -/
  | average (ch : Fin 4) (avg : Nat) (status : ChannelStatus)
  /-- R166. A capture request is answered ACCEPTED. -/
  | captureAccepted
  /-- R166. A capture request is answered BUSY. -/
  | captureBusy
  /-- R166. -/
  | captureReady
  /-- R167. -/
  | travel
  /-- R168. -/
  | stall
  /-- R169. To the owner of an operation, with the elapsed running time where the report carries it. -/
  | op (owner : OpOwner) (kind : OpKind) (r : OpReport) (elapsed : Nat)
  /-- R184. -/
  | supplyLow
  /-- R184. -/
  | supplyNormal
  /-- R177. -/
  | modeChanged (mode : StationMode)
  deriving DecidableEq, Repr

/-! ## The whole machine -/

/-- The state of one station. `inReset` says that the part is held in reset (R178); `reports` holds the
reports made during the last command, in order (the model's own record); `pending` is the queue of
waiting commands, first in, first out. -/
structure State where
  cfg : Config
  trunk : TrunkState
  window : WindowState
  roster : List RosterEntry
  table : TableState
  plan : PlanState
  hall : HallState
  sync : SyncState
  discharge : DischargeState
  filter : FilterState
  crusher : CrusherState
  measure : MeasureState
  seq : SeqState
  tone : Tone
  mode : ModeState
  port : PortState
  pins : Pins
  counters : Counters
  inReset : Bool
  reports : List Report
  pending : List Instr
  deriving DecidableEq, Repr

/-- An empty plan entry: class unset, no volume, no placements (R36, R38). -/
def PlanEntry.empty : PlanEntry := ⟨none, 0, []⟩

/-- An analog channel after a start (R164). -/
def Channel.start : Channel := ⟨none, .inBounds, 0, 0, 0⟩

/-- Every block at its after-start values, with the start cause given: R1, R2, R27, R36, R38, R51, R55, R65,
R89, R90, R109, R134, R148, R164, R166, R167, R168, R169, R177, R185, R187. The roster's own entry needs
the configuration and is made when the image is found good (DESIGN CHOICE, log 4). The drive cycle stands at its
beginning, and first runs when the station leaves START_HOLD (DESIGN CHOICE, unsafe, log 43). The pins and the
waiting commands belong to the outside and are given. -/
def State.fresh (cause : StartCause) (pins : Pins) (waiting : List Instr) : State where
  cfg := Config.blank
  trunk := { line := .active, failCount := 0, failHold := false, confMarks := 0, confExpiries := 0,
             lastSender := none, cycle := none, busy := false, rest := 0, queue := [] }
  window := { number := 0, timer := none, expiries := 0, sent := false, asked := [] }
  roster := []
  table := { claims := [], nextId := 0 }
  plan := { base := none, entries := List.replicate 16 PlanEntry.empty, arriving := PlanEntry.empty }
  hall := { presence := false, gate := .running, holds := 0, resume := 0, stops := [], firstCause := none }
  sync := { status := .listening, listenTimer := none, round := .idle, received := [], roundMarks := 0,
            attempts := 0, askLost := false }
  discharge := { lots := [], lotCounter := 0, progress := none, held := false, beltFault := false,
                 pending := [] }
  filter := { mode := .online, band := .normal, claimId := none, discharge := none, refused := false,
              bypassOpen := false, cleaned := false, held := false, flushRequest := false,
              progress := none, settle := 0, pending := none, postedRank := 0 }
  crusher := { mode := .running, diverter := 7, current := ⟨7, true⟩, previous := ⟨7, true⟩, inbound := [],
               fills := List.replicate 7 0, holds := 0, surge := 0, surgeStop := false, attempts := 0,
               recurrence := none }
  measure := { channels := List.replicate 4 Channel.start, capture := .empty, travel := 0, prescale := 0,
               stallTimer := none }
  seq := { running := none, stack := [], deferred := none, shadow0 := 0, shadow1 := 0, out0 := 0, out1 := 0,
           phase := 0 }
  tone := { cond := .off, phase := 0 }
  mode := { mode := .startHold, startCause := cause, config := .loading, clock := .unproved, clockRun := 0,
            supply := .normal, returnRun := 0, quietWindows := 0, leaveRequest := false, wakeMark := false }
  port := { flags := 0, result := .ok, sdo := [], copy := none }
  pins := pins
  counters := { valid := 0, corrupt := 0, ownFailures := 0, ownRefused := 0, stale := 0,
                shortDischarges := 0, mixed := 0, inboundLost := 0 }
  inReset := false
  reports := []
  pending := waiting

/-- The machine right after reset: a start with cause POWER_ON (R178), both input pins at 0 (DESIGN CHOICE,
unsafe, log 2), no command waiting. -/
def State.reset : State := State.fresh .powerOn ⟨0, false⟩ []

end Sys2Proof.Machine
end

