-- ==== Sys2Proof/Machine/Flags.lean ====
section
/-! DEFINITION. The 16 attention flags, the ATN line (R187), and the eight saturating counters (R186). -/

namespace Sys2Proof.Machine

/-- The attention flags in bit order (R187). -/
inductive Attn where
  | diverged | excluded | listenOnly | stopActive | claimRefused | lotShort | beltFault | bypassOpen
  | flushFault | jammed | binHold | mixedArrival | inboundLost | supplyLow | configFault | clockFault
  deriving DecidableEq, Repr

/-- The bit of an attention flag (R187). -/
def Attn.bit : Attn → Nat
  | .diverged => 0 | .excluded => 1 | .listenOnly => 2 | .stopActive => 3 | .claimRefused => 4
  | .lotShort => 5 | .beltFault => 6 | .bypassOpen => 7 | .flushFault => 8 | .jammed => 9
  | .binHold => 10 | .mixedArrival => 11 | .inboundLost => 12 | .supplyLow => 13
  | .configFault => 14 | .clockFault => 15

/-- The flag word in which one flag alone is set. -/
def Attn.word (f : Attn) : BitVec 16 := BitVec.twoPow 16 f.bit

/-- Raises an attention flag; a flag already set stays set (R187). -/
def State.raise (s : State) (f : Attn) : State :=
  { s with port := { s.port with flags := s.port.flags ||| f.word } }

/-- The attention mask in force: the configuration's once the image is good, all zero before (R187). -/
def State.attnMask (s : State) : BitVec 16 := if s.mode.config = .good then s.cfg.mask else 0

/-- ATN is driven while a flag whose mask bit is 0 is set (R187), and released while the part is held in
reset (chapter 11). -/
def State.atn (s : State) : Bool := !s.inReset && (s.port.flags &&& ~~~s.attnMask) != 0

/-- A 16-bit counter that stops at 65535 rises by `n`. -/
def satAdd (c n : Nat) : Nat := min (c + n) 65535

/-- A taken valid frame is counted (R73). -/
def State.countValid (s : State) : State :=
  { s with counters := { s.counters with valid := satAdd s.counters.valid 1 } }

/-- A corrupt frame is counted (R73). -/
def State.countCorrupt (s : State) : State :=
  { s with counters := { s.counters with corrupt := satAdd s.counters.corrupt 1 } }

/-- A listen-back failure is counted (R79). -/
def State.countOwnFailure (s : State) : State :=
  { s with counters := { s.counters with ownFailures := satAdd s.counters.ownFailures 1 } }

/-- Own claims refused are counted (R8, R13). -/
def State.countRefused (s : State) (n : Nat) : State :=
  { s with counters := { s.counters with ownRefused := satAdd s.counters.ownRefused n } }

/-- Stale commitments are counted (R19). -/
def State.countStale (s : State) (n : Nat) : State :=
  { s with counters := { s.counters with stale := satAdd s.counters.stale n } }

/-- A short discharge or flush is counted (R122, R142). -/
def State.countShort (s : State) : State :=
  { s with counters := { s.counters with shortDischarges := satAdd s.counters.shortDischarges 1 } }

/-- A mixed arrival is counted (R151). -/
def State.countMixed (s : State) : State :=
  { s with counters := { s.counters with mixed := satAdd s.counters.mixed 1 } }

/-- A DONE that found the inbound list full is counted (R150). -/
def State.countInboundLost (s : State) : State :=
  { s with counters := { s.counters with inboundLost := satAdd s.counters.inboundLost 1 } }

end Sys2Proof.Machine
end

