-- ==== Sys2Proof/WellFormed.lean ====
section
/-! DEFINITION. Which commands are well formed: the limits of R73, R185 and R191 that the operand types
do not carry themselves. -/

namespace Sys2Proof

/-- The command codes the inspection port knows (R189). -/
def portCodes : List Nat :=
  [0x10, 0x11, 0x12, 0x13, 0x14, 0x15, 0x16, 0x17, 0x18, 0x19,
   0x21, 0x22, 0x23, 0x24, 0x25, 0x26, 0x27, 0x28, 0x29, 0x2A, 0x2B, 0x30]

/-- The records of a ROW are carried in ascending id order; equal ids are left to R13. -/
def idsAscend : List RowRecord → Bool
  | [] => true
  | [_] => true
  | a :: b :: r => decide (a.id.toNat ≤ b.id.toNat) && idsAscend (b :: r)

/-- A ROW body as R12 and R73 allow it: 0 to 7 records in ascending id order. -/
def RowBody.wellFormed (b : RowBody) : Bool := decide (b.records.length ≤ 7) && idsAscend b.records

/-- The well-formed commands. -/
def Instr.wellFormed : Instr → Bool
  | .row (.peer _ b) => b.wellFormed
  | .configLoad (some image) => decide (image.length = 128)
  | .unknownCommand code => !portCodes.contains code.toNat
  | _ => true

end Sys2Proof
end

