-- ==== Sys2Proof/Decode.lean ====
section
/-! DEFINITION. Bytes to commands: the CRC-16 (Conventions, "Check words"), trunk frames (R73, R190),
port transactions (R185, R189), the configuration image (R179, R191), and `decodeTableWord`, which
answers none since no row of spec/opcode_table.json gives bits. -/

namespace Sys2Proof

/-! ## The CRC-16 -/

/-- One step of the CRC-16 with polynomial 0x1021: one message bit, most significant first. -/
def crcBit (c : Half) (bit : Bool) : Half :=
  if c.getLsbD 15 != bit then (c <<< 1) ^^^ 0x1021#16 else c <<< 1

/-- One message byte into the CRC-16, most significant bit first (R22, R73). -/
def crcByte (c : Half) (b : Byte) : Half :=
  let c := crcBit c (b.getLsbD 7)
  let c := crcBit c (b.getLsbD 6)
  let c := crcBit c (b.getLsbD 5)
  let c := crcBit c (b.getLsbD 4)
  let c := crcBit c (b.getLsbD 3)
  let c := crcBit c (b.getLsbD 2)
  let c := crcBit c (b.getLsbD 1)
  crcBit c (b.getLsbD 0)

/-- The CRC-16 of the trunk frame check and of both digests: polynomial 0x1021, initial value 0xFFFF, no
final inversion (Conventions, R22, R73). -/
def crc16 (bytes : List Byte) : Half := bytes.foldl crcByte 0xFFFF#16

/-- The high byte of a two-byte field. -/
def hiByte (h : Half) : Byte := (h >>> 8).setWidth 8

/-- The low byte of a two-byte field. -/
def loByte (h : Half) : Byte := h.setWidth 8

/-- Two bytes, high byte first (R22, R190). -/
def halfOf (hi lo : Byte) : Half := hi ++ lo

/-- A two-byte field, high byte first (R190). -/
def halfBytes (h : Half) : List Byte := [hiByte h, loByte h]

/-! ## Trunk frames -/

/-- A one-byte flag: 0 clear, any other value set (R190). -/
def flagOf (b : Byte) : Bool := b != 0

/-- A flag as the station sends it. -/
def flagByte (f : Bool) : Byte := if f then 1 else 0

/-- The kind code of a frame (R190). -/
def FrameKind.code : FrameKind → Byte
  | .mark => 0x01 | .hello => 0x02 | .present => 0x03 | .claim => 0x04 | .withdraw => 0x05
  | .done => 0x06 | .gate => 0x07 | .stop => 0x08 | .release => 0x09 | .ask => 0x0A | .row => 0x0B

/-- The kind of a body. -/
def Body.kind : Body → FrameKind
  | .mark _ => .mark | .hello _ => .hello | .present _ => .present | .claim _ => .claim
  | .withdraw _ => .withdraw | .done _ => .done | .gate _ => .gate | .stop _ => .stop
  | .release _ => .release | .ask _ => .ask | .row _ => .row

/-- The station byte: role code in bits 7 and 6, transit in 5 to 3, ceiling in 2 to 0 (R190). -/
def stationByte (i : StationInfo) : Byte := (i.role ++ i.transit ++ i.ceiling : BitVec 8)

/-- The station information that a station byte and a parameter digest give. -/
def stationInfoOf (b : Byte) (digest : Half) : StationInfo :=
  ⟨b.extractLsb' 6 2, b.extractLsb' 3 3, b.extractLsb' 0 3, digest⟩

/-- The six bytes of a ROW claim record (R190). -/
def RowRecord.bytes (r : RowRecord) : List Byte :=
  [r.id,
   (BitVec.ofBool r.flush ++ r.cls ++ BitVec.ofBool r.committed ++ BitVec.ofBool r.remainder ++ 0#2 : BitVec 8),
   r.volume,
   (r.rank ++ 0#1 ++ r.age : BitVec 8),
   r.p, r.c]

/-- A ROW claim record from its six bytes; the bits the layout gives as zero are not read (R190). -/
def rowRecordOf (id flags volume rankAge p c : Byte) : RowRecord :=
  ⟨id, flags.getLsbD 7, flags.extractLsb' 4 3, flags.getLsbD 3, flags.getLsbD 2, volume,
   rankAge.extractLsb' 5 3, rankAge.extractLsb' 0 4, p, c⟩

/-- The records of a ROW, six bytes each. -/
def rowRecordsOf : List Byte → Option (List RowRecord)
  | [] => some []
  | id :: flags :: volume :: rankAge :: p :: c :: r =>
    (rowRecordsOf r).map (rowRecordOf id flags volume rankAge p c :: ·)
  | _ => none

/-- The body bytes of a frame, in the order of R190. -/
def Body.bytes : Body → List Byte
  | .mark b => halfBytes b.window ++ halfBytes b.digest ++ [b.count]
  | .hello b => [stationByte b.info] ++ halfBytes b.info.digest ++ [flagByte b.leaving]
  | .present _ => []
  | .claim b => [b.id, b.kind, b.cls, b.volume, b.rank, flagByte b.remainder]
  | .withdraw b => [b.id]
  | .done b => [b.id, b.volume, flagByte b.short] ++ halfBytes b.arrival ++ [b.cls]
  | .gate b => [b.state, b.holds.setWidth 8] ++ halfBytes b.resume
  | .stop b => [b.cause]
  | .release b => [b.target, flagByte b.force]
  | .ask b => [b.target, b.subject]
  | .row b => [stationByte b.info] ++ halfBytes b.info.digest ++ halfBytes b.window
      ++ (b.records.map RowRecord.bytes).flatten

/-- The body of a frame of the kind with code `kind`, from its bytes: none when the code is no kind's or
the length is not one its kind allows (R73, R190). -/
def bodyOf (kind : Byte) (bytes : List Byte) : Option Body :=
  match kind.toNat, bytes with
  | 0x01, [w1, w0, d1, d0, n] => some (.mark ⟨halfOf w1 w0, halfOf d1 d0, n⟩)
  | 0x02, [s, d1, d0, l] => some (.hello ⟨stationInfoOf s (halfOf d1 d0), flagOf l⟩)
  | 0x03, [] => some (.present ⟨⟩)
  | 0x04, [id, k, c, v, r, m] => some (.claim ⟨id, k, c, v, r, flagOf m⟩)
  | 0x05, [id] => some (.withdraw ⟨id⟩)
  | 0x06, [id, v, s, a1, a0, c] => some (.done ⟨id, v, flagOf s, halfOf a1 a0, c⟩)
  | 0x07, [s, h, r1, r0] => some (.gate ⟨s, h.setWidth 7, halfOf r1 r0⟩)
  | 0x08, [c] => some (.stop ⟨c⟩)
  | 0x09, [t, f] => some (.release ⟨t, flagOf f⟩)
  | 0x0A, [t, s] => some (.ask ⟨t, s⟩)
  | 0x0B, s :: d1 :: d0 :: w1 :: w0 :: r =>
    match rowRecordsOf r with
    | some records =>
      if records.length ≤ 7 then some (.row ⟨stationInfoOf s (halfOf d1 d0), halfOf w1 w0, records⟩) else none
    | none => none
  | _, _ => none

/-- The bytes the frame check covers: KIND, SENDER, LEN and the body (R73, R190). -/
def checkedBytes (sender : Addr) (b : Body) : List Byte :=
  b.kind.code :: BitVec.ofNat 8 sender.val :: BitVec.ofNat 8 b.bytes.length :: b.bytes

/-- The bytes of a frame as it is sent: LEAD, KIND, SENDER, LEN, BODY, CHECK (R76, R190). -/
def frameBytes (sender : Addr) (b : Body) : List Byte :=
  0xB5#8 :: checkedBytes sender b ++ halfBytes (crc16 (checkedBytes sender b))

/-- A trunk address from a byte, where it is one. -/
def addrOf (b : Byte) : Option Addr := if h : b.toNat < 32 then some ⟨b.toNat, h⟩ else none

/-- The validity tests of R73 on the bytes of a frame this station did not transmit: its SENDER and body
when it is valid, none when it is corrupt. -/
def frameOf (framingError : Bool) (bytes : List Byte) : Option (Addr × Body) :=
  if framingError || 54 < bytes.length then none
  else match bytes with
    | lead :: kind :: sender :: len :: rest =>
      let body := rest.take len.toNat
      if lead = 0xB5#8 ∧ len.toNat ≤ 48 ∧ rest.length = len.toNat + 2
          ∧ rest.drop len.toNat = halfBytes (crc16 (kind :: sender :: len :: body)) then
        match addrOf sender, bodyOf kind body with
        | some a, some b => some (a, b)
        | _, _ => none
      else none
    | _ => none

/-- The command by which the blocks take a frame received from a peer (R73). -/
def Body.received (sender : Addr) : Body → Instr
  | .mark b => .mark (.peer sender b)
  | .hello b => .hello (.peer sender b)
  | .present b => .present (.peer sender b)
  | .claim b => .claim (.peer sender b)
  | .withdraw b => .withdraw (.peer sender b)
  | .done b => .done (.peer sender b)
  | .gate b => .gate (.peer sender b)
  | .stop b => .stop (.peer sender b)
  | .release b => .release (.peer sender b)
  | .ask b => .ask (.peer sender b)
  | .row b => .row (.peer sender b)

/-- The command by which the blocks take an own frame of a kind by good listen-back (R78). -/
def FrameKind.heardBack : FrameKind → Instr
  | .mark => .mark .own | .hello => .hello .own | .present => .present .own | .claim => .claim .own
  | .withdraw => .withdraw .own | .done => .done .own | .gate => .gate .own | .stop => .stop .own
  | .release => .release .own | .ask => .ask .own | .row => .row .own

/-- The command that the end of a frame this station did not transmit gives (R72, R73). -/
def frameEnd (framingError : Bool) (bytes : List Byte) : Instr :=
  match frameOf framingError bytes with
  | some (a, b) => b.received a
  | none => .corruptFrame

/-- The command that the end of a frame this station transmitted gives: good when the received bytes are
a valid frame and equal the bytes sent (R78), a listen-back failure otherwise (R79). -/
def ownFrameEnd (own : Addr) (sent : Body) (framingError : Bool) (received : List Byte) : Instr :=
  match frameOf framingError received with
  | some (a, _) =>
    if received = frameBytes own sent then sent.kind.heardBack else .listenBackFailure (some a)
  | none => .listenBackFailure none

/-! ## Port transactions -/

/-- The command of a port transaction, from the whole bytes clocked between the fall and the rise of
NSEL: the command byte, its arguments, and the bytes clocked with its response (R185, R189). -/
def portCommand (clocked : List Byte) : Instr :=
  match clocked with
  | [] => .spiIncomplete
  | c :: rest =>
    match c.toNat, rest with
    | 0x10, _ => .readStatus
    | 0x11, a :: _ => .readRoster a
    | 0x12, a :: _ => .readClaim a
    | 0x13, a :: _ => .readPlan a
    | 0x14, _ => .readHallCondition
    | 0x15, a :: _ => .readLot a
    | 0x16, a :: _ => .readChannel a
    | 0x17, _ => .readCounters
    | 0x18, _ => .readStartCause
    | 0x19, _ => .peekAttention
    | 0x21, _ => .hold
    | 0x22, _ => .releaseHold
    | 0x23, _ => .lotClose
    | 0x24, _ => .flushNow
    | 0x25, _ => .clearFault
    | 0x26, _ => .hallStop
    | 0x27, _ => .hallRelease
    | 0x28, a :: _ => .forceRelease a
    | 0x29, _ => .leave
    | 0x2A, _ => .wake
    | 0x2B, _ => .reset
    | 0x30, _ :: _ :: _ => .takeAttention
    | n, _ => if portCodes.contains n then .spiIncomplete else .unknownCommand c

/-- The bytes a controller clocks in to give a port command; none for a command that does not come over
the port (R189). -/
def portBytes : Instr → Option (List Byte)
  | .readStatus => some [0x10]
  | .readRoster a => some [0x11, a]
  | .readClaim a => some [0x12, a]
  | .readPlan a => some [0x13, a]
  | .readHallCondition => some [0x14]
  | .readLot a => some [0x15, a]
  | .readChannel a => some [0x16, a]
  | .readCounters => some [0x17]
  | .readStartCause => some [0x18]
  | .peekAttention => some [0x19]
  | .hold => some [0x21]
  | .releaseHold => some [0x22]
  | .lotClose => some [0x23]
  | .flushNow => some [0x24]
  | .clearFault => some [0x25]
  | .hallStop => some [0x26]
  | .hallRelease => some [0x27]
  | .forceRelease a => some [0x28, a]
  | .leave => some [0x29]
  | .wake => some [0x2A]
  | .reset => some [0x2B]
  | .takeAttention => some [0x30, 0, 0]
  | .unknownCommand c => some [c]
  | .spiIncomplete => some []
  | _ => none

/-! ## The configuration image -/

/-- The byte of the image at an address. -/
def imageByte (image : List Byte) (i : Nat) : Nat := (image.getD i 0).toNat

/-- The two-byte field of the image at an address, high byte first. R191 says so of the check word; for every other
field it is a DESIGN CHOICE, unsafe (log 58). -/
def imageHalf (image : List Byte) (i : Nat) : Nat := imageByte image i * 256 + imageByte image (i + 1)

/-- A field of the image that must lie in a range (R179). -/
def inRange (low n high : Nat) : Option Nat := if low ≤ n ∧ n ≤ high then some n else none

/-- The bound pair of a class from the hall section: each 1 to 255, minimum not above maximum. -/
def boundsOf (image : List Byte) (i : Nat) : Option Bounds := do
  let lo ← inRange 1 (imageByte image i) 255
  let hi ← inRange lo (imageByte image (i + 1)) 255
  return ⟨lo, hi⟩

/-- The hall section, bytes 0 to 19 (R191), with the parameter digest over it (R179). -/
def hallParamsOf (image : List Byte) : Option HallParams := do
  let lineRate ← inRange 0 (imageByte image 0) 2
  let w ← inRange 4 (imageByte image 1) 60
  let b ← inRange 16 (imageHalf image 2) 1023
  let k ← inRange 1 (imageByte image 4) 4
  let a ← inRange 1 (imageByte image 5) 15
  let bounds ← [6, 8, 10, 12, 14, 16, 18].mapM (boundsOf image)
  return ⟨lineRate, w, b, k, a, bounds, crc16 (image.take 20)⟩

/-- A role code of the configuration (R191). -/
def roleOf (n : Nat) : Option Role :=
  match n with
  | 1 => some .discharge
  | 2 => some .filter
  | 3 => some .crusher
  | _ => none

/-- One channel's six bytes of the station section (R191). -/
def channelOf (image : List Byte) (i : Nat) : Option ChannelParams := do
  let rate ← inRange 1 (imageByte image i) 16
  let low ← inRange 0 (imageHalf image (i + 1)) 4095
  let high ← inRange 0 (imageHalf image (i + 3)) 4095
  let n ← inRange 1 (imageByte image (i + 5)) 15
  return ⟨rate, low, high, n⟩

/-- The role part of a discharge station (R108, R191). -/
def dischargeParamsOf (image : List Byte) : Option DischargeParams := do
  let rank ← inRange 0 (imageByte image 55) 7
  let age ← inRange 1 (imageByte image 56) 255
  let factors ← [57, 59, 61, 63, 65, 67].mapM (fun i => inRange 1 (imageHalf image i) 1023)
  let index ← inRange 5 (imageByte image 69) 100
  return ⟨rank, age, factors, index, imageByte image 70, imageByte image 71, imageByte image 72⟩

/-- The role part of a filter station (R133, R191). -/
def filterParamsOf (image : List Byte) : Option FilterParams := do
  let rank ← inRange 0 (imageByte image 55) 7
  let volume ← inRange 1 (imageByte image 56) 255
  let flush ← inRange 0 (imageHalf image 57) 4095
  let urgent ← inRange 0 (imageHalf image 59) 4095
  let fraction ← inRange 1 (imageByte image 62) 16
  let proving ← inRange 1 (imageByte image 64) 50
  return ⟨rank, volume, flush, urgent, imageByte image 61, fraction, imageByte image 63, proving⟩

/-- The role part of a crusher station (R147, R191). -/
def crusherParamsOf (image : List Byte) : Option CrusherParams := do
  let capacities ← [55, 57, 59, 61, 63, 65, 67].mapM (fun i => inRange 1 (imageHalf image i) 65535)
  let thresholds ← [0, 1, 2, 3, 4, 5, 6].mapM
    (fun i => inRange 1 (imageHalf image (69 + 2 * i)) (capacities.getD i 0))
  let surge ← inRange 1 (imageHalf image 83) 4095
  let drain ← inRange 1 (imageByte image 85) 255
  let reversal ← inRange 5 (imageByte image 86) 100
  return ⟨capacities, thresholds, surge, drain, reversal, imageByte image 87, imageByte image 88,
    imageByte image 89⟩

/-- The configuration that an image gives, or none when the image is bad: its length or its check word
is wrong, or a field lies outside its range (R179, R191). The encoder prescaler and the stall time are tested at
every role, at a filter station too, which uses neither: DESIGN CHOICE, unsafe (log 59). The attention mask is read
high byte first: DESIGN CHOICE, unsafe (log 58). -/
def configOf (image : List Byte) : Option Config := do
  if image.length = 128 ∧ imageHalf image 126 = (crc16 (image.take 126)).toNat then
    let hall ← hallParamsOf image
    let address ← addrOf (image.getD 20 0)
    let role ← roleOf (imageByte image 21)
    let transit ← inRange 0 (imageByte image 22) 7
    let ceiling ← inRange 0 (imageByte image 23) 7
    let dormancy ← inRange 0 (imageByte image 26) 1
    let delay ← inRange 1 (imageByte image 27) 255
    let threshold ← inRange 0 (imageByte image 28) 3
    let channels ← [29, 35, 41, 47].mapM (channelOf image)
    let prescaler ← inRange 0 (imageByte image 53) 7
    let stall ← inRange 1 (imageByte image 54) 50
    let dis ← if role = .discharge then dischargeParamsOf image else some DischargeParams.blank
    let fil ← if role = .filter then filterParamsOf image else some FilterParams.blank
    let cru ← if role = .crusher then crusherParamsOf image else some CrusherParams.blank
    return {
      hall := hall, address := address, role := role, transit := transit, ceiling := ceiling,
      mask := halfOf (image.getD 24 0) (image.getD 25 0), dormancy := dormancy = 1,
      dormantDelay := delay, supplyThreshold := 34 + 3 * threshold, channels := channels,
      prescaler := 2 ^ prescaler, stallTime := stall, dis := dis, fil := fil, cru := cru }
  else none

/-! ## The host's table words -/

/-- The command that a word of spec/opcode_table.json spells. No row of the table gives bits (every
row's "fields" is empty and none has "fixed"), so no word spells a command. -/
def decodeTableWord (_nbits _w : Nat) : Option Instr := none

end Sys2Proof
end

