-- ==== Sys2Proof/Machine/Operands.lean ====
section
/-! DEFINITION. What the raw operand fields of frames and events stand for (R190), and how the model's
values go back into frames. -/

namespace Sys2Proof.Machine

/-- The kind byte of a CLAIM: 0 LOT, 1 FLUSH (R190). -/
def claimKindOf (b : Byte) : Option ClaimKind :=
  match b.toNat with
  | 0 => some .lot
  | 1 => some .flush
  | _ => none

/-- The kind code of a claim: 0 LOT, 1 FLUSH (R24, R190). -/
def ClaimKind.code : ClaimKind → Nat
  | .lot => 0
  | .flush => 1

/-- The class suits the kind: 1 to 6 for a LOT, 7 for a FLUSH (R4, R13). -/
def classSuits (k : ClaimKind) (cls : Nat) : Bool :=
  match k with
  | .lot => decide (1 ≤ cls) && decide (cls ≤ 6)
  | .flush => cls == 7

/-- The role code of a station byte (R59). -/
def roleOfCode (c : BitVec 2) : Option Role := roleOf c.toNat

/-- The role code of a role: 1 DISCHARGE, 2 FILTER, 3 CRUSHER (R23, R190). -/
def roleCode : Role → Nat
  | .discharge => 1
  | .filter => 2
  | .crusher => 3

/-- The crusher state code of a GATE (R29, R190). -/
def gateViewOf (b : Byte) : Option GateView :=
  match b.toNat with
  | 0 => some .running
  | 1 => some .holding
  | 2 => some .jammed
  | _ => none

/-- The code of a gate view (R25, R190). -/
def GateView.code : GateView → Nat
  | .running => 0
  | .holding => 1
  | .jammed => 2

/-- The cause code of a STOP (R30, R190). -/
def stopCauseOf (b : Byte) : Option StopCause :=
  match b.toNat with
  | 1 => some .jam
  | 2 => some .surgeFull
  | 3 => some .operator
  | _ => none

/-- The code of a stop cause (R25, R190). -/
def StopCause.code : StopCause → Nat
  | .jam => 1
  | .surgeFull => 2
  | .operator => 3

/-- Whom an ASK is put to (R190). -/
inductive AskTarget where
  | all
  | station (a : Addr)
  deriving DecidableEq, Repr

/-- What an ASK asks for (R190). -/
inductive AskSubject where
  | hello
  | row
  deriving DecidableEq, Repr

/-- An ASK's target and subject; an ASK with an out-of-range field is taken by no block (R190). -/
def askOf (b : AskBody) : Option (AskTarget × AskSubject) :=
  let target := if b.target = 0xFF#8 then some AskTarget.all else (addrOf b.target).map .station
  let subject := match b.subject.toNat with
    | 1 => some AskSubject.hello
    | 2 => some AskSubject.row
    | _ => none
  match target, subject with
  | some t, some u => some (t, u)
  | _, _ => none

/-- The hold of a class 1 to 7 among the class holds (R29). -/
def classHeld (holds : BitVec 7) (cls : Nat) : Bool := holds.getLsbD (cls - 1)

/-- A number as one byte of a frame or digest. -/
def byteOf (n : Nat) : Byte := BitVec.ofNat 8 n

/-- The byte of an address. -/
def addrByte (a : Addr) : Byte := byteOf a.val

/-- The average of four conversions: their sum divided by 4, rounded down (R164).
DEDUCED, unsafe (log 31). -/
def conversionAverage (c : Conversions) : Nat :=
  (c.c0.toNat + c.c1.toNat + c.c2.toNat + c.c3.toNat) / 4

end Sys2Proof.Machine
end

