-- ==== Sys2Proof/Machine/Windows.lean ====
section
/-! DEFINITION. Window arithmetic, modulo 65536 (Conventions, "Window numbers"). -/

namespace Sys2Proof.Machine

/-- The count from one window forward to another, 0 to 65535 (section 2.4). -/
def fwd (a b : Window) : Nat := (b - a).toNat

/-- `a` is earlier than `b`: `b` is reached from `a` by adding 1 to 255 (Conventions). -/
def earlier (a b : Window) : Bool := decide (1 ≤ fwd a b) && decide (fwd a b ≤ 255)

/-- `w` is window `m` or earlier, where windows 256 or more apart are taken as earlier (Conventions). -/
def dueBy (w m : Window) : Bool := !earlier m w

/-- `w` is earlier than `m` in the sense of R19: neither `m` nor 1 to 255 windows after `m`. -/
def staleAt (w m : Window) : Bool := dueBy w m && w != m

/-- A window a number of windows after another. -/
def plus (w : Window) (n : Nat) : Window := w + BitVec.ofNat 16 n

/-- A window a number of windows before another. -/
def minus (w : Window) (n : Nat) : Window := w - BitVec.ofNat 16 n

end Sys2Proof.Machine
end

