-- ==== Sys2Proof/Machine/Ops.lean ====
section
/-! DEFINITION. Named operations that every block uses: the report record, the station's own identity,
look-ups, and the configured times in ticks. -/

namespace Sys2Proof.Machine

/-- Records a report of one block to another, after those already made in this command. -/
def State.report (s : State) (r : Report) : State := { s with reports := s.reports ++ [r] }

/-- The station's own trunk address. -/
def State.own (s : State) : Addr := s.cfg.address

/-- The trunk receiver, the measurement unit, the role unit and the outputs work in every station mode
except START_HOLD and DORMANT (R71, section 10.2, R183), and nothing works in reset (R178). -/
def State.awake (s : State) : Bool :=
  !s.inReset && s.mode.mode != .startHold && s.mode.mode != .dormant

/-- The station mode is RUN or QUIET. -/
def State.working (s : State) : Bool := s.mode.mode == .run || s.mode.mode == .quiet

/-- The line state is ACTIVE. -/
def State.lineActive (s : State) : Bool := s.trunk.line == .active

/-- The sync state is EXCLUDED. -/
def SyncStatus.isExcluded : SyncStatus → Bool
  | .excluded _ => true
  | _ => false

/-- The sync state is SYNCING or DIVERGED: the station is mending its table. -/
def SyncStatus.mending : SyncStatus → Bool
  | .syncing => true
  | .diverged => true
  | _ => false

/-- The sync state is SYNCING, SYNCED or DIVERGED: the station takes part in the trunk's exchanges (R55,
R64, R96, R155). -/
def SyncStatus.joined : SyncStatus → Bool
  | .syncing => true
  | .synced => true
  | .diverged => true
  | _ => false

/-- The roster entry for an address, if any (R57). -/
def entryOf (roster : List RosterEntry) (a : Addr) : Option RosterEntry :=
  roster.find? (fun e => e.addr == a)

/-- A roster entry is EXCLUDED. -/
def RosterEntry.isExcluded (e : RosterEntry) : Bool :=
  match e.status with
  | .excluded _ => true
  | _ => false

/-- The sender's roster entry exists and is EXCLUDED. -/
def State.senderExcluded (s : State) (a : Addr) : Bool :=
  match entryOf s.roster a with
  | some e => e.isExcluded
  | none => false

/-- The transit of an owner's roster entry (R40, R44). A claim's owner always has an entry; without one
the transit counts as 0 (DEDUCED, safe, log 5). -/
def transitOf (roster : List RosterEntry) (a : Addr) : Nat :=
  match entryOf roster a with
  | some e => e.transit
  | none => 0

/-- The ceiling of an owner's roster entry (R3). A claim's owner always has an entry; without one the
ceiling counts as 0 (DEDUCED, safe, log 5). -/
def ceilingOf (roster : List RosterEntry) (a : Addr) : Nat :=
  match entryOf roster a with
  | some e => e.ceiling
  | none => 0

/-- The bound pair of a class 1 to 7 (R4). -/
def State.boundsOf (s : State) (cls : Nat) : Bounds := s.cfg.hall.bounds.getD (cls - 1) ⟨0, 0⟩

/-- The claim is COMMITTED. -/
def Claim.isCommitted (c : Claim) : Bool :=
  match c.status with
  | .committed _ => true
  | .waiting => false

/-- The station's own claims, in table order. -/
def State.ownClaims (s : State) : List Claim := s.table.claims.filter (fun c => c.owner == s.own)

/-- The station's own claim with an id, if its table holds one. -/
def State.ownClaim (s : State) (id : Byte) : Option Claim :=
  s.table.claims.find? (fun c => c.owner == s.own && c.id == id)

/-! ## Times in ticks of 2 µs (DESIGN CHOICE, log 1) -/

/-- 0.1 s. -/
def tenth : Nat := 50000

/-- W (R51): the configuration gives it in units of 0.5 s. -/
def State.windowTicks (s : State) : Nat := s.cfg.hall.w * 250000

/-- The flush time: the flush fraction times W divided by 16 (R133). -/
def State.flushTicks (s : State) : Nat := s.cfg.fil.fraction * s.cfg.hall.w * 15625

/-- The proving time (R133). -/
def State.provingTicks (s : State) : Nat := s.cfg.fil.proving * tenth

/-- The index time (R108). -/
def State.indexTicks (s : State) : Nat := s.cfg.dis.indexTime * tenth

/-- The reversal time (R147). -/
def State.reversalTicks (s : State) : Nat := s.cfg.cru.reversal * tenth

/-- The stall time (R168). -/
def State.stallTicks (s : State) : Nat := s.cfg.stallTime * tenth

/-- One bit time at the hall's line rate (section 4, times). -/
def State.bitTicks (s : State) : Nat :=
  match s.cfg.hall.lineRate with
  | 0 => 4
  | 1 => 2
  | _ => 1

/-! ## Small list operations -/

/-- Inserts by a strict order before the first element that the new one precedes. -/
def insertBy {α : Type} (before : α → α → Bool) (x : α) : List α → List α
  | [] => [x]
  | y :: r => if before x y then x :: y :: r else y :: insertBy before x r

/-- The index of the last element that satisfies `p`. -/
def lastIdx {α : Type} (p : α → Bool) : List α → Option Nat
  | [] => none
  | x :: r =>
    match lastIdx p r with
    | some i => some (i + 1)
    | none => if p x then some 0 else none

/-- The element that comes first by a strict order, the earliest in the list among equals. -/
def firstBy {α : Type} (before : α → α → Bool) : List α → Option α
  | [] => none
  | x :: r =>
    match firstBy before r with
    | some y => if before y x then some y else some x
    | none => some x

/-- Adds an address to a set kept as a list without repeats. -/
def addAddr (a : Addr) (l : List Addr) : List Addr := if l.contains a then l else l ++ [a]

end Sys2Proof.Machine
end

