-- ==== Sys2Proof/Machine/Digest.lean ====
section
/-! DEFINITION. The state digest and the claim count of a MARK (section 1.6). -/

namespace Sys2Proof.Machine

/-- A flag as one byte. -/
def boolByte (b : Bool) : Byte := if b then 1 else 0

/-- The four digest bytes of a roster entry (R23). -/
def RosterEntry.digestBytes (e : RosterEntry) : List Byte :=
  [addrByte e.addr, byteOf (roleCode e.role), byteOf e.transit, byteOf e.ceiling]

/-- The roster part of the digest: every entry that is not EXCLUDED, in address order (R23). -/
def rosterPart (roster : List RosterEntry) : List Byte :=
  ((roster.filter (fun e => !e.isExcluded)).map RosterEntry.digestBytes).flatten

/-- The digest bytes of a claim: 11 while WAITING, 13 while COMMITTED (R24). -/
def Claim.digestBytes (c : Claim) : List Byte :=
  [addrByte c.owner, c.id, byteOf c.kind.code, byteOf c.cls, byteOf c.volume, byteOf c.effective,
   byteOf c.age] ++ halfBytes c.posted ++
  match c.status with
  | .waiting => [0, boolByte c.remainder]
  | .committed arrival => [1, boolByte c.remainder] ++ halfBytes arrival

/-- The claim part of the digest, in table order (R24). -/
def claimPart (claims : List Claim) : List Byte := (claims.map Claim.digestBytes).flatten

/-- The hall part of the digest (R25). -/
def hallPart (h : HallState) : List Byte :=
  [boolByte h.presence, byteOf h.gate.code, h.holds.setWidth 8] ++ halfBytes h.resume
  ++ [byteOf h.stops.length] ++ (h.stops.map (fun e => [addrByte e.addr, byteOf e.cause.code])).flatten

/-- The bytes the state digest is taken over: roster part, claim part, hall part (R22). -/
def digestInput (roster : List RosterEntry) (claims : List Claim) (h : HallState) : List Byte :=
  rosterPart roster ++ claimPart claims ++ hallPart h

/-- The state digest (R22). -/
def State.digest (s : State) : Half := crc16 (digestInput s.roster s.table.claims s.hall)

/-- The claim count (R21). -/
def State.claimCount (s : State) : Byte := byteOf s.table.claims.length

end Sys2Proof.Machine
end

