-- ==== Sys2Proof/Machine/Queue.lean ====
section
/-! DEFINITION. The outgoing queue as data (section 4.4): classes, head, merging, displacement. The
queue's order is the order of entry, oldest first. -/

namespace Sys2Proof.Machine

/-- The frame kind of a queue entry. -/
def QBody.kind : QBody → FrameKind
  | .mark => .mark | .present => .present | .gate => .gate | .row => .row
  | .hello _ => .hello | .claim _ => .claim | .withdraw _ => .withdraw | .done _ => .done
  | .stop _ => .stop | .release _ => .release | .ask _ => .ask

/-- The queue class of a kind, class 1 being the best (R82). -/
def classOf : FrameKind → Nat
  | .mark => 1 | .gate => 1 | .stop => 1 | .release => 1
  | .done => 2 | .withdraw => 2
  | .claim => 3 | .row => 3 | .hello => 3 | .ask => 3
  | .present => 4

/-- The queue class of an entry. -/
def QFrame.cls (f : QFrame) : Nat := classOf f.body.kind

/-- The entry is waiting: its frame is not in flight. -/
def QFrame.waiting (f : QFrame) : Bool := f.sent.isNone

/-- A new entry for a request. -/
def newFrame (b : QBody) (who : Block) (urgent : Bool) : QFrame := ⟨b, who, urgent, none, false, false⟩

/-- The head of the queue: the oldest frame of the best class present (R82). -/
def headOf (q : List QFrame) : Option QFrame := firstBy (fun a b => decide (a.cls < b.cls)) q

/-- The index of the head. -/
def headIdx (q : List QFrame) : Option Nat :=
  match headOf q with
  | some f => q.findIdx? (fun g => g.cls == f.cls)
  | none => none

/-- The index of the oldest urgent frame (R77). -/
def urgentIdx (q : List QFrame) : Option Nat := q.findIdx? (fun f => f.urgent)

/-- The index of the frame that a request of class `c` displaces: the newest waiting frame of the worst
class present that is worse than `c` (R86). -/
def victimIdx (c : Nat) (q : List QFrame) : Option Nat :=
  let newest (k : Nat) := if c < k then lastIdx (fun f => f.waiting && f.cls == k) q else none
  match newest 4 with
  | some i => some i
  | none =>
    match newest 3 with
    | some i => some i
    | none => newest 2

/-- What a request does to the queue: the queue after it, the request's own fate, and the fates of
other entries it removed (R84 to R86, R88). -/
structure QResult where
  queue : List QFrame
  fate : Fate
  others : List (Block × QBody × Fate)

/-- Enters a new frame, displacing a worse one when the queue is full (R86). -/
def enter (q : List QFrame) (f : QFrame) : QResult :=
  if q.length < 8 then ⟨q ++ [f], .queued, []⟩
  else
    match victimIdx f.cls q with
    | none => ⟨q, .refused .full, []⟩
    | some i =>
      ⟨q.eraseIdx i ++ [f], .queued,
        ((q[i]?).map (fun v => (v.who, v.body, Fate.displaced))).toList⟩

/-- The entry is a waiting CLAIM of an id. -/
def QFrame.waitingClaim (id : Byte) (f : QFrame) : Bool :=
  match f.body with
  | .claim b => f.waiting && b.id == id
  | _ => false

/-- The entry is a WITHDRAW of an id. -/
def QFrame.withdrawOf (id : Byte) (f : QFrame) : Bool :=
  match f.body with
  | .withdraw b => b.id == id
  | _ => false

/-- A GATE request finding its kind queued marks a GATE in flight for a follow-up (R84). -/
def markFollowUp (f : QFrame) : QFrame :=
  if f.body = .gate ∧ f.sent.isSome then { f with followUp := true } else f

/-- Settles a request against the queue: absorption of the built kinds (R84), replacement of a waiting
CLAIM and cancellation by a WITHDRAW (R85), entry or displacement (R86). `tableHolds` says that the own
table holds an own claim of an id. -/
def settleRequest (q : List QFrame) (f : QFrame) (tableHolds : Byte → Bool) : QResult :=
  match f.body with
  | .mark | .present | .gate | .row =>
    if q.any (fun g => g.body = f.body) then
      ⟨if f.body = .gate then q.map markFollowUp else q, .absorbed, []⟩
    else enter q f
  | .claim b =>
    if q.any (fun g => g.waitingClaim b.id) then
      ⟨q.map (fun g => if g.waitingClaim b.id then { g with body := f.body } else g), .replaced, []⟩
    else enter q f
  | .withdraw b =>
    let gone := (q.filter (fun g => g.waitingClaim b.id)).map (fun g => (g.who, g.body, Fate.cancelled))
    let q' := q.filter (fun g => !g.waitingClaim b.id)
    if gone ≠ [] ∧ tableHolds b.id = false then ⟨q', .cancelled, gone⟩
    else if q'.any (fun g => g.withdrawOf b.id) then ⟨q', .absorbed, gone⟩
    else
      let r := enter q' f
      ⟨r.queue, r.fate, gone ++ r.others⟩
  | _ => enter q f

/-- The frame in flight, if any (R76). -/
def inFlight (q : List QFrame) : Option QFrame := q.find? (fun f => f.sent.isSome)

end Sys2Proof.Machine
end

