-- ==== Sys2Proof/Machine/Requests.lean ====
section
/-! DEFINITION. Requests for frames and the reports of their fates to the requesting blocks (R86 to R88),
with what each block does on such a report (R100, R118, R124, R138, R141). -/

namespace Sys2Proof.Machine

/-- The fate is one after which the frame will not be sent without a new request. -/
def Fate.lost : Fate → Bool
  | .refused _ => true
  | .displaced => true
  | .dropped _ => true
  | _ => false

/-! ## The discharge unit -/

/-- What the fate of a CLAIM makes of the SEALED lot posted under its id (R118). A lot already CLAIMED or
COMMITTED under the id is left as it is: DESIGN CHOICE, unsafe (log 45). -/
def Lot.claimFate (id : Byte) (f : Fate) (l : Lot) : Lot :=
  if l.claimId = some id ∧ l.status = .sealed then
    match f with
    | .refused _ => { l with claimId := none, refused := true }
    | .displaced => { l with claimId := none, refused := true }
    | .cancelled => { l with claimId := none }
    | .dropped _ => { l with claimId := none }
    | _ => l
  else l

/-- What the fate of a DONE makes of its pending entry (R124, R141): removed once sent or dropped, marked
for another request when the full queue refused or displaced it. -/
def PendingDone.fate (f : Fate) (p : PendingDone) : Option PendingDone :=
  match f with
  | .sent => none
  | .dropped _ => none
  | .refused .listenOnly => none
  | .refused .excluded => none
  | .refused .full => some { p with lost := true }
  | .displaced => some { p with lost := true }
  | .queued => some { p with lost := false }
  | _ => some p

/-- The pending-DONE list after the fate of one of its DONEs (R124). -/
def doneFates (b : DoneBody) (f : Fate) (l : List PendingDone) : List PendingDone :=
  l.filterMap (fun p => if p.body = b then p.fate f else some p)

/-! ## The filter unit -/

/-- What the fate of a CLAIM makes of the filter's posted flush (R138). The frame of a claim that is
already admitted is a re-ranking, and its fate leaves the admitted claim as it is (DEDUCED, log 6). -/
def FilterState.claimFate (id : Byte) (f : Fate) (u : FilterState) : FilterState :=
  if u.claimId = some id ∧ u.mode = .online then
    match f with
    | .refused _ => { u with claimId := none, refused := true }
    | .displaced => { u with claimId := none, refused := true }
    | .cancelled => { u with claimId := none }
    | .dropped _ => { u with claimId := none }
    | _ => u
  else u

/-- What the fate of a DONE makes of the filter's pending DONE (R141). -/
def FilterState.doneFate (b : DoneBody) (f : Fate) (u : FilterState) : FilterState :=
  match u.pending with
  | some p => if p.body = b then { u with pending := p.fate f } else u
  | none => u

/-! ## Delivery -/

/-- The role unit takes the fate of one of its CLAIMs (R118, R138). -/
def State.claimFate (s : State) (id : Byte) (f : Fate) : State :=
  match s.cfg.role with
  | .discharge =>
    { s with discharge := { s.discharge with lots := s.discharge.lots.map (Lot.claimFate id f) } }
  | .filter => { s with filter := s.filter.claimFate id f }
  | .crusher => s

/-- The role unit takes the fate of one of its DONEs (R124, R141). -/
def State.doneFate (s : State) (b : DoneBody) (f : Fate) : State :=
  match s.cfg.role with
  | .discharge =>
    { s with discharge := { s.discharge with pending := doneFates b f s.discharge.pending } }
  | .filter => { s with filter := s.filter.doneFate b f }
  | .crusher => s

/-- The sync controller takes the fate of its ASK for rows (R100). -/
def State.askFate (s : State) (f : Fate) : State :=
  { s with sync := { s.sync with askLost := s.sync.askLost || f.lost } }

/-- Reports the fate of a request to the block that made it, at the moment it is settled (R88). -/
def State.deliver (s : State) (who : Block) (b : QBody) (f : Fate) : State :=
  let s := s.report (.fate who b f)
  match who, b with
  | .role, .claim c => s.claimFate c.id f
  | .role, .done d => s.doneFate d f
  | .sync, .ask _ => s.askFate f
  | _, _ => s

/-- Reports several fates in order. -/
def State.deliverAll (s : State) (l : List (Block × QBody × Fate)) : State :=
  l.foldl (fun s x => s.deliver x.1 x.2.1 x.2.2) s

/-- Replaces the outgoing queue. -/
def State.setQueue (s : State) (q : List QFrame) : State := { s with trunk := { s.trunk with queue := q } }

/-- What a request comes to: refused while EXCLUDED (R95) or in LISTEN_ONLY (R80), and settled against the
queue otherwise (R84 to R86). Where both hold, the reason of the refusal (R88) is EXCLUDED: DESIGN CHOICE,
unsafe (log 38). -/
def State.settleOf (s : State) (b : QBody) (who : Block) (urgent : Bool) : QResult :=
  if s.sync.status.isExcluded then ⟨s.trunk.queue, .refused .excluded, []⟩
  else if s.trunk.line = .listenOnly then ⟨s.trunk.queue, .refused .listenOnly, []⟩
  else settleRequest s.trunk.queue (newFrame b who urgent) (fun id => (s.ownClaim id).isSome)

/-- A block requests a frame, and every fate the request settles is reported (R82 to R88). -/
def State.request (s : State) (b : QBody) (who : Block) (urgent : Bool := false) : State :=
  let r := s.settleOf b who urgent
  ((s.setQueue r.queue).deliverAll r.others).deliver who b r.fate

/-- The request would be refused. -/
def State.refuses (s : State) (b : QBody) (who : Block) : Bool :=
  match (s.settleOf b who false).fate with
  | .refused _ => true
  | _ => false

/-- A block withdraws its own queued frames that satisfy `p`: a waiting frame is removed and reported
WITHDRAWN; a frame in flight keeps the withdrawal for its listen-back judgement (R87). -/
def State.pull (s : State) (p : QFrame → Bool) : State :=
  let gone := s.trunk.queue.filter (fun f => p f && f.waiting)
  let kept := (s.trunk.queue.filter (fun f => !(p f && f.waiting))).map
    (fun f => if p f then { f with pulled := true } else f)
  (s.setQueue kept).deliverAll (gone.map (fun f => (f.who, f.body, Fate.withdrawn)))

/-- Withdraws only waiting frames, leaving one in flight to go on (R54, R56, R65, R156). -/
def State.pullWaiting (s : State) (p : QFrame → Bool) : State :=
  s.pull (fun f => p f && f.waiting)

/-- Empties the queue, reporting each frame DROPPED with a reason; a frame in flight goes on to its
judgement and is removed then whatever its outcome (R80, R82, R95). -/
def State.dropAll (s : State) (why : DropReason) : State :=
  let gone := s.trunk.queue.filter (fun f => f.waiting)
  let kept := (s.trunk.queue.filter (fun f => !f.waiting)).map (fun f => { f with pulled := true })
  (s.setQueue kept).deliverAll (gone.map (fun f => (f.who, f.body, Fate.dropped why)))

/-- The address of a frame's target field for a station. -/
def targetByte (a : Addr) : Byte := addrByte a

/-- The station information of this station's HELLO and ROW frames (R64, R97). -/
def State.stationInfo (s : State) : StationInfo :=
  ⟨BitVec.ofNat 2 (roleCode s.cfg.role), BitVec.ofNat 3 s.cfg.transit, BitVec.ofNat 3 s.cfg.ceiling,
    s.cfg.hall.digest⟩

/-- An ASK with target ALL and subject ROW (R91). -/
def askAllRow : AskBody := ⟨0xFF, 2⟩

/-- An ASK for a HELLO from an address (R65). -/
def askHello (a : Addr) : AskBody := ⟨targetByte a, 1⟩

end Sys2Proof.Machine
end

