-- ==== Sys2Proof/Machine/Sequencer.lean ====
section
/-! DEFINITION. The drive sequencer as data (sections 9.4 and 9.5): requests, suspension, completion,
cancellation, the shadow levels, and the drive waveform. -/

namespace Sys2Proof.Machine

/-- The level of an operation (R169). -/
def OpKind.level : OpKind → Nat
  | .index => 1 | .feed => 1
  | .discharge => 2 | .flush => 2
  | .reverse => 3
  | .safeStop => 4

/-- The level of an operation record. -/
def Op.level (o : Op) : Nat := o.kind.level

/-- The owner of an operation (R169). -/
def OpKind.owner : OpKind → OpOwner
  | .index => .dischargeUnit
  | .feed => .crusherUnit
  | .discharge => .dischargeUnit
  | .flush => .filterUnit
  | .reverse => .crusherUnit
  | .safeStop => .modeController

/-- The owner of an operation record. -/
def Op.owner (o : Op) : OpOwner := o.kind.owner

/-- The operation records that the owners request (R169), with the configured times and drive levels. -/
def State.indexOp (s : State) : Op :=
  ⟨.index, some s.indexTicks, 0, s.cfg.dis.pusher, s.cfg.dis.indexTrack⟩
def feedOp (level : Nat) : Op := ⟨.feed, none, 0, level, 0⟩
def State.dischargeOp (s : State) : Op := ⟨.discharge, none, 0, 0, s.cfg.dis.dischargeTrack⟩
def State.flushOp (s : State) : Op := ⟨.flush, some s.flushTicks, 0, s.cfg.fil.pump, 0⟩
def State.reverseOp (s : State) : Op := ⟨.reverse, some s.reversalTicks, 0, s.cfg.cru.reverse, 0⟩
def safeStopOp : Op := ⟨.safeStop, none, 0, 0, 0⟩

/-- A sequencer action's outcome: the sequencer after it, the reports it makes in order, and the
operation it abandoned, if any. -/
structure SeqResult where
  seq : SeqState
  reports : List Report
  abandoned : Option OpKind

/-- Writes the shadow levels: those of the running operation, 0 for an output it does not drive and while
nothing runs (R171, R172, R174). -/
def SeqState.write (q : SeqState) : SeqState :=
  match q.running with
  | some o => { q with shadow0 := o.drv0, shadow1 := o.drv1 }
  | none => { q with shadow0 := 0, shadow1 := 0 }

/-- A report about an operation to its owner, with its elapsed running time (R169). -/
def opReport (o : Op) (r : OpReport) : Report := .op o.owner o.kind r o.elapsed

/-- Pushes a suspended operation onto the stack, which holds 3: the bottom entry of a full stack is
abandoned (R171). -/
def pushOp (stack : List Op) (o : Op) : List Op × Option Op :=
  if stack.length < 3 then (o :: stack, none) else (o :: stack.dropLast, stack.getLast?)

/-- Settles a request for an operation (R170, R171). The SUSPENDED of the operation pushed is told before the
ABANDONED of the bottom entry (log 54), and the REFUSED of a deferred request removed before the DEFERRED of the
one that takes its slot (log 55): DESIGN CHOICE, unsafe. -/
def SeqState.request (q : SeqState) (o : Op) : SeqResult :=
  match q.running with
  | none => ⟨{ q with running := some o }.write, [opReport o .started], none⟩
  | some r =>
    if r.level < o.level then
      let pushed := pushOp q.stack r
      ⟨{ q with running := some o, stack := pushed.1 }.write,
        [opReport r .suspended] ++ (pushed.2.map (opReport · .abandoned)).toList ++ [opReport o .started],
        pushed.2.map (·.kind)⟩
    else
      match q.deferred with
      | none => ⟨{ q with deferred := some o }, [opReport o .deferred], none⟩
      | some d =>
        if d.level < o.level then
          ⟨{ q with deferred := some o }, [opReport d .refused, opReport o .deferred], none⟩
        else ⟨q, [opReport o .refused], none⟩

/-- Chooses what runs once nothing runs: the higher level of stack top and deferred request, the stack
top on equal levels (R172). -/
def SeqState.chooseNext (q : SeqState) : SeqResult :=
  match q.stack, q.deferred with
  | [], none => ⟨{ q with running := none }.write, [], none⟩
  | t :: r, none => ⟨{ q with running := some t, stack := r }.write, [opReport t .resumed], none⟩
  | [], some d =>
    let d := { d with elapsed := 0 }
    ⟨{ q with running := some d, deferred := none }.write, [opReport d .started], none⟩
  | t :: r, some d =>
    if t.level < d.level then
      let d := { d with elapsed := 0 }
      ⟨{ q with running := some d, deferred := none }.write, [opReport d .started], none⟩
    else ⟨{ q with running := some t, stack := r }.write, [opReport t .resumed], none⟩

/-- Ends the running operation with a report, and chooses what runs next (R172). -/
def SeqState.endRunning (q : SeqState) (r : OpReport) : SeqResult :=
  match q.running with
  | none => ⟨q, [], none⟩
  | some o =>
    let n := { q with running := none }.chooseNext
    ⟨n.seq, opReport o r :: n.reports, none⟩

/-- The running operation is of a kind. -/
def SeqState.runs (q : SeqState) (k : OpKind) : Bool :=
  match q.running with
  | some o => o.kind == k
  | none => false

/-- An operation of a kind is running, suspended or deferred. -/
def SeqState.holdsOp (q : SeqState) (k : OpKind) : Bool :=
  q.runs k || q.stack.any (fun o => o.kind == k) || q.deferred.any (fun o => o.kind == k)

/-- The record of an operation that is running or suspended. -/
def SeqState.recordOf (q : SeqState) (k : OpKind) : Option Op :=
  (q.running.toList ++ q.stack).find? (fun o => o.kind == k)

/-- An owner cancels its operation: running, suspended or deferred; a cancellation that finds none changes
nothing (R173). -/
def SeqState.cancel (q : SeqState) (k : OpKind) : SeqResult :=
  if q.runs k then q.endRunning .cancelled
  else
    match q.stack.find? (fun o => o.kind == k) with
    | some o => ⟨{ q with stack := q.stack.filter (fun o => o.kind != k) }, [opReport o .cancelled], none⟩
    | none =>
      match q.deferred with
      | some d =>
        if d.kind = k then ⟨{ q with deferred := none }, [opReport d .cancelled], none⟩ else ⟨q, [], none⟩
      | none => ⟨q, [], none⟩

/-- The owner changes the level of its FEED, running or suspended; a running FEED's level is written at
once (R157, R173). A deferred FEED takes it too, since it starts at the level its owner sets (R169). -/
def SeqState.setFeedLevel (q : SeqState) (level : Nat) : SeqState :=
  let f (o : Op) : Op := if o.kind = .feed then { o with drv0 := level } else o
  { q with running := q.running.map f, stack := q.stack.map f, deferred := q.deferred.map f }.write

/-- Nothing is running, suspended or deferred, a crusher's FEED excepted (R182). -/
def SeqState.restful (q : SeqState) : Bool :=
  (q.running.toList ++ q.stack ++ q.deferred.toList).all (fun o => o.kind == .feed)

/-- The sequencer after every operation is discarded without report and both outputs are off (R169,
R183). -/
def SeqState.off (q : SeqState) : SeqState :=
  { q with running := none, stack := [], deferred := none, shadow0 := 0, shadow1 := 0, out0 := 0, out1 := 0 }

/-- The output levels take the shadow levels at the start of a drive cycle (R174). -/
def SeqState.cycle (q : SeqState) : SeqState := { q with out0 := q.shadow0, out1 := q.shadow1, phase := 0 }

/-- The order in which the periods of a cycle take the extension steps (R174). -/
def extensionOrder : List Nat := [4, 8, 2, 6, 1, 5, 3, 7]

/-- A drive output of level `level` is active in step `step` (0 to 31) of period `period` (1 to 8) of a
cycle (R174). -/
def driveActive (level period step : Nat) : Bool :=
  decide (step < level / 8 + if (extensionOrder.take (level % 8)).contains period then 1 else 0)

/-- How many of a cycle's 256 steps a level is active for. -/
def activeSteps (level : Nat) : Nat :=
  ([1, 2, 3, 4, 5, 6, 7, 8].map (fun p => ((List.range 32).filter (driveActive level p)).length)).sum

/-- The sequencer of a state takes an action's outcome, and its reports are recorded. -/
def State.takeSeq (s : State) (r : SeqResult) : State :=
  { s with seq := r.seq, reports := s.reports ++ r.reports }

end Sys2Proof.Machine
end

