-- ==== Sys2Proof/Machine/Lots.lean ====
section
/-! DEFINITION. The lot buffer and the discharge in progress (chapter 6): sealing, captures, withdrawals
and the short end of a discharge, up to what the sequencer's requests need. -/

namespace Sys2Proof.Machine

/-- Replaces the lot buffer. -/
def State.setLots (s : State) (l : List Lot) : State := { s with discharge := { s.discharge with lots := l } }

/-- Changes every lot. -/
def State.mapLots (s : State) (f : Lot → Lot) : State := s.setLots (s.discharge.lots.map f)

/-- The lot returns to SEALED, its claim id and discharge window cleared (R119, R127, R131). -/
def Lot.unclaim (l : Lot) : Lot := { l with status := .sealed, claimId := none, discharge := none }

/-- Quotient rounded up (R114, R154). -/
def ceilDiv (a b : Nat) : Nat := (a + b - 1) / b

/-- The class factor of a class 1 to 6 (R108). -/
def State.factorOf (s : State) (cls : Nat) : Nat := s.cfg.dis.factors.getD (cls - 1) 0

/-- The captured average times the class factor, divided by 256 and rounded up, clamped to 1 to 255: the
conversion of R114 before the clamp to the class maximum.
DEDUCED, unsafe (log 24). -/
def State.convert (s : State) (cls avg : Nat) : Nat := max 1 (min 255 (ceilDiv (avg * s.factorOf cls) 256))

/-- The newest lot, which is the lot in the skip where the skip holds one (R109). -/
def skipLot (lots : List Lot) : Option Lot :=
  match lots.getLast? with
  | some l => if l.onTrack then none else some l
  | none => none

/-- The skip holds a SEALED lot (R115, R116). -/
def skipSealed (lots : List Lot) : Bool :=
  match skipLot lots with
  | some l => l.status != .opened
  | none => false

/-- A lot is OPEN. -/
def hasOpen (lots : List Lot) : Bool := lots.any (fun l => l.status == .opened)

/-- MACHINE_HOLD is asserted (R116). -/
def State.machineHold (s : State) : Bool :=
  skipSealed s.discharge.lots || s.seq.runs .index || s.discharge.beltFault || !s.working

/-- Requests a capture of a channel: accepted by an EMPTY slot, answered BUSY otherwise (R166). -/
def State.requestCapture (s : State) (ch : Fin 4) : State :=
  match s.measure.capture with
  | .empty => { s with measure := { s.measure with capture := .pending ch } }.report .captureAccepted
  | _ => s.report .captureBusy

/-- An OPEN lot is sealed with a reason other than VOLUME_BOUND; its volume waits for the first channel 0
average after the seal, and its running volume is no more (R110, R113, R114). -/
def Lot.sealedBy (why : SealReason) (l : Lot) : Lot :=
  if l.status = .opened then { l with status := .sealed, sealReason := some why, running := none } else l

/-- Seals the OPEN lot, if any, and makes sure that a capture is outstanding for its volume (R114). The events of
R113 seal it also while BELT_FAULT is in force, under which R128 has an OPEN lot stay OPEN: DESIGN CHOICE, unsafe
(log 51). -/
def State.sealOpen (s : State) (why : SealReason) : State :=
  if hasOpen s.discharge.lots then (s.mapLots (Lot.sealedBy why)).requestCapture 0 else s

/-- The age test of R113: the OPEN lot has reached the lot age limit with a running volume at or above its
class minimum. -/
def State.ageDue (s : State) : Bool :=
  s.discharge.lots.any (fun l => l.status == .opened && decide (s.cfg.dis.ageLimit ≤ l.age) &&
    match l.running with
    | some v => decide ((s.boundsOf l.cls).min ≤ v)
    | none => false)

/-- Applies the age test (R113). -/
def State.sealAged (s : State) : State := if s.ageDue then s.sealOpen .age else s

/-- An owner cancels an operation of its own (R173). -/
def State.cancelOp (s : State) (k : OpKind) : State := s.takeSeq (s.seq.cancel k)

/-- The owner declares its running operation complete, or the operation's time is up (R172). -/
def State.completeOp (s : State) (k : OpKind) : State :=
  if s.seq.runs k then s.takeSeq (s.seq.endRunning .completed) else s

/-- The number of volume units of a lot that a travel has discharged, rounded down (R122). -/
def dischargedVolume (volume travel length : Nat) : Nat := volume * travel / length

/-- What a short discharge leaves of its lot (R122). -/
def Lot.remainderOf (travel minimum : Nat) (l : Lot) : Lot :=
  let d := dischargedVolume (l.volume.getD 0) travel (l.length.getD 1)
  let v := l.volume.getD 0 - d
  { l with
    status := .sealed, claimId := none, discharge := none, remainder := true, volume := some v,
    length := some (l.length.getD 1 - travel), undersize := decide (v < minimum) }

/-- Adds a DONE to the pending-DONE list and requests it (R124). -/
def State.requestDone (s : State) (b : DoneBody) : State :=
  ({ s with discharge := { s.discharge with pending := s.discharge.pending ++ [(⟨b, false⟩ : PendingDone)] } }).request
    (.done b) .role

/-- A discharge in progress ends short, at once (R122, R125): the DISCHARGE is cancelled wherever the
sequencer holds it, the short DONE is requested, and the lot stays at the head as a remainder. -/
def State.endDischarge (s : State) : State :=
  match s.discharge.progress, s.discharge.lots with
  | some p, l :: r =>
    let s := s.cancelOp .discharge
    let b : DoneBody :=
      ⟨p.id, byteOf (dischargedVolume (l.volume.getD 0) p.travel (l.length.getD 1)), true, p.arrival,
        byteOf l.cls⟩
    let s := { s with discharge := { s.discharge with
      progress := none, lots := l.remainderOf p.travel (s.boundsOf l.cls).min :: r } }
    (s.countShort.raise .lotShort).requestDone b
  | _, _ => s

/-- Requests a WITHDRAW for a claim id, and returns the lot that names it to SEALED (R119). -/
def State.withdrawLot (s : State) (id : Byte) : State :=
  (s.mapLots (fun l => if l.claimId = some id ∧ l.status ≠ .discharging then l.unclaim else l)).request
    (.withdraw ⟨id⟩) .role

/-- Withdraws several claims in order. -/
def State.withdrawLots (s : State) (ids : List Byte) : State := ids.foldl State.withdrawLot s

/-- The claim id names a lot, or a DONE still pending (R131). -/
def State.lotNames (s : State) (id : Byte) : Bool :=
  s.discharge.lots.any (fun l => l.claimId == some id) || s.discharge.pending.any (fun p => p.body.id == id)

/-- The ids of the own COMMITTED claims whose discharge has not begun (R102, R126). One whose DONE is still
pending has begun, and gets no WITHDRAW by R126 either (DESIGN CHOICE, unsafe, log 46). -/
def State.unstartedCommitted (s : State) : List Byte :=
  ((s.ownClaims.filter (fun c => c.isCommitted)).map (fun c => c.id)).filter (fun id =>
    !(s.discharge.lots.any (fun l => l.claimId == some id && l.status == .discharging)
      || s.discharge.pending.any (fun p => p.body.id == id)))

/-- The ids to withdraw when every claim must go: those of the lots that are posted, CLAIMED or COMMITTED,
then the own claims of the table that no lot and no pending DONE names (R127, R128, R130).
Posted lots whose CLAIM is in flight are among them (DEDUCED, unsafe, log 21). A claim whose discharge has ended
and whose DONE is still pending is not (DESIGN CHOICE, unsafe, log 46). -/
def State.allUnstarted (s : State) : List Byte :=
  (s.discharge.lots.filter (fun l => l.status != .discharging)).filterMap (fun l => l.claimId)
  ++ ((s.ownClaims.map (fun c => c.id)).filter (fun id => !s.lotNames id))

/-- The own claims of the table that no lot and no pending DONE names are withdrawn (R131). -/
def State.withdrawOrphanLots (s : State) : State :=
  s.withdrawLots ((s.ownClaims.map (fun c => c.id)).filter (fun id => !s.lotNames id))

/-- What a REMOVED report does at a discharge station (R125, R131): it ends the discharge of that claim for
every reason but DONE, and returns a CLAIMED or COMMITTED lot to SEALED for every reason but WITHDRAWN
and DONE. -/
def State.lotRemoved (s : State) (id : Byte) (why : RemovalReason) : State :=
  if s.discharge.progress.any (fun p => p.id == id) then
    if why = .done then s else s.endDischarge
  else if why = .withdrawn ∨ why = .done then s
  else s.mapLots (fun l =>
    if l.claimId = some id ∧ (l.status = .claimed ∨ l.status = .committed) then l.unclaim else l)

end Sys2Proof.Machine
end

