-- ==== Sys2Proof/Machine/Flushes.lean ====
section
/-! DEFINITION. The filter unit's claim, band, bypass and flush (chapter 7), up to what the sequencer's
requests need. -/

namespace Sys2Proof.Machine

/-- Changes the filter unit. -/
def State.mapFilter (s : State) (f : FilterState → FilterState) : State := { s with filter := f s.filter }

/-- How bad a band is: NORMAL, FLUSH, URGENT, BYPASS rising. -/
def Band.order : Band → Nat
  | .normal => 0
  | .flush => 1
  | .urgent => 2
  | .bypass => 3

/-- The rank a band gives a flush claim; NORMAL gives none (R135). -/
def State.bandRank (s : State) : Option Nat :=
  match s.filter.band with
  | .normal => none
  | .flush => some s.cfg.fil.baseRank
  | .urgent => some 1
  | .bypass => some 0

/-- The rising test: the worst band whose threshold the average has reached (R135). -/
def risingBand (p : FilterParams) (avg : Nat) : Band :=
  if p.urgentThreshold ≤ avg then .urgent else if p.flushThreshold ≤ avg then .flush else .normal

/-- Where a band falls to: the worst band, no worse than the band held, whose threshold less the
hysteresis is at or below the average (R135). -/
def fallingBand (p : FilterParams) (held : Band) (avg : Nat) : Band :=
  if 2 ≤ held.order ∧ p.urgentThreshold - p.hysteresis ≤ avg then .urgent
  else if 1 ≤ held.order ∧ p.flushThreshold - p.hysteresis ≤ avg then .flush
  else .normal

/-- The band after an average completes while channel 0 is not ABOVE (R135). -/
def bandAfter (p : FilterParams) (held : Band) (avg : Nat) : Band :=
  if held = .bypass then .bypass
  else if held.order < (risingBand p avg).order then risingBand p avg
  else if (risingBand p avg).order < held.order then fallingBand p held avg
  else held

/-- The bypass closes once the cleaned mark is set and the band is NORMAL (R136). -/
def FilterState.closeBypass (u : FilterState) : FilterState :=
  if u.bypassOpen ∧ u.cleaned ∧ u.band = .normal then { u with bypassOpen := false, cleaned := false } else u

/-- The claim id and the discharge window are cleared and the state is ONLINE (R140, R144 to R146). -/
def FilterState.unclaim (u : FilterState) : FilterState :=
  { u with claimId := none, discharge := none, mode := .online }

/-- The CLAIM of the flush with an id and a declared rank (R137). -/
def State.flushClaim (s : State) (id : Byte) (rank : Nat) : ClaimBody :=
  ⟨id, 1, 7, byteOf s.cfg.fil.flushVolume, byteOf rank, false⟩

/-- The filter's claim, posted, CLAIMED or COMMITTED and not flushing, is withdrawn and the state returns
to ONLINE (R140, R144 to R146). -/
def State.withdrawFlush (s : State) : State :=
  match s.filter.claimId with
  | some id =>
    if s.filter.mode = .flushing then s
    else (s.mapFilter FilterState.unclaim).request (.withdraw ⟨id⟩) .role
  | none => s

/-- A DONE of the filter becomes its pending DONE and is requested (R141). -/
def State.requestFlushDone (s : State) (b : DoneBody) : State :=
  (s.mapFilter (fun u => { u with pending := some ⟨b, false⟩ })).request (.done b) .role

/-- The elapsed running time of the FLUSH (R140, R169). -/
def State.flushElapsed (s : State) : Nat :=
  match s.seq.recordOf .flush with
  | some o => o.elapsed
  | none => 0

/-- The volume a flush of a running time has discharged, rounded down (R142). -/
def State.flushedVolume (s : State) (elapsed : Nat) : Nat :=
  s.cfg.fil.flushVolume * elapsed / s.flushTicks

/-- A flush in progress ends short: the FLUSH is cancelled, the short DONE is requested, and the filter
state becomes `next` with settle count `settle` (R142 to R145). -/
def State.endFlush (s : State) (next : FilterMode) (settle : Nat) : State :=
  match s.filter.progress with
  | some p =>
    let v := s.flushedVolume s.flushElapsed
    let s := s.cancelOp .flush
    let s := s.mapFilter (fun u =>
      { u with progress := none, claimId := none, discharge := none, mode := next, settle := settle })
    s.countShort.requestFlushDone ⟨p.id, byteOf v, true, p.arrival, 7⟩
  | none => s

/-- The own claims of the table that the unit does not hold and its pending DONE does not name (R145). -/
def State.orphanFlushes (s : State) : List Byte :=
  (s.ownClaims.map (fun c => c.id)).filter (fun id =>
    !(s.filter.claimId == some id || s.filter.pending.any (fun p => p.body.id == id)))

/-- Those claims are withdrawn (R145). -/
def State.withdrawOrphanFlushes (s : State) : State :=
  s.orphanFlushes.foldl (fun s id => s.request (.withdraw ⟨id⟩) .role) s

/-- What a REMOVED report does at a filter station (R145). -/
def State.flushRemoved (s : State) (id : Byte) (why : RemovalReason) : State :=
  if s.filter.claimId = some id ∧ why ≠ .withdrawn ∧ why ≠ .done then
    if s.filter.mode = .flushing then s.endFlush .settling 1
    else s.mapFilter FilterState.unclaim
  else s

/-- The rank the filter's claim now carries, while it may still be re-ranked: its effective rank in the
own table while CLAIMED, the declared rank of the posted frame while ONLINE (R139). -/
def State.carriedRank (s : State) : Option (Byte × Nat) :=
  match s.filter.claimId, s.filter.mode with
  | some id, .online => some (id, s.filter.postedRank)
  | some id, .claimed => (s.ownClaim id).map (fun c => (id, c.effective))
  | _, _ => none

/-- The claim is requested again at a rank lower than the one it carries (R139, R146). -/
def State.rerank (s : State) (rank : Nat) : State :=
  match s.carriedRank with
  | some (id, carried) =>
    if rank < carried then
      (s.mapFilter (fun u => { u with postedRank := rank })).request (.claim (s.flushClaim id rank)) .role
    else s
  | none => s

/-- The filter unit acts on a change of its band: the bypass (R136) and, on a rise, the claim's rank
(R139). -/
def State.setBand (s : State) (b : Band) : State :=
  let held := s.filter.band
  if b = held then s
  else
    let s := s.mapFilter (fun u => { u with band := b })
    let s :=
      if b = .bypass then
        let s := if s.filter.bypassOpen then s else s.raise .bypassOpen
        s.mapFilter (fun u => { u with bypassOpen := true, cleaned := false })
      else s.mapFilter FilterState.closeBypass
    if held.order < b.order then
      match s.bandRank with
      | some r => s.rerank r
      | none => s
    else s

end Sys2Proof.Machine
end

