-- ==== Sys2Proof/Machine/Crushing.lean ====
section
/-! DEFINITION. The crusher unit's records, bins, surge level, GATE and stop (chapter 8), up to what the
sequencer's requests need. -/

namespace Sys2Proof.Machine

/-- Changes the crusher unit. -/
def State.mapCrusher (s : State) (f : CrusherState → CrusherState) : State :=
  { s with crusher := f s.crusher }

/-- The gate view (R154). -/
def CrusherState.view (c : CrusherState) : GateView :=
  match c.mode with
  | .jammed => .jammed
  | .reversing => .holding
  | .running => if 0 < c.surge then .holding else .running

/-- The resume window of a GATE (R154). -/
def State.resumeWindow (s : State) : Window :=
  plus s.window.number
    (ceilDiv s.crusher.surge s.cfg.cru.drainRate + if s.crusher.mode = .reversing then 1 else 0)

/-- A GATE's body, as the unit stands (R154). -/
def State.gateBody (s : State) : GateBody := ⟨byteOf s.crusher.view.code, s.crusher.holds, s.resumeWindow⟩

/-- The unit may request GATE, STOP and RELEASE frames (R155, R156). -/
def State.mayGate (s : State) : Bool := s.lineActive && s.sync.status.joined

/-- The crusher unit requests a GATE, urgent (R155). -/
def State.requestGate (s : State) : State :=
  if s.mayGate then s.request .gate .role true else s

/-- The unit's wanted stop (R156). -/
def CrusherState.wantedStop (c : CrusherState) : Option StopCause :=
  if c.mode = .jammed then some .jam else if c.surgeStop then some .surgeFull else none

/-- The cause of the station's own entry in its own stop set. -/
def State.ownStop (s : State) : Option StopCause :=
  (s.hall.stops.find? (fun e => e.addr == s.own)).map (fun e => e.cause)

/-- The frame the comparison of R156 calls for. -/
def stopCall (own : Addr) (entry wanted : Option StopCause) : Option QBody :=
  match entry, wanted with
  | some .operator, _ => none
  | none, none => none
  | some _, none => some (.release ⟨addrByte own, false⟩)
  | none, some w => some (.stop ⟨byteOf w.code⟩)
  | some c, some w => if c = w then none else some (.stop ⟨byteOf w.code⟩)

/-- A STOP or RELEASE that the crusher unit requested. -/
def QFrame.unitStop (f : QFrame) : Bool :=
  f.urgent && (f.body.kind == .stop || f.body.kind == .release)

/-- The comparison of R156: a STOP or RELEASE of the unit that still waits when another is called for is
withdrawn, and what is called for is requested unless it is already waiting or in flight. A STOP of the one cause
counts as another than the STOP of the other cause: DESIGN CHOICE, unsafe (log 53). -/
def State.compareStop (s : State) : State :=
  if s.mayGate then
    match stopCall s.own s.ownStop s.crusher.wantedStop with
    | some b =>
      let s := s.pullWaiting (fun f => f.unitStop && f.body != b)
      if s.trunk.queue.any (fun f => f.unitStop && f.body == b) then s else s.request b .role true
    | none => s
  else s

/-- The GATE and the comparison that a change of the crusher state brings (R155, R156). -/
def State.tellHall (s : State) : State := s.requestGate.compareStop

/-- The FEED level in force: the reduced feed level while channel 1 is ABOVE (R157). -/
def State.feedLevel (s : State) : Nat :=
  if (s.measure.channels.getD 1 Channel.start).status = .above then s.cfg.cru.reducedFeed
  else s.cfg.cru.feed

/-- The reversal has ended: the crusher is RUNNING and the recurrence interval starts (R159). -/
def State.reverseEnded (s : State) : State :=
  (s.mapCrusher (fun c => { c with mode := .running, recurrence := some 0 })).tellHall

/-- The window records move on at a MARK, and the diverter takes the arriving entry's class (R149). -/
def State.turnDiverter (s : State) : State :=
  let position := match s.plan.arriving.cls with
    | some c => c
    | none => s.crusher.diverter
  let accepting := s.crusher.mode == .running && s.seq.runs .feed
  s.mapCrusher (fun c =>
    { c with previous := c.current, diverter := position, current := ⟨position, accepting⟩ })

/-- The surge level rises and stops at 65535 (R151). -/
def CrusherState.toSurge (n : Nat) (c : CrusherState) : CrusherState := { c with surge := satAdd c.surge n }

/-- The fill count of a bin 1 to 7. -/
def CrusherState.fill (c : CrusherState) (bin : Nat) : Nat := c.fills.getD (bin - 1) 0

/-- A volume is counted into a bin up to its capacity, and the part beyond it into the surge level (R151). -/
def CrusherState.toBin (capacity bin n : Nat) (c : CrusherState) : CrusherState :=
  let room := capacity - c.fill bin
  { c with fills := c.fills.set (bin - 1) (c.fill bin + min n room) }.toSurge (n - room)

/-- The hold of a class is set when its bin's fill count has reached the hold threshold (R152). -/
def State.judgeHold (s : State) (bin : Nat) : State :=
  if s.cfg.cru.thresholds.getD (bin - 1) 0 ≤ s.crusher.fill bin ∧ classHeld s.crusher.holds bin = false then
    ((s.mapCrusher (fun c => { c with holds := c.holds ||| BitVec.twoPow 7 (bin - 1) })).raise
      .binHold).requestGate
  else s

/-- One inbound entry is counted against the record of its window (R151). An entry of another class than an
accepting record's is a mixed arrival even where the bin is full: DESIGN CHOICE, unsafe (log 41). -/
def State.consumeOne (m : Window) (s : State) (e : Inbound) : State :=
  let r := if e.arrival = m then s.crusher.current else s.crusher.previous
  if r.accepting then
    let s := if e.cls = r.position then s else s.countMixed.raise .mixedArrival
    (s.mapCrusher (CrusherState.toBin (s.cfg.cru.capacities.getD (r.position - 1) 0) r.position
      e.volume)).judgeHold r.position
  else s.mapCrusher (CrusherState.toSurge e.volume)

/-- The inbound entries of window `m` and earlier are consumed in list order (R151). -/
def State.consume (s : State) (m : Window) : State :=
  let due := s.crusher.inbound.filter (fun e => dueBy e.arrival m)
  let s := s.mapCrusher (fun c => { c with inbound := c.inbound.filter (fun e => !dueBy e.arrival m) })
  due.foldl (State.consumeOne m) s

/-- The surge level after the drain, and the surge stop mark judged (R153). -/
def CrusherState.drain (p : CrusherParams) (c : CrusherState) : CrusherState :=
  let surge := if c.current.accepting then c.surge - p.drainRate else c.surge
  { c with
    surge := surge
    surgeStop := if c.surgeStop then !decide (surge ≤ p.surgeCapacity / 2)
                 else decide (p.surgeCapacity ≤ surge) }

/-- A taken DONE adds an inbound entry, unless it names no material or repeats an entry; a full list drops
it (R150).
Its place in the list: DESIGN CHOICE, unsafe (log 19). That the full list is tested last, so that a DONE with
nothing to add is not counted as lost: DESIGN CHOICE, unsafe (log 42). -/
def State.addInbound (s : State) (sender : Addr) (b : DoneBody) : State :=
  if b.cls.toNat < 1 ∨ 7 < b.cls.toNat ∨ b.volume = 0 then s
  else if s.crusher.inbound.any (fun e => e.owner == sender && e.id == b.id && e.arrival == b.arrival) then s
  else if s.crusher.inbound.length < 48 then
    s.mapCrusher (fun c => { c with
      inbound := insertBy (fun a b => earlier a.arrival b.arrival)
        ⟨sender, b.id, b.cls.toNat, b.volume.toNat, b.arrival⟩ c.inbound })
  else s.countInboundLost.raise .inboundLost

end Sys2Proof.Machine
end

