-- ==== Sys2Proof/Machine/RoleUnit.lean ====
section
/-! DEFINITION. What the role units do on the reports of the other blocks, and the operations they
request (chapters 6 to 8). -/

namespace Sys2Proof.Machine

/-- An owner requests an operation (R170). An abandoned operation is treated by its owner as a
cancellation: the discharge unit ends its discharge, a REVERSE ends as though completed, a flush ends
short (R125, R159, R171); INDEX and FEED are requested afresh by their own conditions. -/
def State.requestOp (s : State) (o : Op) : State :=
  let r := s.seq.request o
  let s := s.takeSeq r
  match r.abandoned with
  | some .discharge => s.endDischarge
  | some .reverse => s.reverseEnded
  | some .flush => s.endFlush .settling 1
  | _ => s

/-! ## Claim ids (R2) -/

/-- An id is in use: it is that of an own claim in the table, or of an own CLAIM waiting in the outgoing
queue (R2). -/
def State.idInUse (s : State) (id : Byte) : Bool :=
  (s.ownClaim id).isSome || s.trunk.queue.any (fun f => f.waitingClaim id)

/-- The first free id from a value on, looking at no more than `fuel` values. -/
def State.freeFrom (s : State) : Nat → Byte → Byte
  | 0, id => id
  | fuel + 1, id => if s.idInUse id then s.freeFrom fuel (id + 1) else id

/-- The id the claim table issues next (R2). -/
def State.freshId (s : State) : Byte := s.freeFrom 256 s.table.nextId

/-- The next-id counter moves past an id just issued (R2). -/
def State.issued (s : State) (id : Byte) : State := { s with table := { s.table with nextId := id + 1 } }

/-! ## Posting (R117, R137) -/

/-- The station conditions of posting a lot (R117). -/
def State.mayPostLots (s : State) : Bool :=
  s.sync.status == .synced && s.lineActive && !s.discharge.held && s.mode.supply == .normal
  && !s.discharge.beltFault

/-- The lot can be posted as far as it goes itself (R117). -/
def Lot.postable (l : Lot) : Bool :=
  l.status == .sealed && l.volume.isSome && l.claimId.isNone && !l.refused

/-- The oldest lot that is not CLAIMED, COMMITTED or DISCHARGING: no younger lot can be posted. -/
def firstUnclaimed (lots : List Lot) : Option Lot :=
  lots.find? (fun l => !(l.status == .claimed || l.status == .committed || l.status == .discharging))

/-- The CLAIM of a lot with an id (R117). -/
def State.lotClaim (s : State) (l : Lot) (id : Byte) : ClaimBody :=
  let volume := if l.undersize then (s.boundsOf l.cls).min else l.volume.getD 0
  let rank := if l.remainder then max (s.cfg.dis.baseRank - 1) s.cfg.ceiling else s.cfg.dis.baseRank
  ⟨id, 0, byteOf l.cls, byteOf volume, byteOf rank, l.remainder⟩

/-- Records a claim id on the lot that `firstUnclaimed` finds, and on no other (R117). -/
def markPosted (id : Byte) : List Lot → List Lot
  | [] => []
  | l :: r =>
    if l.status = .claimed ∨ l.status = .committed ∨ l.status = .discharging then l :: markPosted id r
    else { l with claimId := some id } :: r

/-- Posts the lot that R117 allows, if any. -/
def State.postLot (s : State) : State :=
  match firstUnclaimed s.discharge.lots with
  | some l =>
    if s.mayPostLots && l.postable then
      let id := s.freshId
      let s := s.issued id
      (s.setLots (markPosted id s.discharge.lots)).request (.claim (s.lotClaim l id)) .role
    else s
  | none => s

/-- The posting condition of a flush (R137). -/
def State.mayPostFlush (s : State) : Bool :=
  s.filter.mode == .online && s.filter.claimId.isNone && !s.filter.refused && s.filter.pending.isNone
  && (s.filter.band != .normal || s.filter.flushRequest)
  && s.sync.status == .synced && s.lineActive && (!s.filter.held || s.filter.band == .bypass)
  && s.mode.supply == .normal && s.working

/-- The declared rank of a posted flush (R137). -/
def State.flushRank (s : State) : Nat :=
  match s.bandRank with
  | some r => if s.filter.flushRequest then min r 1 else r
  | none => 1

/-- Posts the flush claim when R137 holds. -/
def State.postFlush (s : State) : State :=
  if s.mayPostFlush then
    let id := s.freshId
    let rank := s.flushRank
    ((s.issued id).mapFilter (fun u => { u with claimId := some id, postedRank := rank })).request
      (.claim (s.flushClaim id rank)) .role
  else s

/-! ## Jams (R158, R160) -/

/-- The FEED is running. -/
def State.feedRunning (s : State) : Bool := s.seq.runs .feed

/-- Channel `ch` is in a state. -/
def State.channelIs (s : State) (ch : Nat) (c : ChannelStatus) : Bool :=
  (s.measure.channels.getD ch Channel.start).status == c

/-- A jam while the crusher is RUNNING and its FEED runs: the attempts are counted and the crusher
reverses (R158), or gives up on the third (R160). Otherwise nothing. -/
def State.jam (s : State) : State :=
  if s.crusher.mode = .running ∧ s.feedRunning then
    let attempts := if s.crusher.recurrence.isSome then min (s.crusher.attempts + 1) 3 else 1
    let s := s.mapCrusher (fun c => { c with attempts := attempts, recurrence := none })
    if attempts < 3 then
      ((s.mapCrusher (fun c => { c with mode := .reversing })).requestOp s.reverseOp).tellHall
    else
      (((s.cancelOp .feed).mapCrusher (fun c => { c with mode := .jammed })).raise .jammed).tellHall
  else s

/-- A REVERSE reaches its reversal time (R159). -/
def State.finishReverse (s : State) : State :=
  if s.seq.runs .reverse then (s.completeOp .reverse).reverseEnded else s

/-- A JAM_CLEAR, or CLEAR FAULT at a crusher (R161). -/
def State.clearJam (s : State) : State :=
  let zero (c : CrusherState) : CrusherState := { c with mode := .running, attempts := 0, recurrence := none }
  match s.crusher.mode with
  | .jammed => (s.mapCrusher zero).tellHall
  | .reversing => ((s.cancelOp .reverse).mapCrusher zero).tellHall
  | .running => s.mapCrusher (fun c => { c with attempts := 0, recurrence := none })

/-! ## Discharges and indexing -/

/-- An INDEX completes: the skip lot moves to the track with the travel accumulated as its length (R115). -/
def Lot.indexed (l : Lot) : Lot :=
  if l.onTrack then l else { l with onTrack := true, length := some (max 1 (min l.travel 65535)) }

/-- An INDEX reaches its index time (R115). -/
def State.finishIndex (s : State) : State :=
  if s.seq.runs .index then
    (s.completeOp .index).mapLots (fun l => if l.status = .opened then l else l.indexed)
  else s

/-- The discharge of the head lot completes (R121). -/
def State.completeDischarge (s : State) : State :=
  match s.discharge.progress, s.discharge.lots with
  | some p, l :: r =>
    let s := s.completeOp .discharge
    let s := { s with discharge := { s.discharge with progress := none, lots := r } }
    s.requestDone ⟨p.id, byteOf (l.volume.getD 0), false, p.arrival, byteOf l.cls⟩
  | _, _ => s

/-- One TRAVEL event at a discharge station: it adds to the skip lot while an INDEX runs (R115) and to the
travel counted while a DISCHARGE runs, which completes when the travel reaches the head's length (R121). -/
def State.countTravel (s : State) : State :=
  if s.seq.runs .index then
    s.mapLots (fun l => if l.onTrack ∨ l.status = .opened then l else { l with travel := l.travel + 1 })
  else if s.seq.runs .discharge then
    match s.discharge.progress, s.discharge.lots with
    | some p, l :: _ =>
      let s := { s with discharge := { s.discharge with progress := some { p with travel := p.travel + 1 } } }
      if l.length.getD 1 ≤ p.travel + 1 then s.completeDischarge else s
    | _, _ => s
  else s

/-- The head lot may start its discharge at the MARK that opens window `m` (R120). -/
def State.mayDischarge (s : State) (m : Window) : Bool :=
  s.sync.status == .synced && s.hall.stops.isEmpty && s.mode.supply == .normal && s.working
  && !s.discharge.beltFault && decide (s.discharge.pending.length < 6)
  && s.discharge.progress.isNone
  && match s.discharge.lots with
     | l :: _ => l.status == .committed && l.onTrack && l.discharge == some m
     | [] => false

/-- Starts the discharge of the head lot (R120). -/
def State.startDischarge (s : State) (m : Window) : State :=
  match s.discharge.lots with
  | l :: r =>
    let p : Discharging := ⟨l.number, l.claimId.getD 0, plus m s.cfg.transit, 0⟩
    let s := { s with discharge := { s.discharge with
      progress := some p, lots := { l with status := .discharging } :: r } }
    s.requestOp s.dischargeOp
  | [] => s

/-- The claim ids of the lots COMMITTED with a discharge window of `m` or earlier (R120). -/
def State.overdueLots (s : State) (m : Window) : List Byte :=
  (s.discharge.lots.filter (fun l => l.status == .committed && l.discharge.any (fun w => dueBy w m))).filterMap
    (fun l => l.claimId)

/-- BELT_FAULT is entered (R128). -/
def State.enterBeltFault (s : State) : State :=
  if s.discharge.beltFault then s
  else
    let s := { s with discharge := { s.discharge with beltFault := true } }
    let s := (s.endDischarge).cancelOp .index
    (s.withdrawLots s.allUnstarted).raise .beltFault

/-! ## Flushes -/

/-- The ids of the CLAIMs waiting in the queue. -/
def waitingClaimIds (q : List QFrame) : List Byte :=
  q.filterMap (fun f =>
    match f.body with
    | .claim b => if f.waiting then some b.id else none
    | _ => none)

/-- A pump fault (R143). -/
def State.pumpFault (s : State) : State :=
  let s := s.endFlush .fault s.filter.settle
  let s := s.mapFilter (fun u => { u with flushRequest := false })
  let s := (waitingClaimIds s.trunk.queue).foldl (fun s id => s.request (.withdraw ⟨id⟩) .role)
    s.withdrawOrphanFlushes
  s.raise .flushFault

/-- A FLUSH reaches its flush time (R141). -/
def State.finishFlush (s : State) : State :=
  match s.filter.progress with
  | some p =>
    if s.seq.runs .flush then
      let s := s.completeOp .flush
      let s := s.mapFilter (fun u =>
        ({ u with
          progress := none, claimId := none, discharge := none, mode := .settling, settle := 0,
          cleaned := u.cleaned || u.bypassOpen }).closeBypass)
      s.requestFlushDone ⟨p.id, byteOf s.cfg.fil.flushVolume, false, p.arrival, 7⟩
    else s
  | none => s

/-- The filter may start its flush at the MARK that opens window `m` (R140). -/
def State.mayFlush (s : State) (m : Window) : Bool :=
  s.filter.mode == .committed && s.filter.discharge == some m && s.sync.status == .synced
  && s.hall.stops.isEmpty && s.mode.supply == .normal && s.working

/-- Starts the flush (R140). -/
def State.startFlush (s : State) (m : Window) : State :=
  let p : Flushing := ⟨s.filter.claimId.getD 0, plus m s.cfg.transit, false⟩
  (s.mapFilter (fun u => { u with mode := .flushing, progress := some p, flushRequest := false })).requestOp
    s.flushOp

/-! ## Reports to the role unit -/

/-- A REMOVED report (R9). -/
def State.roleRemoved (s : State) (id : Byte) (why : RemovalReason) : State :=
  let s := s.report (.removed id why)
  match s.cfg.role with
  | .discharge => s.lotRemoved id why
  | .filter => s.flushRemoved id why
  | .crusher => s

/-- An ADMITTED report (R9, R118, R138). -/
def State.roleAdmitted (s : State) (id : Byte) : State :=
  let s := s.report (.admitted id)
  match s.cfg.role with
  | .discharge =>
    s.mapLots (fun l => if l.claimId = some id ∧ l.status = .sealed then { l with status := .claimed } else l)
  | .filter =>
    s.mapFilter (fun u => if u.claimId = some id ∧ u.mode = .online then { u with mode := .claimed } else u)
  | .crusher => s

/-- A REFUSED report of the claim table (R9, R118, R138). It changes only a lot that is SEALED: one already
CLAIMED or COMMITTED under the id is left (DESIGN CHOICE, unsafe, log 45). -/
def State.roleRefused (s : State) (id : Byte) (cause : RefusalCause) : State :=
  let s := s.report (.refused id cause)
  match s.cfg.role with
  | .discharge =>
    s.mapLots (fun l =>
      if l.claimId = some id ∧ l.status = .sealed then { l with claimId := none, refused := true } else l)
  | .filter =>
    s.mapFilter (fun u =>
      if u.claimId = some id ∧ u.mode = .online ∧ cause ≠ .committed then
        { u with claimId := none, refused := true } else u)
  | .crusher => s

/-- A COMMITTED report (R9, R119, R138). -/
def State.roleCommitted (s : State) (id : Byte) (arrival : Window) : State :=
  let s := s.report (.committed id arrival)
  let w := minus arrival s.cfg.transit
  match s.cfg.role with
  | .discharge =>
    s.mapLots (fun l =>
      if l.claimId = some id ∧ l.status = .claimed then
        { l with status := .committed, discharge := some w } else l)
  | .filter =>
    s.mapFilter (fun u =>
      if u.claimId = some id ∧ u.mode = .claimed then
        { u with mode := .committed, discharge := some w } else u)
  | .crusher => s

/-- The filter's claim is COMMITTED, in the unit or in the own table, which may commit it without a report
(log 35), and its flush has not begun (R102, R144). -/
def State.flushUnbegun (s : State) : Bool :=
  s.filter.mode != .flushing &&
    match s.filter.claimId with
    | some id => s.filter.mode == .committed || (s.ownClaims.any (fun c => c.id == id && c.isCommitted))
    | none => false

/-- The own COMMITTED claims not begun are withdrawn and their lots or flush returned (R102, R103, R126,
R131, R144, R145). A claim is COMMITTED here as the own table holds it, also where the unit was not told:
DESIGN CHOICE, unsafe (log 35). One whose DONE is still pending has begun, and is left on a STOP too, where R126 says
"not discharging": DESIGN CHOICE, unsafe (log 46). -/
def State.withdrawCommitted (s : State) : State :=
  match s.cfg.role with
  | .discharge => s.withdrawLots s.unstartedCommitted
  | .filter =>
    let s := if s.flushUnbegun then s.withdrawFlush else s
    ((s.ownClaims.filter (fun c => c.isCommitted)).map (fun c => c.id)).foldl (fun s id =>
      if s.filter.claimId = some id ∨ s.filter.pending.any (fun p => p.body.id == id) then s
      else s.request (.withdraw ⟨id⟩) .role) s
  | .crusher => s

/-- A SYNC_LOST report (R102, R125, R131, R145).
R102 would let a discharge run on; R125 and R131 are followed (DEDUCED, unsafe, log 25). -/
def State.roleSyncLost (s : State) : State :=
  let s := s.report .syncLost
  match s.cfg.role with
  | .discharge => s.endDischarge.withdrawCommitted
  | .filter => s.withdrawCommitted
  | .crusher => s

/-- An EXCLUDED report (R131, R145, R146). -/
def State.roleExcluded (s : State) : State :=
  let s := s.report .excluded
  match s.cfg.role with
  | .discharge => s.mapLots (fun l => if l.status = .discharging ∨ l.status = .opened then l else l.unclaim)
  | .filter =>
    s.mapFilter (fun u =>
      let u := { u with flushRequest := false }
      if u.mode = .claimed ∨ u.mode = .committed ∨ u.mode = .online then u.unclaim else u)
  | .crusher => s

/-- A SYNC_GAINED report: the crusher tells the hall (R155, R156); posting is state-driven. -/
def State.roleSyncGained (s : State) : State :=
  let s := s.report .syncGained
  match s.cfg.role with
  | .crusher => s.tellHall
  | _ => s

/-- A LINE_ACTIVE report (R81, R155, R156). -/
def State.roleLineActive (s : State) : State :=
  let s := s.report .lineActive
  match s.cfg.role with
  | .crusher => s.tellHall
  | _ => s

/-- A STOP_TAKEN report (R33, R126, R144). A re-ranking CLAIM of a flush in progress that still waits in the
queue stays there: DESIGN CHOICE, unsafe (log 40). -/
def State.roleStopTaken (s : State) (a : Addr) (c : StopCause) : State :=
  let s := s.report (.stopTaken a c)
  match s.cfg.role with
  | .discharge => s.endDischarge.withdrawCommitted
  | .filter => (s.endFlush .online s.filter.settle).withdrawCommitted
  | .crusher => s

/-- A SUPPLY_LOW report (R127, R144, R162). A re-ranking CLAIM of a flush in progress that still waits in the
queue stays there: DESIGN CHOICE, unsafe (log 40). Own claims of the table that the unit does not hold are left to
the next MARK (R131, R145): DESIGN CHOICE, unsafe (log 52). -/
def State.roleSupplyLow (s : State) : State :=
  let s := s.report .supplyLow
  match s.cfg.role with
  | .discharge =>
    let s := s.endDischarge
    s.withdrawLots s.allUnstarted
  | .filter => (s.endFlush .online s.filter.settle).withdrawFlush
  | .crusher => s

end Sys2Proof.Machine
end

