-- ==== Sys2Proof/Machine/Table.lean ====
section
/-! DEFINITION. The claim table (chapter 1): its order, the taking of CLAIM and ROW frames, removals, and
the changes a MARK makes. -/

namespace Sys2Proof.Machine

/-- Table order: owner ascending, then claim id ascending as a plain number (R1). -/
def Claim.before (a b : Claim) : Bool :=
  decide (a.owner.val < b.owner.val) || (a.owner == b.owner && decide (a.id.toNat < b.id.toNat))

/-- A record takes its place in table order (R1). -/
def insertClaim (c : Claim) (l : List Claim) : List Claim := insertBy Claim.before c l

/-- Replaces the claim records. -/
def State.setClaims (s : State) (l : List Claim) : State := { s with table := { s.table with claims := l } }

/-- The record of an owner and id, if the table holds one. -/
def claimAt (l : List Claim) (a : Addr) (id : Byte) : Option Claim :=
  l.find? (fun c => c.owner == a && c.id == id)

/-- How many records of a kind an owner holds. -/
def countOf (l : List Claim) (a : Addr) (k : ClaimKind) : Nat :=
  (l.filter (fun c => c.owner == a && c.kind == k)).length

/-- How many records of a kind one owner may hold (R1). -/
def ClaimKind.capacity : ClaimKind → Nat
  | .lot => 6
  | .flush => 1

/-! ## CLAIM frames (R3 to R7) -/

/-- What taking a CLAIM comes to. -/
inductive ClaimOutcome where
  | accept (c : Claim)
  | replace (c : Claim)
  | refuse (cause : RefusalCause)
  deriving DecidableEq, Repr

/-- The outcome of a CLAIM of owner `a`: the checks of R4 in order, then R5, R6 or R7 as the table
stands. -/
def State.judgeClaim (s : State) (a : Addr) (b : ClaimBody) : ClaimOutcome :=
  match entryOf s.roster a with
  | none => .refuse .unknownOwner
  | some e =>
    if e.isExcluded then .refuse .excludedOwner
    else
      match claimKindOf b.kind with
      | none => .refuse .badField
      | some k =>
        if 7 < b.rank.toNat then .refuse .badField
        else if classSuits k b.cls.toNat = false then .refuse .badClass
        else if b.volume.toNat < (s.boundsOf b.cls.toNat).min ∨ (s.boundsOf b.cls.toNat).max < b.volume.toNat then
          .refuse .badVolume
        else
          match claimAt s.table.claims a b.id with
          | some c =>
            if c.isCommitted then .refuse .committed
            else if c.kind ≠ k then .refuse .kindMismatch
            else .replace { c with
              cls := b.cls.toNat, volume := b.volume.toNat, declared := b.rank.toNat,
              effective := max b.rank.toNat e.ceiling, remainder := b.remainder }
          | none =>
            if k.capacity ≤ countOf s.table.claims a k then .refuse .ownerFull
            else if 64 ≤ s.table.claims.length then .refuse .tableFull
            else .accept
              { owner := a, id := b.id, kind := k, cls := b.cls.toNat, volume := b.volume.toNat,
                declared := b.rank.toNat, effective := max b.rank.toNat e.ceiling,
                posted := s.window.number, age := 0, status := .waiting, remainder := b.remainder }

/-- Replaces a record in its place. -/
def replaceClaim (c : Claim) (l : List Claim) : List Claim :=
  l.map (fun d => if d.owner = c.owner ∧ d.id = c.id then c else d)

/-- The claim table takes a CLAIM of owner `a`; `own` says that it is the station's own frame by
listen-back, whose refusal is counted (R8). Changes of own claims are reported (R9). -/
def State.takeClaim (s : State) (own : Bool) (a : Addr) (b : ClaimBody) : State :=
  match s.judgeClaim a b with
  | .accept c =>
    let s := s.setClaims (insertClaim c s.table.claims)
    if a = s.own then s.roleAdmitted b.id else s
  | .replace c =>
    let s := s.setClaims (replaceClaim c s.table.claims)
    if a = s.own then s.report (.replaced b.id) else s
  | .refuse cause =>
    if own then ((s.countRefused 1).raise .claimRefused).roleRefused b.id cause else s

/-! ## Removals (R10, R11, R14, R15, R20) -/

/-- Removes the claims that satisfy `p` at once; each own claim is reported REMOVED with the reason (R9). -/
def State.removeClaims (s : State) (p : Claim → Bool) (why : RemovalReason) : State :=
  let gone := s.table.claims.filter p
  let s := s.setClaims (s.table.claims.filter (fun c => !p c))
  (gone.filter (fun c => c.owner == s.own)).foldl (fun s c => s.roleRemoved c.id why) s

/-- Removes the claim of an owner with an id, whatever its state (R10, R11). -/
def State.removeClaim (s : State) (a : Addr) (id : Byte) (why : RemovalReason) : State :=
  s.removeClaims (fun c => c.owner == a && c.id == id) why

/-- Removes every claim of an owner (R14, R15, R20, R95). -/
def State.removeOwner (s : State) (a : Addr) (why : RemovalReason) : State :=
  s.removeClaims (fun c => c.owner == a) why

/-- A new ceiling of an owner raises the effective ranks that are smaller (R3). -/
def raiseTo (a : Addr) (ceiling : Nat) (l : List Claim) : List Claim :=
  l.map (fun c => if c.owner = a ∧ c.effective < ceiling then { c with effective := ceiling } else c)

/-! ## ROW frames (R12, R13) -/

/-- The kind of a ROW record. -/
def RowRecord.kind (r : RowRecord) : ClaimKind := if r.flush then .flush else .lot

/-- A record is within the table's laws as far as it goes itself (R13). -/
def rowRecordFits (r : RowRecord) : Bool :=
  classSuits (if r.flush then .flush else .lot) r.cls.toNat && r.volume != 0

/-- Drops every record whose id equals that of an earlier record (R13). -/
def dropRepeats : List RowRecord → List RowRecord
  | [] => []
  | r :: l => r :: (dropRepeats l).filter (fun k => k.id != r.id)

/-- The claim that a ROW record of owner `a` enters (R12, R13). -/
def claimOfRecord (a : Addr) (window : Window) (ceiling aging : Nat) (r : RowRecord) : Claim :=
  let effective := max r.rank.toNat ceiling
  { owner := a, id := r.id, kind := if r.flush then .flush else .lot, cls := r.cls.toNat,
    volume := r.volume.toNat, declared := effective, effective := effective,
    posted := minus window r.p.toNat, age := min r.age.toNat (aging - 1),
    status := if r.committed then .committed (plus window r.c.toNat) else .waiting,
    remainder := r.remainder }

/-- Sorts claims into table order. -/
def sortClaims (l : List Claim) : List Claim := l.foldl (fun acc c => insertClaim c acc) []

/-- Fits the claims of one owner, in ascending id order, to capacity: the first 6 LOTs, the first FLUSH,
and no more than `room` in all, the highest ids dropped (R13). -/
def fitClaims (room : Nat) (l : List Claim) : List Claim :=
  let lots := (l.filter (fun c => c.kind == .lot)).take 6
  let flushes := (l.filter (fun c => c.kind == .flush)).take 1
  (l.filter (fun c => lots.contains c || flushes.contains c)).take room

/-- The claims that a ROW of `a` enters into a table that holds `others` claims of other owners: a record
whose id an earlier record of the ROW carries goes, whatever becomes of the earlier one, as does a record
that does not fit by itself, and the rest are fitted to capacity (R12, R13).
A ROW out of id order: DEDUCED, unsafe (log 22). -/
def rowClaims (a : Addr) (b : RowBody) (ceiling aging others : Nat) : List Claim :=
  fitClaims (64 - others)
    (sortClaims (((dropRepeats b.records).filter rowRecordFits).map
      (claimOfRecord a b.window ceiling aging)))

/-- The claim table takes the ROW of `a`, once the roster has applied its station information: the claims
of `a` are replaced, or all removed when its entry is EXCLUDED (R12, R13).
R9 names no report for an own claim that the ROW re-enters with other fields, and none is made: DESIGN CHOICE,
unsafe (log 35). -/
def State.takeRow (s : State) (a : Addr) (b : RowBody) : State :=
  let others := s.table.claims.filter (fun c => c.owner != a)
  let before := s.table.claims.filter (fun c => c.owner == a)
  let entered :=
    if s.senderExcluded a then []
    else rowClaims a b (ceilingOf s.roster a) s.cfg.hall.a others.length
  let dropped := if s.senderExcluded a then 0 else b.records.length - entered.length
  let s := s.setClaims (entered.foldl (fun l c => insertClaim c l) others)
  if a = s.own then
    let s := if dropped = 0 then s else (s.countRefused dropped).raise .claimRefused
    let s := (before.filter (fun c => !entered.any (fun e => e.id == c.id))).foldl
      (fun s c => s.roleRemoved c.id .rowDropped) s
    (entered.filter (fun e => !before.any (fun c => c.id == e.id))).foldl
      (fun s e => s.roleAdmitted e.id) s
  else s

/-! ## What a MARK does to the table (R16 to R20) -/

/-- A WAITING claim ages: at age A the age returns to 0 and the effective rank improves by one unless it
already stands at the owner's ceiling (R18). -/
def ageClaim (aging ceiling : Nat) (c : Claim) : Claim :=
  if aging ≤ c.age + 1 then
    { c with age := 0, effective := if c.effective ≤ ceiling then c.effective else c.effective - 1 }
  else { c with age := c.age + 1 }

/-- What a MARK carrying `m` makes of one claim: none when it leaves the table. `commits` lists the
claims the plan hands over with their arrival windows (R47), `lost` the owners declared lost (R20). -/
def markClaim (roster : List RosterEntry) (aging : Nat) (commits : List (Addr × Byte × Window))
    (lost : List Addr) (m : Window) (c : Claim) : Option Claim :=
  if lost.contains c.owner then none
  else
    match c.status with
    | .committed w => if staleAt w m then none else some c
    | .waiting =>
      match commits.find? (fun x => x.1 == c.owner && x.2.1 == c.id) with
      | some x => some { c with status := .committed x.2.2 }
      | none => some (ageClaim aging (ceilingOf roster c.owner) c)

/-- The claim is removed as stale by a MARK carrying `m` (R19, R20). -/
def staleClaim (lost : List Addr) (m : Window) (c : Claim) : Bool :=
  !lost.contains c.owner &&
    match c.status with
    | .committed w => staleAt w m
    | .waiting => false

/-- The claim table makes its changes for a MARK, and reports those of own claims (R9, R16 to R20). -/
def State.markTable (s : State) (commits : List (Addr × Byte × Window)) (lost : List Addr) (m : Window) :
    State :=
  let before := s.table.claims
  let stale := before.filter (staleClaim lost m)
  let s := s.setClaims (before.filterMap (markClaim s.roster s.cfg.hall.a commits lost m))
  let s := s.countStale stale.length
  let own := commits.filter (fun x => x.1 == s.own && !lost.contains x.1 &&
    before.any (fun c => c.owner == x.1 && c.id == x.2.1 && !c.isCommitted))
  let s := own.foldl (fun s x => s.roleCommitted x.2.1 x.2.2) s
  (stale.filter (fun c => c.owner == s.own)).foldl (fun s c => s.roleRemoved c.id .stale) s

end Sys2Proof.Machine
end

