-- ==== Sys2Proof/Machine/Plan.lean ====
section
/-! DEFINITION. The flume plan (sections 2.3 to 2.5): the arriving entry, the two phases of the build, the
commitments it hands over, and the assignments it answers. Windows of the horizon are named by their
entry numbers, 0 to 15: entry k is arrival window m+1+k (R36). -/

namespace Sys2Proof.Machine

/-- What a build reads besides the claims (R37). -/
structure PlanInputs where
  m : Window
  budget : Nat
  flushLimit : Nat
  roster : List RosterEntry
  hall : HallState

/-- A build in progress: the entries, the flush counts of discharge windows m+1 to m+16 (R36), and the
owner and entry number of every LOT placed so far, which R44 reads. -/
structure Build where
  entries : List PlanEntry
  flushes : List Nat
  lots : List (Addr × Nat)
  deriving DecidableEq, Repr

/-- A build before its first placement (R36). -/
def Build.start : Build := ⟨List.replicate 16 PlanEntry.empty, List.replicate 16 0, []⟩

/-- The number of the entry for a window in the plan of base `m`; the window lies in the horizon when it
is below 16 (section 2.4). -/
def entryNumber (m w : Window) : Nat := fwd (plus m 1) w

/-- The placement of a claim in entry `k` (R40, R45). -/
def placementOf (p : PlanInputs) (k : Nat) (c : Claim) : Placement :=
  let arrival := plus p.m (k + 1)
  ⟨c.owner, c.id, c.volume, arrival, minus arrival (transitOf p.roster c.owner)⟩

/-- An entry after a placement of a class (R40, R45). -/
def PlanEntry.add (x : Placement) (cls : Nat) (e : PlanEntry) : PlanEntry :=
  ⟨e.cls.or (some cls), e.volume + x.volume, e.placements ++ [x]⟩

/-- Places a claim in entry `k` (R40, R45). -/
def Build.place (p : PlanInputs) (k : Nat) (b : Build) (c : Claim) : Build :=
  let x := placementOf p k c
  { entries := b.entries.modify k (PlanEntry.add x c.cls)
    flushes := if c.kind = .flush then b.flushes.modify (entryNumber p.m x.discharge) (· + 1) else b.flushes
    lots := if c.kind = .lot then b.lots ++ [(c.owner, k)] else b.lots }

/-- The claim is COMMITTED to the arrival window of entry `k`. -/
def committedTo (m : Window) (k : Nat) (c : Claim) : Bool :=
  match c.status with
  | .committed w => entryNumber m w == k
  | .waiting => false

/-- The first phase: every COMMITTED claim of the horizon in its entry, by arrival window and then table
order (R40). -/
def placeCommitted (p : PlanInputs) (claims : List Claim) : Build :=
  (List.range 16).foldl (fun b k => (claims.filter (committedTo p.m k)).foldl (Build.place p k) b) Build.start

/-- Placement of WAITING claims is suspended (R41). -/
def HallState.suspended (h : HallState) : Bool :=
  !h.stops.isEmpty || !h.presence || h.gate == .jammed

/-- The windows a claim has waited (R42). -/
def Claim.waited (m : Window) (c : Claim) : Nat := fwd c.posted m

/-- A LOT claim is older than another of its owner (R42). -/
def olderLot (m : Window) (a b : Claim) : Bool :=
  decide (b.waited m < a.waited m) || (a.waited m == b.waited m && decide (a.id.toNat < b.id.toNat))

/-- An owner's oldest LOT claim not yet dealt with (R42). -/
def oldestLot (m : Window) (rest : List Claim) (a : Addr) : Option Claim :=
  firstBy (olderLot m) (rest.filter (fun c => c.owner == a && c.kind == .lot))

/-- The eligible set, from the WAITING claims not yet dealt with and the owners stopped (R42, R46). -/
def eligible (m : Window) (rest : List Claim) (stopped : List Addr) : List Claim :=
  rest.filter (fun c =>
    c.kind == .flush || (!stopped.contains c.owner && oldestLot m rest c.owner == some c))

/-- The key of R43: one claim is chosen before another. -/
def chosenBefore (m : Window) (a b : Claim) : Bool :=
  decide (a.effective < b.effective) || (a.effective == b.effective &&
    (decide (b.waited m < a.waited m) || (a.waited m == b.waited m && a.before b)))

/-- The resume window's bound on the entry number while the crusher state is HOLDING (R44). -/
def resumeBound (p : PlanInputs) : Nat :=
  let n := entryNumber p.m p.hall.resume
  if p.hall.gate = .holding ∧ 1 ≤ n ∧ n ≤ 32767 then n else 0

/-- The least entry number after every LOT of an owner placed so far (R44). -/
def Build.afterLots (b : Build) (a : Addr) : Nat :=
  (b.lots.filter (fun x => x.1 == a)).foldl (fun n x => max n (x.2 + 1)) 0

/-- The earliest entry for a claim (R44). -/
def earliestEntry (p : PlanInputs) (b : Build) (c : Claim) : Nat :=
  max (transitOf p.roster c.owner)
    (max (resumeBound p) (if c.kind = .lot then b.afterLots c.owner else 0))

/-- Entry `k` admits the claim (R45). -/
def admits (p : PlanInputs) (b : Build) (c : Claim) (k : Nat) : Bool :=
  let e := b.entries.getD k PlanEntry.empty
  (e.cls == none || e.cls == some c.cls) && decide (e.volume + c.volume ≤ p.budget)
  && !classHeld p.hall.holds c.cls
  && (c.kind == .lot || decide (b.flushes.getD (k - transitOf p.roster c.owner) 0 < p.flushLimit))

/-- The entry in which the claim is placed, if one admits it (R45, R46). -/
def entryFor (p : PlanInputs) (b : Build) (c : Claim) : Option Nat :=
  (List.range 16).find? (fun k => decide (earliestEntry p b c ≤ k) && admits p b c k)

/-- The second phase: WAITING claims one at a time by the key, while any is eligible (R42 to R46). Each step
deals with one claim, so `fuel` need be no more than their number. -/
def placeWaiting (p : PlanInputs) : Nat → List Claim → List Addr → Build → Build
  | 0, _, _, b => b
  | fuel + 1, rest, stopped, b =>
    match firstBy (chosenBefore p.m) (eligible p.m rest stopped) with
    | none => b
    | some c =>
      let rest := rest.filter (fun d => !(d.owner == c.owner && d.id == c.id))
      match entryFor p b c with
      | some k => placeWaiting p fuel rest stopped (b.place p k c)
      | none => placeWaiting p fuel rest (if c.kind = .lot then c.owner :: stopped else stopped) b

/-- The sixteen entries of the plan (R40 to R46). -/
def buildEntries (p : PlanInputs) (claims : List Claim) : List PlanEntry :=
  let b := placeCommitted p claims
  let waiting := claims.filter (fun c => !c.isCommitted)
  (if p.hall.suspended then b else placeWaiting p waiting.length waiting [] b).entries

/-- The arriving entry at the MARK that opens `m`, from the plan about to be replaced (R38). -/
def PlanState.entryArriving (q : PlanState) (m : Window) : PlanEntry :=
  match q.base with
  | some base => q.entries.getD (entryNumber base m) PlanEntry.empty
  | none => PlanEntry.empty

/-- The inputs of the build at a MARK carrying `m`, from the state as the MARK was taken (R37). -/
def State.planInputs (s : State) (m : Window) : PlanInputs :=
  ⟨m, s.cfg.hall.b, s.cfg.hall.k, s.roster, s.hall⟩

/-- The plan block after a MARK carrying `m` (R37, R38). -/
def State.planAt (s : State) (m : Window) : PlanState :=
  { base := some m, entries := buildEntries (s.planInputs m) s.table.claims,
    arriving := s.plan.entryArriving m }

/-- Every placement of a list of entries. -/
def placementsOf (entries : List PlanEntry) : List Placement := (entries.map (fun e => e.placements)).flatten

/-- The placement is of a claim that is WAITING in the table. -/
def placesWaiting (claims : List Claim) (x : Placement) : Bool :=
  claims.any (fun c => c.owner == x.owner && c.id == x.id && !c.isCommitted)

/-- The commitments that a plan of base `m` hands to the table (R47). -/
def commitsOf (claims : List Claim) (entries : List PlanEntry) (m : Window) : List (Addr × Byte × Window) :=
  ((placementsOf entries).filter (fun x => placesWaiting claims x && x.discharge == plus m 1)).map
    (fun x => (x.owner, x.id, x.arrival))

/-- The PLAN_BUILT report (R49). -/
def State.planReport (s : State) (entries : List PlanEntry) (m : Window) : Report :=
  let own := (placementsOf entries).filter (fun x => x.owner == s.own)
  let waiting := s.ownClaims.filter (fun c => !c.isCommitted)
  .planBuilt m
    (own.map (fun x => (x, !placesWaiting s.table.claims x,
      placesWaiting s.table.claims x && x.discharge == plus m 1)))
    (waiting.filter (fun c => !own.any (fun x => x.id == c.id))).length

/-- The plan allocator's part in a MARK carrying `m` (R37, R38, R49). -/
def State.rebuildPlan (s : State) (m : Window) : State :=
  let q := s.planAt m
  { s with plan := q }.report (s.planReport q.entries m)

/-- The answer to a role unit that asks for an assignment (R48). -/
inductive Assignment where
  | placed (arrival discharge : Window)
  | arriving (arrival discharge : Window)
  | unplaced
  | outside
  | absent
  deriving DecidableEq, Repr

/-- The assignment of the station's own claim with an id (R48). A placement in the plan is answered before one
in the arriving entry where both hold one: DESIGN CHOICE, unsafe (log 36). -/
def State.assignment (s : State) (id : Byte) : Assignment :=
  let mine (x : Placement) : Bool := x.owner == s.own && x.id == id
  match (placementsOf s.plan.entries).find? mine with
  | some x => .placed x.arrival x.discharge
  | none =>
    match s.plan.arriving.placements.find? mine with
    | some x => .arriving x.arrival x.discharge
    | none =>
      match s.ownClaim id with
      | some c => if c.isCommitted then .outside else .unplaced
      | none => .absent

end Sys2Proof.Machine
end

