-- ==== Sys2Proof/Machine/Hall.lean ====
section
/-! DEFINITION. The hall condition record (sections 2.1 and 2.2): crusher presence, the gate state, the
stop set, and the restated marks that mend it. -/

namespace Sys2Proof.Machine

/-- Replaces the hall condition record. -/
def State.setHall (s : State) (h : HallState) : State := { s with hall := h }

/-- Crusher presence as the roster gives it (R28). -/
def presenceOf (roster : List RosterEntry) : Bool :=
  roster.any (fun e => e.role == .crusher && e.status == .present)

/-- The roster holds a CRUSHER entry that is not EXCLUDED (R28). -/
def servesCrusher (roster : List RosterEntry) : Bool :=
  roster.any (fun e => e.role == .crusher && !e.isExcluded)

/-- The gate fields at their start values (R27, R28). -/
def HallState.resetGate (h : HallState) : HallState := { h with gate := .running, holds := 0, resume := 0 }

/-- The allocator recomputes crusher presence, and returns the gate fields to their start values when no
CRUSHER entry remains that is not EXCLUDED (R28, R33). -/
def State.recomputePresence (s : State) : State :=
  let p := presenceOf s.roster
  let h := if servesCrusher s.roster then s.hall else s.hall.resetGate
  let t := s.setHall { h with presence := p }
  if p = s.hall.presence then t else t.report (.presenceChanged p)

/-- The sender's roster entry has the role CRUSHER and is not EXCLUDED (R29). -/
def State.crusherSender (s : State) (a : Addr) : Bool :=
  match entryOf s.roster a with
  | some e => e.role == .crusher && !e.isExcluded
  | none => false

/-- The allocator takes a GATE (R29, R33). -/
def State.takeGate (s : State) (sender : Addr) (b : GateBody) : State :=
  match gateViewOf b.state with
  | some v =>
    if s.crusherSender sender then
      let t := s.setHall { s.hall with gate := v, holds := b.holds, resume := b.resume }
      if t.hall = s.hall then t else t.report (.gateChanged v b.holds)
    else s
  | none => s

/-- The stop set holds an originator. -/
def HallState.stopped (h : HallState) (a : Addr) : Bool := h.stops.any (fun e => e.addr == a)

/-- The stop set after a STOP of `a` (R30); the entry's restated mark is set (R35). -/
def HallState.addStop (h : HallState) (a : Addr) (c : StopCause) : HallState :=
  if h.stopped a then
    { h with stops := h.stops.map (fun e => if e.addr = a then { e with cause := c, restated := true } else e) }
  else
    { h with
      stops := insertBy (fun x y => decide (x.addr.val < y.addr.val)) ⟨a, c, true⟩ h.stops
      firstCause := if h.stops.isEmpty then some c else h.firstCause }

/-- The stop set after an originator's entry is removed (R31, R35). -/
def HallState.dropStop (h : HallState) (a : Addr) : HallState :=
  let stops := h.stops.filter (fun e => e.addr != a)
  { h with stops := stops, firstCause := if stops.isEmpty then none else h.firstCause }

/-- The allocator takes a STOP (R30, R33). -/
def State.takeStop (s : State) (sender : Addr) (b : StopBody) : State :=
  match stopCauseOf b.cause with
  | some c =>
    if s.senderExcluded sender then s
    else
      let t := s.setHall (s.hall.addStop sender c)
      if s.hall.stopped sender then t
      else (if s.hall.stops.isEmpty then t.raise .stopActive else t).roleStopTaken sender c
  | none => s

/-- An originator's entry leaves the stop set; the set becoming empty is reported (R31, R33, R35). -/
def State.removeStop (s : State) (a : Addr) : State :=
  if s.hall.stopped a then
    let t := s.setHall (s.hall.dropStop a)
    if t.hall.stops.isEmpty then t.report .stopCleared else t
  else s

/-- The allocator takes a RELEASE (R31). -/
def State.takeRelease (s : State) (sender : Addr) (b : ReleaseBody) : State :=
  match addrOf b.target with
  | some t =>
    if s.senderExcluded sender then s
    else if t = sender ∨ b.force = true then s.removeStop t else s
  | none => s

/-- Sets every restated mark: what a mark holds until the station's own ASK clears it (R35, DEDUCED, log 17). -/
def State.markRestated (s : State) : State :=
  s.setHall { s.hall with stops := s.hall.stops.map (fun e => { e with restated := true }) }

/-- Clears every restated mark (R35, R98). -/
def State.clearRestated (s : State) : State :=
  s.setHall { s.hall with stops := s.hall.stops.map (fun e => { e with restated := false }) }

/-- A resynchronising station drops the stop of a ROW's sender whose restated mark is clear (R35). -/
def State.mendStop (s : State) (sender : Addr) : State :=
  if s.sync.status.mending && s.hall.stops.any (fun e => e.addr == sender && !e.restated) then
    s.removeStop sender
  else s

/-- A station whose own address is in its own stop set requests its STOP again with the ROW it requests
in answer to an ASK (R34). -/
def State.restateStop (s : State) : State :=
  match s.ownStop with
  | some c =>
    if s.trunk.queue.any (fun f => f.body.kind == .stop) then s
    else s.request (.stop ⟨byteOf c.code⟩) .plan
  | none => s

end Sys2Proof.Machine
end

