-- ==== Sys2Proof/Machine/Roster.lean ====
section
/-! DEFINITION. The station roster (chapter 3): station information, the exclusion test, leaving, frames
from unknown senders, ASKs for a HELLO, and missed windows. -/

namespace Sys2Proof.Machine

/-- Replaces the roster. -/
def State.setRoster (s : State) (l : List RosterEntry) : State := { s with roster := l }

/-- The station's own entry (R57). -/
def ownEntry (c : Config) : RosterEntry :=
  ⟨c.address, c.role, c.transit, c.ceiling, true, .present, 0, false⟩

/-- An entry takes its place in address order, in place of the one for the same address (R57). -/
def putEntry (e : RosterEntry) (l : List RosterEntry) : List RosterEntry :=
  insertBy (fun x y => decide (x.addr.val < y.addr.val)) e (l.filter (fun x => x.addr != e.addr))

/-! ## Hearing a peer (R58) -/

/-- The heard flag of a sender's entry is set, that of the own entry excepted (R58, R66). -/
def State.hear (s : State) (a : Addr) : State :=
  if a = s.own then s
  else s.setRoster (s.roster.map (fun e => if e.addr = a then { e with heard := true } else e))

/-- The roster asks an unknown sender for a HELLO, at most once in a window (R65). -/
def State.askUnknown (s : State) (a : Addr) : State :=
  if s.sync.status == .synced && s.lineActive && (entryOf s.roster a).isNone
      && !s.window.asked.contains a then
    { s with window := { s.window with asked := s.window.asked ++ [a] } }.request (.ask (askHello a)) .roster
  else s

/-- A queued ASK for a HELLO from an address is no longer needed (R65). -/
def State.dropAsk (s : State) (a : Addr) : State :=
  s.pullWaiting (fun f => f.body == .ask (askHello a))

/-! ## Station information (R59 to R62) -/

/-- The exclusion test counts the own entry of a crusher station, unless the station is still joining
(R62).
DEDUCED, unsafe (log 24). -/
def State.countsOwnCrusher (s : State) : Bool :=
  !(s.sync.status == .listening || s.sync.status == .syncing)

/-- Another CRUSHER entry that is not EXCLUDED stands at an address other than `a` (R61, R62). -/
def State.otherCrusher (s : State) (a : Addr) : Bool :=
  s.roster.any (fun e => e.addr != a && e.role == .crusher && !e.isExcluded
    && (e.addr != s.own || s.countsOwnCrusher))

/-- The exclusion cause found for the entry of `a` with a role and a digest match, tested in order (R61). -/
def State.exclusionOf (s : State) (a : Addr) (role : Role) (digestMatch : Bool) : Option EntryCause :=
  if digestMatch = false then some .parameters
  else if role = .crusher ∧ s.otherCrusher a = true then some .role
  else none

/-- The state of an entry after the exclusion test (R59, R61). -/
def statusAfter (found : Option EntryCause) (before : Option RosterEntry) : EntryStatus :=
  match found, before with
  | some c, _ => .excluded c
  | none, none => .present
  | none, some e => if e.isExcluded then (if e.missed = 0 then .present else .silent) else e.status

/-- The entry that station information makes for the sender `a` (R59, R61). -/
def State.entryAfter (s : State) (a : Addr) (role : Role) (i : StationInfo) : RosterEntry :=
  let before := entryOf s.roster a
  let digestMatch := i.digest == s.cfg.hall.digest
  { addr := a, role := role, transit := i.transit.toNat, ceiling := i.ceiling.toNat,
    digestMatch := digestMatch
    status := statusAfter (s.exclusionOf a role digestMatch) before
    missed := match before with
      | some e => e.missed
      | none => 0
    heard := true }

/-- A change of an entry that makes the allocator recompute crusher presence (R28). -/
def presenceMoment (before : Option RosterEntry) (after : RosterEntry) : Bool :=
  match before with
  | none => true
  | some e => e.role != after.role || e.isExcluded != after.isExcluded

/-- The roster applies a peer's station information, which has passed the checks of R59, to the sender's
entry (R59 to R61); a new ceiling reaches the claims (R3), an EXCLUDED entry loses them (R14), and presence
follows (R28). -/
def State.applyInfo (s : State) (a : Addr) (role : Role) (i : StationInfo) : State :=
  let before := entryOf s.roster a
  let e := s.entryAfter a role i
  let s := s.setRoster (putEntry e s.roster)
  let s := if before = some e then s else s.report (.rosterChanged a)
  let s := s.setClaims (raiseTo a e.ceiling s.table.claims)
  let s := if e.isExcluded then s.removeOwner a .excluded else s
  if presenceMoment before e then s.recomputePresence else s

/-- The roster reports a ROLE_CONFLICT: a joining crusher hears of another (R62). -/
def State.roleConflicts (s : State) (role : Role) : Bool :=
  s.cfg.role == .crusher && role == .crusher && !s.countsOwnCrusher

/-- A peer's leaving HELLO removes its entry and its claims at once (R14, R63); the own entry stays
(R66). -/
def State.removeLeaver (s : State) (a : Addr) : State :=
  let known := (entryOf s.roster a).isSome
  let s := s.removeOwner a .leaving
  if known && a != s.own then
    ((s.setRoster (s.roster.filter (fun e => e.addr != a))).report (.rosterChanged a)).recomputePresence
  else s

/-! ## Answering an ASK for a HELLO (R64, R65) -/

/-- The HELLO of this station (R64, R182). -/
def State.helloBody (s : State) (leaving : Bool) : HelloBody := ⟨s.stationInfo, leaving⟩

/-- The roster's part in an ASK for a HELLO (R64, R65); `peer` says that a peer sent it. -/
def State.answerHello (s : State) (peer : Bool) (target : AskTarget) : State :=
  let s := match peer, target with
    | true, .station a => s.dropAsk a
    | _, _ => s
  let mine := match target with
    | .all => true
    | .station a => a == s.own
  if mine && s.lineActive && s.sync.status.joined && s.mode.mode != .leaving
      && !s.trunk.queue.any (fun f => f.waiting && f.body.kind == .hello) then
    s.request (.hello (s.helloBody false)) .roster
  else s

/-! ## Missed windows (R67 to R69) -/

/-- The entry has been heard since the last MARK, a MARK's sender counting as heard (R58, R67). -/
def heardBy (sender : Addr) (e : RosterEntry) : Bool := e.heard || e.addr == sender

/-- The addresses declared lost at a MARK of `sender` (R67, R69). -/
def lostAt (own sender : Addr) (roster : List RosterEntry) : List Addr :=
  (roster.filter (fun e => e.addr != own && !heardBy sender e && decide (2 ≤ e.missed))).map (fun e => e.addr)

/-- An entry after the missed counting of a MARK of `sender`, none when it is lost (R67). -/
def countMissed (own sender : Addr) (e : RosterEntry) : Option RosterEntry :=
  if e.addr = own then some { e with heard := false }
  else if heardBy sender e then
    some { e with heard := false, missed := 0, status := if e.isExcluded then e.status else .present }
  else if 2 ≤ e.missed then none
  else some { e with heard := false, missed := e.missed + 1, status := if e.isExcluded then e.status else .silent }

/-- The addresses whose entry a MARK changed as R70 reports it. -/
def rosterNews (before after : List RosterEntry) : List Addr :=
  (before.filter (fun e =>
    match entryOf after e.addr with
    | some f => e.status != f.status
    | none => true)).map (fun e => e.addr)

/-- The roster's part in a MARK of `sender`: missed counts, losses, the heard flags and the asked set
cleared, and presence (R28, R67 to R70). -/
def State.markRoster (s : State) (sender : Addr) : State :=
  let before := s.roster
  let s := s.setRoster (before.filterMap (countMissed s.own sender))
  let s := (rosterNews before s.roster).foldl (fun s a => s.report (.rosterChanged a)) s
  { s with window := { s.window with asked := [] } }.recomputePresence

end Sys2Proof.Machine
end

