-- ==== Sys2Proof/Machine/Sync.lean ====
section
/-! DEFINITION. The sync controller (chapter 5): listening, exclusion, row rounds, comparison and
divergence, confinement and rejoining, and the answers to ASKs for rows. -/

namespace Sys2Proof.Machine

/-- Changes the sync controller. -/
def State.mapSync (s : State) (f : SyncState → SyncState) : State := { s with sync := f s.sync }

/-- The sync state takes a value, and a change is reported (R106). -/
def State.setSync (s : State) (x : SyncStatus) : State :=
  let t := s.mapSync (fun y => { y with status := x })
  if s.sync.status = x then t else t.report (.syncChanged x)

/-- A HELLO of this station with the leaving flag clear is requested (R91, R92, R105). -/
def State.requestHello (s : State) : State := s.request (.hello (s.helloBody false)) .sync

/-- A new ASK ALL ROW is requested: the round becomes ASKED, and the attempt count takes a value (R91, R99,
R100, R102, R105). -/
def State.askRows (s : State) (attempts : Nat) : State :=
  (s.mapSync (fun x => { x with round := .asked, attempts := attempts, askLost := false })).request
    (.ask askAllRow) .sync

/-- The attempt count one higher, stopping at 255 (R90). -/
def SyncState.nextAttempt (x : SyncState) : Nat := min (x.attempts + 1) 255

/-- The row round closed: IDLE, nothing received, no MARKs counted. -/
def SyncState.closeRound (x : SyncState) : SyncState :=
  { x with round := .idle, received := [], roundMarks := 0, askLost := false }

/-! ## Exclusion (section 5.3) -/

/-- Entry into EXCLUDED (R95). -/
def State.enterExcluded (s : State) (c : ExclusionCause) : State :=
  let s := s.setSync (.excluded c)
  let s := s.mapSync (fun x => { x with listenTimer := none, round := .idle, received := [] })
  (((s.dropAll .excluded).removeOwner s.own .excluded).roleExcluded).raise .excluded

/-- The sync controller takes an ADDRESS_CONFLICT (R93). -/
def State.onConflict (s : State) : State :=
  let s := s.report .addressConflict
  match s.sync.status with
  | .listening => s.enterExcluded .address
  | .syncing => s.enterExcluded .address
  | .diverged => s.enterExcluded .address
  | _ => s

/-- The sync controller takes a ROLE_CONFLICT, which the roster reports only while LISTENING or SYNCING
(R62, R94). -/
def State.onRoleConflict (s : State) (a : Addr) : State :=
  let s := s.report (.roleConflict a)
  match s.sync.status with
  | .listening => s.enterExcluded .role
  | .syncing => s.enterExcluded .role
  | _ => s

/-- A SYNCING station that takes a peer's ROW with a differing parameter digest excludes itself (R94). -/
def State.onParameters (s : State) (i : StationInfo) : State :=
  if s.sync.status = .syncing ∧ i.digest ≠ s.cfg.hall.digest then s.enterExcluded .parameters else s

/-! ## Becoming SYNCED and DIVERGED -/

/-- Entry into SYNCED (R92, R99, R106). The marks of R35 are no longer kept. -/
def State.becomeSynced (s : State) : State := (s.setSync .synced).markRestated.roleSyncGained

/-- Entry into DIVERGED (R102). -/
def State.enterDiverged (s : State) : State :=
  (((s.setSync .diverged).raise .diverged).roleSyncLost).askRows 1

/-! ## Rows (R96 to R98) -/

/-- The sync controller answers an ASK for rows (R96), the originator's STOP with it (R34). The ROW is requested
first, so that in a queue without room for it it is refused or admitted before the STOP displaces anything:
DESIGN CHOICE, unsafe (log 49). -/
def State.answerRow (s : State) (target : AskTarget) : State :=
  let mine := match target with
    | .all => true
    | .station a => a == s.own
  if mine && s.lineActive && s.sync.status.joined then (s.request .row .sync).restateStop else s

/-- The station's own ASK ALL ROW by listen-back opens the round (R98). -/
def State.openRound (s : State) : State :=
  (s.mapSync (fun x => { x with round := .opened, received := [], roundMarks := 0 })).clearRestated

/-- The sync controller records a peer's ROW while the round is OPEN (R98). -/
def State.recordRow (s : State) (sender : Addr) : State :=
  if s.sync.round = .opened then s.mapSync (fun x => { x with received := addAddr sender x.received }) else s

/-- The offset of a window as a ROW record carries it, at most 255 (R97). -/
def offsetByte (n : Nat) : Byte := byteOf (min n 255)

/-- The ROW record of one own claim, with the current window `w` (R97). -/
def Claim.record (w : Window) (c : Claim) : RowRecord :=
  { id := c.id, flush := c.kind == .flush, cls := BitVec.ofNat 3 c.cls, committed := c.isCommitted,
    remainder := c.remainder, volume := byteOf c.volume, rank := BitVec.ofNat 3 c.effective,
    age := BitVec.ofNat 4 c.age, p := offsetByte (fwd c.posted w)
    c := match c.status with
      | .committed a => offsetByte (fwd w a)
      | .waiting => 0 }

/-- The body of a ROW, as the station stands (R97). -/
def State.rowBody (s : State) : RowBody :=
  ⟨s.stationInfo, s.window.number, s.ownClaims.map (Claim.record s.window.number)⟩

/-! ## MARKs (R91, R99 to R101) -/

/-- What the sync controller compares at a MARK: the state as it stood when the MARK was taken. -/
structure MarkView where
  digest : Half
  count : Byte
  expected : Window
  peers : List Addr

/-- The addresses of the PRESENT peers (R99). -/
def presentPeers (own : Addr) (roster : List RosterEntry) : List Addr :=
  (roster.filter (fun e => e.addr != own && e.status == .present)).map (fun e => e.addr)

/-- The view of a MARK (R26, R99, R101). -/
def State.markView (s : State) : MarkView :=
  ⟨s.digest, s.claimCount, s.window.number + 1, presentPeers s.own s.roster⟩

/-- The MARK's digest and claim count agree with the station's own (R99, R101). -/
def MarkView.agrees (v : MarkView) (b : MarkBody) : Bool := b.digest == v.digest && b.count == v.count

/-- The OPEN round is complete (R99). -/
def SyncState.complete (x : SyncState) (peers : List Addr) : Bool := peers.all (fun a => x.received.contains a)

/-- A deciding MARK (R99). -/
def State.decideRound (s : State) (v : MarkView) (b : MarkBody) : State :=
  if v.agrees b then
    (s.mapSync (fun x => { x.closeRound with attempts := 0 })).becomeSynced
  else (s.raise .diverged).askRows s.sync.nextAttempt

/-- A MARK taken while SYNCING or DIVERGED (R99, R100). -/
def State.markRound (s : State) (v : MarkView) (b : MarkBody) : State :=
  match s.sync.round with
  | .opened =>
    if s.sync.complete v.peers then s.decideRound v b
    else
      let s := s.mapSync (fun x => { x with roundMarks := x.roundMarks + 1 })
      if 2 ≤ s.sync.roundMarks then s.askRows s.sync.nextAttempt else s
  | .asked => if s.sync.askLost then s.askRows s.sync.nextAttempt else s
  | .idle => s

/-- The sync controller's part in a MARK (R91, R99 to R101). -/
def State.markSync (s : State) (v : MarkView) (b : MarkBody) : State :=
  match s.sync.status with
  | .listening =>
    ((s.mapSync (fun x => { x with listenTimer := none })).setSync .syncing).requestHello.askRows 1
  | .syncing => s.markRound v b
  | .diverged => s.markRound v b
  | .synced => if v.agrees b && b.window == v.expected then s else s.enterDiverged
  | .excluded _ => s

/-! ## Confinement (section 5.7) -/

/-- The sync controller takes the entry into LISTEN_ONLY (R104). -/
def State.onConfined (s : State) : State :=
  match s.sync.status with
  | .listening => s
  | .excluded _ => s
  | _ =>
    let s := s.setSync .syncing
    ((s.mapSync (fun x => { x.closeRound with attempts := 0 })).markRestated).roleSyncLost

/-- The sync controller takes LINE_ACTIVE (R105). -/
def State.onLineActive (s : State) : State :=
  if s.sync.status = .syncing then s.requestHello.askRows 1 else s

/-- Confinement ends (R81). -/
def State.endConfinement (s : State) : State :=
  let s := { s with trunk := { s.trunk with
    line := .active, failCount := 0, failHold := false, confMarks := 0, confExpiries := 0 } }
  s.onLineActive.roleLineActive

/-- The line state becomes LISTEN_ONLY (R80). -/
def State.enterListenOnly (s : State) : State :=
  let s := { s with trunk := { s.trunk with
    line := .listenOnly, failHold := false, confMarks := 0, confExpiries := 0 } }
  let s := ((s.dropAll .listenOnly).raise .listenOnly).report .listenOnly
  (s.removeOwner s.own .listenOnly).onConfined

end Sys2Proof.Machine
end

