-- ==== Sys2Proof/Machine/Mode.lean ====
section
/-! DEFINITION. The station modes (chapter 10): starts, leaving, dormancy, wakes, and the annunciator's
condition (R176). -/

namespace Sys2Proof.Machine

/-- Changes the supply and mode controller. -/
def State.mapMode (s : State) (f : ModeState → ModeState) : State := { s with mode := f s.mode }

/-- The station mode takes a value, and a change is reported (R177). -/
def State.setMode (s : State) (x : StationMode) : State :=
  let t := s.mapMode (fun y => { y with mode := x })
  if s.mode.mode = x then t else t.report (.modeChanged x)

/-- The changes of station mode, of supply condition (R177) and of sync state (R90, R106) that a start makes,
as they are reported. -/
def State.startReports (s : State) : List Report :=
  (if s.mode.mode = .startHold then [] else [.modeChanged .startHold])
  ++ (if s.mode.supply = .normal then [] else [.supplyNormal])
  ++ (if s.sync.status = .listening then [] else [.syncChanged .listening])

/-- A start with a cause: every block at its after-start values (R178), the changes of mode, supply condition
and sync state reported (R106, R177). -/
def State.start (s : State) (c : StartCause) : State :=
  { State.fresh c s.pins s.pending with reports := s.reports ++ s.startReports }

/-! ## Leaving (R182) -/

/-- The crusher unit is ready to leave (R163). -/
def State.crusherReady (s : State) : Bool :=
  s.roster.all (fun e => e.addr == s.own || e.role == .crusher || e.status != .present)
  && s.crusher.inbound.isEmpty && s.crusher.surge == 0 && s.crusher.mode == .running
  && !s.hall.stopped s.own

/-- The filter unit is ready to leave (R146, R182). -/
def FilterState.ready (u : FilterState) : Bool :=
  u.mode == .online && u.claimId.isNone && u.pending.isNone && !u.bypassOpen && u.band == .normal

/-- The role unit reports itself ready (R182). -/
def State.roleReady (s : State) : Bool :=
  match s.cfg.role with
  | .discharge => s.discharge.lots.isEmpty && s.discharge.pending.isEmpty
  | .filter => s.filter.ready
  | .crusher => s.crusherReady

/-- The leaving condition, the mode aside (R182). -/
def State.mayLeave (s : State) : Bool :=
  ((s.cfg.dormancy && decide (s.cfg.dormantDelay ≤ s.mode.quietWindows)) || s.mode.leaveRequest)
  && s.sync.status == .synced && s.lineActive && s.mode.supply == .normal
  && s.ownClaims.isEmpty && s.seq.restful && s.roleReady

/-- A leaving HELLO of this station. -/
def QFrame.leavingHello (f : QFrame) : Bool :=
  match f.body with
  | .hello b => b.leaving
  | _ => false

/-- A leaving HELLO is in the queue. -/
def State.helloQueued (s : State) : Bool := s.trunk.queue.any QFrame.leavingHello

/-- A leaving HELLO is in flight. -/
def State.helloInFlight (s : State) : Bool :=
  s.trunk.queue.any (fun f => f.leavingHello && f.sent.isSome)

/-- The leaving HELLO is requested (R182). -/
def State.requestLeave (s : State) : State := s.request (.hello (s.helloBody true)) .mode

/-- Entry into LEAVING (R162, R182). -/
def State.enterLeaving (s : State) : State :=
  let s := (s.setMode .leaving).requestLeave
  if s.cfg.role = .crusher then s.cancelOp .feed else s

/-- The mode returns to QUIET from LEAVING with the quiet windows count at 0 (R182). -/
def State.backToQuiet (s : State) : State :=
  (s.setMode .quiet).mapMode (fun x => { x with quietWindows := 0 })

/-- The mode returns by SHIFT from LEAVING, with the quiet windows count at 0 and the leave request and the
wake mark cleared (R183). SHIFT is the level of the last SHIFT_CHANGE: DESIGN CHOICE, unsafe (log 57). -/
def State.backByShift (s : State) : State :=
  (s.setMode (if s.pins.shift then .run else .quiet)).mapMode
    (fun x => { x with quietWindows := 0, leaveRequest := false, wakeMark := false })

/-- LEAVING is entered or abandoned as the leaving condition stands (R182). A HELLO in flight is left to its
listen-back judgement, with its withdrawal noted. -/
def State.settleMode (s : State) : State :=
  match s.mode.mode with
  | .quiet => if s.mayLeave then s.enterLeaving else s
  | .leaving =>
    if s.mayLeave then s
    else
      let flying := s.helloInFlight
      let s := s.pull QFrame.leavingHello
      if flying then s else s.backToQuiet
  | _ => s

/-! ## Dormancy and waking (R183) -/

/-- Entry into DORMANT (R169, R183). A stall timer that was running stops where it stands: DESIGN CHOICE, unsafe
(log 56). -/
def State.enterDormant (s : State) : State :=
  let s := (s.setMode .dormant).dropAll .dormant
  { s with
    window := { s.window with timer := none }
    sync := { s.sync with listenTimer := none }
    seq := s.seq.off }

/-- The leaving HELLO has passed listen-back: the station is DORMANT, or starts at once when a wake met the
HELLO in flight (R183). -/
def State.helloLeft (s : State) : State :=
  let woken := s.mode.wakeMark
  let s := s.enterDormant
  if woken then s.start .wake else s

/-- The leaving HELLO in flight has failed after its withdrawal was asked for (R182, R183). -/
def State.helloFailed (s : State) : State :=
  if s.mode.wakeMark then s.backByShift else s.backToQuiet

/-- A wake in LEAVING or DORMANT (R183). -/
def State.wakeUp (s : State) : State :=
  match s.mode.mode with
  | .dormant => s.start .wake
  | .leaving =>
    let flying := s.helloInFlight
    let s := s.pull QFrame.leavingHello
    if flying then s.mapMode (fun x => { x with wakeMark := true }) else s.backByShift
  | _ => s

/-! ## The annunciator (R176) -/

/-- The worst condition that holds (R176). -/
def State.toneCond (s : State) : ToneCond :=
  if s.inReset = true ∨ s.mode.mode = .dormant then .off
  else if s.hall.stops ≠ [] ∨ s.crusher.mode = .jammed then .twoTone
  else if s.filter.bypassOpen then .steadyHigh
  else if s.filter.mode = .fault ∨ s.discharge.beltFault = true then .steadyLow
  else if s.mode.config = .fault ∨ s.mode.clock = .fault ∨ s.sync.status.isExcluded = true then .pulsed
  else .off

/-- The tone follows the worst condition; a change starts the new pattern (R176). -/
def State.refreshTone (s : State) : State :=
  if s.toneCond = s.tone.cond then s else { s with tone := ⟨s.toneCond, 0⟩ }

end Sys2Proof.Machine
end

