-- ==== Sys2Proof/Machine/Settle.lean ====
section
/-! DEFINITION. The standing conditions that the blocks test afresh after an event: those of the role units
(R111, R115, R117, R119, R136, R137, R157, R158), operations that complete as they resume (R172), the
leaving condition (R182) and the tone (R176). -/

namespace Sys2Proof.Machine

/-! ## Discharge stations -/

/-- The lot is COMMITTED or DISCHARGING, with a discharge window earlier than `w` (R119). -/
def Lot.leadsTo (w : Window) (l : Lot) : Bool :=
  (l.status == .committed || l.status == .discharging) && l.discharge.any (fun d => earlier d w)

/-- The oldest COMMITTED lot that fails the seal-order condition, among lots after `older` (R119). -/
def firstOutOfOrder (older : List Lot) : List Lot → Option Lot
  | [] => none
  | l :: r =>
    if l.status = .committed ∧ older.all (Lot.leadsTo (l.discharge.getD 0)) = false then some l
    else firstOutOfOrder (older ++ [l]) r

/-- COMMITTED lots that fail the seal-order condition are withdrawn, until none does (R119). Each step
returns one lot, so `fuel` need be no more than the lots. -/
def State.keepSealOrder : Nat → State → State
  | 0, s => s
  | fuel + 1, s =>
    match firstOutOfOrder [] s.discharge.lots with
    | some l => keepSealOrder fuel (s.withdrawLot (l.claimId.getD 0))
    | none => s

/-- A lot may be opened (R111). -/
def State.mayOpen (s : State) : Bool :=
  (skipLot s.discharge.lots).isNone && s.mode.mode == .run && !s.discharge.beltFault && !s.machineHold
  && s.pins.classCode != 0 && s.pins.classCode != 7

/-- A lot just opened (R110, R111). -/
def Lot.fresh (number : BitVec 16) (cls : Nat) : Lot :=
  { number := number, cls := cls, status := .opened, volume := none, running := none, length := none,
    travel := 0, onTrack := false, sealReason := none, undersize := false, claimId := none,
    discharge := none, refused := false, age := 0, remainder := false }

/-- Opens a lot, and requests its first capture (R111). -/
def State.openLot (s : State) : State :=
  if s.mayOpen then
    let n := s.discharge.lotCounter + 1
    { s with discharge := { s.discharge with
        lotCounter := n, lots := s.discharge.lots ++ [Lot.fresh n s.pins.classCode.toNat] } }.requestCapture 0
  else s

/-- An INDEX is called for (R115). -/
def State.mayIndex (s : State) : Bool :=
  (match skipLot s.discharge.lots with
   | some l => l.status != .opened && l.volume.isSome
   | none => false)
  && decide ((s.discharge.lots.filter (fun l => l.onTrack)).length < 5)
  && !s.discharge.beltFault && !s.seq.holdsOp .index

/-- Requests an INDEX when R115 calls for one. -/
def State.requestIndex (s : State) : State := if s.mayIndex then s.requestOp s.indexOp else s

/-- The standing conditions of a discharge station, in the order of chapter 6's flow backward: commitments
out of order, the skip, the transfer, the next post.
The order of the conditions: DESIGN CHOICE, unsafe (log 18). -/
def State.settleDischarge (s : State) : State :=
  (((s.keepSealOrder 6).openLot).requestIndex).postLot

/-! ## Crusher stations -/

/-- FEED is called for (R157). -/
def State.mayFeed (s : State) : Bool :=
  s.crusher.mode == .running && s.working && !s.seq.holdsOp .feed

/-- The standing conditions of a crusher station: FEED (R157), and a jam found as it starts or resumes
(R158). `ran` says that FEED ran before the event. -/
def State.settleCrusher (ran : Bool) (s : State) : State :=
  let s := if s.mayFeed then s.requestOp (feedOp s.feedLevel) else s
  if !ran && s.feedRunning && s.channelIs 0 .above then s.jam else s

/-! ## All stations -/

/-- The standing conditions of the role unit. -/
def State.settleRole (ran : Bool) (s : State) : State :=
  match s.cfg.role with
  | .discharge => s.settleDischarge
  | .filter => (s.mapFilter FilterState.closeBypass).postFlush
  | .crusher => s.settleCrusher ran

/-- The running operation has used up its run time. -/
def Op.spent (o : Op) : Bool :=
  match o.runTime with
  | some n => decide (n ≤ o.elapsed)
  | none => false

/-- The kind of the running operation. -/
def SeqState.runningKind (q : SeqState) : Option OpKind := q.running.map (fun o => o.kind)

/-- A timed operation that runs has reached its run time (R115, R141, R159). -/
def State.finishOp (s : State) (k : OpKind) : State :=
  match k with
  | .index => s.finishIndex
  | .flush => s.finishFlush
  | .reverse => s.finishReverse
  | _ => s

/-- An operation that the event made run, with its time already used up, completes at once (R172). `before`
is what ran before the event; each step ends one operation of the stack, so three steps do. -/
def State.completeSpent : Nat → Option OpKind → State → State
  | 0, _, s => s
  | fuel + 1, before, s =>
    match s.seq.running with
    | some o =>
      if o.spent = true ∧ before ≠ some o.kind then completeSpent fuel (some o.kind) (s.finishOp o.kind) else s
    | none => s

/-- What every block tests afresh once an event has been applied; `before` is the sequencer as the event
found it. -/
def State.settle (before : SeqState) (s : State) : State :=
  if s.awake then
    let ran := before.runs .feed
    let s := (s.completeSpent 3 before.runningKind).settleRole ran
    let fed := s.feedRunning
    (s.settleMode).settleRole fed
  else s

/-- Carries out an event: the record of reports begins afresh, nothing happens while the part is held in
reset (R178), the standing conditions are tested once the event is applied, and the tone follows. -/
def State.event (f : State → State) (s : State) : State :=
  let s := { s with reports := [] }
  if s.inReset then s else ((f s).settle s.seq).refreshTone

end Sys2Proof.Machine
end

