-- ==== Sys2Proof/Machine/Trunk.lean ====
section
/-! DEFINITION. The trunk interface (chapter 4): what the end of a frame does before the blocks take it,
listen-back, the contention cycle and the start of a transmission. -/

namespace Sys2Proof.Machine

/-- Changes the trunk interface. -/
def State.mapTrunk (s : State) (f : TrunkState → TrunkState) : State := { s with trunk := f s.trunk }

/-- A frame end: a new contention cycle begins (R74), with last-sender as given (R75). -/
def TrunkState.frameEnd (last : Option Addr) (t : TrunkState) : TrunkState :=
  { t with lastSender := last, cycle := some ⟨none, 0⟩, busy := false, rest := 0 }

/-- The receiver works, and no frame of the station's own is in flight: only then does the station take a
frame it did not transmit (R71, R76). -/
def State.listens (s : State) : Bool := s.awake && (inFlight s.trunk.queue).isNone

/-- Last-sender after a valid frame of a peer: its SENDER (R73, R75), or none at the frame end from which the
trunk interface takes its cycle position (R74).
R74's rule for the first frame end over the general one: DEDUCED, unsafe (log 11). -/
def TrunkState.lastHeard (t : TrunkState) (sender : Addr) : Option Addr :=
  if t.cycle = none then none else some sender

/-- What a valid frame of a peer does before its kind is looked at: it is counted and sets last-sender
(R73, R74), ends the failure hold (R79), marks its sender heard (R58), leads an unknown sender to an ASK unless
it is a HELLO or a ROW (R65), and shows an address conflict (R66).
Last-sender, the ASK and the conflict come before the blocks take the frame (DEDUCED, unsafe, logs 11, 13, 14). -/
def State.hearFrame (s : State) (sender : Addr) (informs : Bool) : State :=
  let s := s.countValid.mapTrunk (fun t => { t.frameEnd (t.lastHeard sender) with failHold := false })
  let s := s.hear sender
  let s := if informs then s else s.askUnknown sender
  if sender = s.own then s.onConflict else s

/-- A valid frame of a peer: its arrival, then what the blocks do with it. -/
def State.fromPeer (sender : Addr) (informs : Bool) (f : State → State) (s : State) : State :=
  if s.listens then f (s.hearFrame sender informs) else s

/-! ## Own frames (R78) -/

/-- The station's frame of a kind in flight, with the body being transmitted. -/
def sentFrame (q : List QFrame) (k : FrameKind) : Option (QFrame × Body) :=
  match inFlight q with
  | some f =>
    match f.sent with
    | some b => if f.body.kind = k then some (f, b) else none
    | none => none
  | none => none

/-- What a good listen-back does before the blocks take the frame (R55, R56, R78, R84). -/
def State.ownGood (s : State) (f : QFrame) : State :=
  let s := s.mapTrunk (fun t =>
    { t.frameEnd (some s.own) with failCount := 0, queue := t.queue.filter QFrame.waiting })
  let s := s.deliver f.who f.body .sent
  let s := { s with window := { s.window with sent := true } }.pullWaiting (fun g => g.body == QBody.present)
  if f.followUp then s.requestGate else s

/-- The station's own frame of a kind by good listen-back, then what the blocks do with it; nothing when no
such frame is in flight. -/
def State.fromOwn (k : FrameKind) (f : Body → State → State) (s : State) : State :=
  match sentFrame s.trunk.queue k with
  | some (g, b) => if s.awake then f b (s.ownGood g) else s
  | none => s

/-- A STOP or RELEASE of the station has passed listen-back: a crusher compares its wanted stop (R156). -/
def State.afterOwnStop (s : State) : State := if s.cfg.role = .crusher then s.compareStop else s

/-! ## Listen-back failure (R79, R80, R87) -/

/-- A frame in flight is waiting again, its follow-up mark cleared (R79, R84). -/
def QFrame.failed (f : QFrame) : QFrame :=
  if f.sent.isSome then { f with sent := none, followUp := false } else f

/-- The withdrawal asked for in flight is applied once the frame has failed (R87); a leaving HELLO takes the
mode back with it (R182, R183). -/
def State.applyPulled (s : State) : State :=
  let gone := s.trunk.queue.filter (fun f => f.pulled && f.waiting)
  let s := (s.setQueue (s.trunk.queue.filter (fun f => !(f.pulled && f.waiting)))).deliverAll
    (gone.map (fun f => (f.who, f.body, Fate.withdrawn)))
  if gone.any QFrame.leavingHello then s.helloFailed else s

/-- A listen-back failure (R79, R80). -/
def State.failFrame (s : State) (received : Option Addr) : State :=
  if s.awake && (inFlight s.trunk.queue).isSome then
    let s := s.countOwnFailure.mapTrunk (fun t =>
      { t.frameEnd received with
        failCount := t.failCount + 1, failHold := true, queue := t.queue.map QFrame.failed })
    let s := s.applyPulled
    if 8 ≤ s.trunk.failCount then s.enterListenOnly else s
  else s

/-! ## The contention cycle (R74 to R77) -/

/-- The place of a slot in its cycle: U, then 0 to 31. -/
def slotPlace : Slot → Nat
  | .urgent => 0
  | .rotating k => k.val + 1

/-- The slot can start next in a cycle: no frame has started in it and the slot lies after the one now
running (R74).
Slots may be passed over (DESIGN CHOICE, safe, log 23). -/
def TrunkState.reaches (t : TrunkState) (x : Slot) : Bool :=
  match t.cycle with
  | some c => !t.busy &&
    match c.slot with
    | some y => decide (slotPlace y < slotPlace x)
    | none => true
  | none => false

/-- The station's access slot: (a − s − 1) mod 32 after last-sender s, and a when it is none (R75). -/
def accessSlot (own : Addr) (last : Option Addr) : Fin 32 :=
  match last with
  | some l => own - l - 1
  | none => own

/-- The index of the frame that the station starts in a slot, if it starts one (R76, R77). -/
def State.frameToStart (s : State) (x : Slot) : Option Nat :=
  if s.awake && s.lineActive && !s.trunk.failHold && !s.sync.status.isExcluded then
    match x with
    | .urgent =>
      if s.cfg.role = .crusher ∧ s.sync.status = .synced then urgentIdx s.trunk.queue else none
    | .rotating k => if k = accessSlot s.own s.trunk.lastSender then headIdx s.trunk.queue else none
  else none

/-- The body of a queued frame as its transmission starts: built then for the four kinds of R83, and as it
was requested for the others. -/
def State.bodyToSend (s : State) : QBody → Body
  | .mark => .mark ⟨s.window.number + 1, s.digest, s.claimCount⟩
  | .present => .present ⟨⟩
  | .gate => .gate s.gateBody
  | .row => .row s.rowBody
  | .hello b => .hello b
  | .claim b => .claim b
  | .withdraw b => .withdraw b
  | .done b => .done b
  | .stop b => .stop b
  | .release b => .release b
  | .ask b => .ask b

/-- The station starts the frame at an index of the queue: it is in flight, and the line is busy (R71, R76,
R83). -/
def State.startFrame (s : State) (i : Nat) : State :=
  s.mapTrunk (fun t =>
    { t with
      busy := true
      queue := t.queue.modify i (fun f => { f with sent := some (s.bodyToSend f.body) }) })

/-- A slot starts (R74, R76, R77). -/
def State.enterSlot (s : State) (x : Slot) : State :=
  if s.awake && s.trunk.reaches x then
    let t := s.mapTrunk (fun t =>
      { t with cycle := t.cycle.map (fun c => { c with slot := some x }) })
    match t.frameToStart x with
    | some i => t.startFrame i
    | none => t
  else s

end Sys2Proof.Machine
end

