-- ==== Sys2Proof/Machine/Mark.lean ====
section
/-! DEFINITION. The taking of a MARK by all blocks (R54): window, PRESENT, plan, sync, table, roster, role
unit and mode, in the order in which the rules make one draw on what another leaves. -/

namespace Sys2Proof.Machine

/-- The window block's part in a MARK (R54), with the confinement counts (R81). -/
def State.markWindow (s : State) (m : Window) : State :=
  let s := { s with window := { s.window with number := m, timer := some 0, expiries := 0 } }
  let s := s.pullWaiting (fun f => f.body == QBody.mark)
  if s.trunk.line = .listenOnly then
    s.mapTrunk (fun t => { t with confMarks := t.confMarks + 1, confExpiries := 0 })
  else s

/-- The PRESENT of a MARK (R55): `own` says that the MARK is the station's own, `joined` how the sync state
stood when the MARK was taken. -/
def State.markPresent (s : State) (own joined : Bool) : State :=
  let s :=
    if !(own || s.window.sent) && joined && s.lineActive && s.cfg.role != .crusher then
      s.request .present .window
    else s
  { s with window := { s.window with sent := false } }

/-- The DONEs that the queue has lost and that are to be requested again (R124, R141). -/
def State.lostDones (s : State) : List DoneBody :=
  match s.cfg.role with
  | .discharge => (s.discharge.pending.filter (fun p => p.lost)).map (fun p => p.body)
  | .filter => (s.filter.pending.toList.filter (fun p => p.lost)).map (fun p => p.body)
  | .crusher => []

/-- Requests them (R124, R141). -/
def State.requestDones (s : State) (l : List DoneBody) : State :=
  l.foldl (fun s b => s.request (.done b) .role) s

/-- A lot at a MARK: its refused mark is cleared and its age rises (R110, R118). -/
def Lot.atMark (l : Lot) : Lot := { l with refused := false, age := min (l.age + 1) 255 }

/-- The discharge unit's part in a MARK carrying `m`: the discharge in progress, whose window the MARK closes
(R106, R122), the head lot's start and the lots not started (R120), the lots' marks and ages (R110, R113,
R118), and the own claims that nothing names (R131).
A MARK that repeats the current number closes the window too: DEDUCED, unsafe (log 24). The refused marks go
after the unit's own requests at this MARK: DESIGN CHOICE, unsafe (log 39). -/
def State.markDischarge (s : State) (m : Window) : State :=
  let s := s.endDischarge
  let s := if s.mayDischarge m then s.startDischarge m else s
  let s := s.withdrawLots (s.overdueLots m)
  (((s.mapLots Lot.atMark).sealAged).withdrawOrphanLots)

/-- The settle count at a MARK taken in SETTLING (R142). -/
def FilterState.settleOnce (u : FilterState) : FilterState :=
  let n := min (u.settle + 1) 2
  { u with settle := n, mode := if n = 2 then .online else .settling }

/-- The filter unit's part in a MARK carrying `m`: the flush in progress, whose window the MARK closes (R106,
R140), and the settle count (R142), the start of a flush and the claim not started (R140), the refused mark
(R138), and the own claims that nothing names (R145). `settling` says that the state was SETTLING when the
MARK was taken.
A MARK that repeats the current number closes the window too: DEDUCED, unsafe (log 24). The refused mark goes
before the WITHDRAWs of this MARK, so a posted CLAIM that one of them displaces waits for the next MARK: DESIGN
CHOICE, unsafe (log 47). -/
def State.markFilter (s : State) (settling : Bool) (m : Window) : State :=
  let s := s.endFlush .settling 1
  let s := if settling && s.filter.mode == .settling then s.mapFilter FilterState.settleOnce else s
  let s :=
    if s.mayFlush m then s.startFlush m
    else if s.filter.mode = .committed ∧ s.filter.discharge.any (fun w => dueBy w m) = true then s.withdrawFlush
    else s
  (s.mapFilter (fun u => { u with refused := false })).withdrawOrphanFlushes

/-- The crusher unit's part in a MARK carrying `m` (R149, R151, R153, R155, R156). -/
def State.markCrusher (s : State) (m : Window) : State :=
  let s := (s.turnDiverter).consume m
  (s.mapCrusher (CrusherState.drain s.cfg.cru)).tellHall

/-- The role unit's part in a MARK carrying `m`; `again` says that the withdrawal of R103 is repeated.
Which MARKs repeat it: DEDUCED, unsafe (log 20). -/
def State.markRole (s : State) (settling again : Bool) (lost : List DoneBody) (m : Window) : State :=
  let s := s.requestDones lost
  let s := match s.cfg.role with
    | .discharge => s.markDischarge m
    | .filter => s.markFilter settling m
    | .crusher => s.markCrusher m
  if again then s.withdrawCommitted else s

/-- The mode controller's part in a MARK: the quiet windows count (R181), and a leaving HELLO that the queue
has lost (R182). -/
def State.markMode (s : State) : State :=
  match s.mode.mode with
  | .quiet => s.mapMode (fun x => { x with quietWindows := min (x.quietWindows + 1) 255 })
  | .leaving => if s.mayLeave && !s.helloQueued then s.requestLeave else s
  | _ => s

/-- The fourth MARK taken in LISTEN_ONLY ends the confinement, once it has been taken (R81). -/
def State.markConfined (s : State) : State :=
  if s.trunk.line = .listenOnly ∧ 4 ≤ s.trunk.confMarks then s.endConfinement else s

/-- The parts of the window block, the plan, the sync controller, the table and the roster in a MARK of
`sender`, in this order, with what their reports make the role unit do (R16, R37, R54 to R56, R67, R101).
The order of the parts: DEDUCED, unsafe (log 12). -/
def State.markRecords (s : State) (own : Bool) (sender : Addr) (b : MarkBody) : State :=
  let m := b.window
  let view := s.markView
  let lost := lostAt s.own sender s.roster
  let claims := s.table.claims
  let s := (s.markWindow m).markPresent own s.sync.status.joined
  let s := s.rebuildPlan m
  let s := s.markSync view b
  let s := s.markTable (commitsOf claims s.plan.entries m) lost m
  s.markRoster sender

/-- The station takes a MARK of `sender`; `own` says that it is the station's own by listen-back (R54). The role
unit takes its part after the records, and the modes after it (DEDUCED, unsafe, log 12). -/
def State.takeMark (own : Bool) (sender : Addr) (b : MarkBody) (s : State) : State :=
  if s.senderExcluded sender then s
  else
    let t := s.markRecords own sender b
    (t.markRole (s.filter.mode == .settling) (s.sync.status.mending && t.sync.status.mending) s.lostDones
      b.window).markMode.markConfined

end Sys2Proof.Machine
end

