-- ==== Sys2Proof/Machine/Frames.lean ====
section
/-! DEFINITION. The meanings of the eleven frames taken (chapters 1 to 5 and 8, routed by R73): each from a
peer, or the station's own by good listen-back. -/

namespace Sys2Proof.Machine

/-- The outcome of a meaning: no command of this block faults or is refused. -/
abbrev Result := Host.Outcome State Fault Refusal

/-- A frame ends and is taken: from a peer when the station listens (R73), or the station's own in flight
(R78). `take` is what the blocks do with it, told whether it is the station's own. -/
def takeFrame {α : Type} (kind : FrameKind) (informs : Bool) (bodyOf : Body → Option α)
    (take : Bool → Addr → α → State → State) (rx : Rx α) (s : State) : State :=
  match rx with
  | .peer a b => s.fromPeer a informs (take false a b)
  | .own => s.fromOwn kind (fun body s =>
      match bodyOf body with
      | some b => take true s.own b s
      | none => s)

/-! ## The bodies by kind -/

def Body.asMark : Body → Option MarkBody | .mark b => some b | _ => none
def Body.asHello : Body → Option HelloBody | .hello b => some b | _ => none
def Body.asPresent : Body → Option PresentBody | .present b => some b | _ => none
def Body.asClaim : Body → Option ClaimBody | .claim b => some b | _ => none
def Body.asWithdraw : Body → Option WithdrawBody | .withdraw b => some b | _ => none
def Body.asDone : Body → Option DoneBody | .done b => some b | _ => none
def Body.asGate : Body → Option GateBody | .gate b => some b | _ => none
def Body.asStop : Body → Option StopBody | .stop b => some b | _ => none
def Body.asRelease : Body → Option ReleaseBody | .release b => some b | _ => none
def Body.asAsk : Body → Option AskBody | .ask b => some b | _ => none
def Body.asRow : Body → Option RowBody | .row b => some b | _ => none

/-! ## What the blocks do with a frame -/

/-- A HELLO with the leaving flag clear from a peer: the roster applies its station information where it
passes the checks of R59, and a joining crusher hears of another (R59, R62, R65, R94). The own entry takes
nothing from a frame under its address (R66). A HELLO or ROW that fails those checks leaves a queued ASK to its
sender where it is, though R65 removes the ASK when a HELLO or ROW from it is taken: DESIGN CHOICE, unsafe
(log 50). -/
def State.takeInfo (sender : Addr) (i : StationInfo) (s : State) : State :=
  if sender = s.own then s
  else
    match roleOfCode i.role with
    | some role =>
      let conflict := s.roleConflicts role
      let s := (s.dropAsk sender).applyInfo sender role i
      if conflict then s.onRoleConflict sender else s
    | none => s

/-- The blocks take a HELLO (R14, R59, R63, R65, R183).
A leaving HELLO from an address without an entry removes a queued ASK for it, by R65, where R63 says that it
changes nothing: DESIGN CHOICE, unsafe (log 37). -/
def State.takeHello (own : Bool) (sender : Addr) (b : HelloBody) (s : State) : State :=
  match own, b.leaving with
  | false, false => s.takeInfo sender b.info
  | false, true => (s.dropAsk sender).removeLeaver sender
  | true, false => s
  | true, true =>
    let s := s.removeOwner s.own .leaving
    if s.mode.mode = .leaving then s.helloLeft else s

/-- The blocks take a CLAIM (R4 to R9). -/
def State.takeClaimFrame (own : Bool) (sender : Addr) (b : ClaimBody) (s : State) : State :=
  s.takeClaim own sender b

/-- The blocks take a WITHDRAW (R10): one whose sender has no roster entry is ignored. -/
def State.takeWithdraw (sender : Addr) (b : WithdrawBody) (s : State) : State :=
  if (entryOf s.roster sender).isSome then s.removeClaim sender b.id .withdrawn else s

/-- The blocks take a DONE (R11), at a crusher the crusher unit too unless its sender is EXCLUDED (R150). -/
def State.takeDone (sender : Addr) (b : DoneBody) (s : State) : State :=
  let s := s.removeClaim sender b.id .done
  if s.cfg.role = .crusher ∧ s.senderExcluded sender = false then s.addInbound sender b else s

/-- The blocks take an ASK (R64, R96, R98); one with an out-of-range field is taken by no block (R190). -/
def State.takeAsk (own : Bool) (b : AskBody) (s : State) : State :=
  match askOf b with
  | some (t, .hello) => s.answerHello (!own) t
  | some (t, .row) => (if own = true ∧ t = .all then s.openRound else s).answerRow t
  | none => s

/-- The blocks take a peer's ROW: roster, claim table, plan allocator, sync controller. One whose station
information fails the checks of R59 is passed over by all but the allocator (R12, R35, R60, R73, R94, R98).
ROLE before PARAMETERS: DEDUCED, unsafe (log 14); the allocator after ROLE and before PARAMETERS: DEDUCED, unsafe
(log 16). -/
def State.takePeerRow (sender : Addr) (b : RowBody) (s : State) : State :=
  match roleOfCode b.info.role with
  | some _ =>
    ((((s.takeInfo sender b.info).takeRow sender b).mendStop sender).recordRow sender).onParameters b.info
  | none => s.mendStop sender

/-- The blocks take a ROW (R12, R13, R35, R60, R98). -/
def State.takeRowFrame (own : Bool) (sender : Addr) (b : RowBody) (s : State) : State :=
  if own then (s.takeRow sender b).mendStop sender else s.takePeerRow sender b

/-! ## The meanings -/

/-- MARK (R54). -/
def execMark (rx : Rx MarkBody) (s : State) : Result :=
  .next (s.event (takeFrame .mark false Body.asMark State.takeMark rx))

/-- HELLO (R59, R63). -/
def execHello (rx : Rx HelloBody) (s : State) : Result :=
  .next (s.event (takeFrame .hello true Body.asHello State.takeHello rx))

/-- PRESENT (R56): taking it changes nothing beyond what the end of any valid frame does. -/
def execPresent (rx : Rx PresentBody) (s : State) : Result :=
  .next (s.event (takeFrame .present false Body.asPresent (fun _ _ _ s => s) rx))

/-- CLAIM (R4 to R8). -/
def execClaim (rx : Rx ClaimBody) (s : State) : Result :=
  .next (s.event (takeFrame .claim false Body.asClaim State.takeClaimFrame rx))

/-- WITHDRAW (R10). -/
def execWithdraw (rx : Rx WithdrawBody) (s : State) : Result :=
  .next (s.event (takeFrame .withdraw false Body.asWithdraw (fun _ => State.takeWithdraw) rx))

/-- DONE (R11, R150). -/
def execDone (rx : Rx DoneBody) (s : State) : Result :=
  .next (s.event (takeFrame .done false Body.asDone (fun _ => State.takeDone) rx))

/-- GATE (R29). -/
def execGate (rx : Rx GateBody) (s : State) : Result :=
  .next (s.event (takeFrame .gate false Body.asGate (fun _ a b s => s.takeGate a b) rx))

/-- STOP (R30, R156). -/
def execStop (rx : Rx StopBody) (s : State) : Result :=
  .next (s.event (takeFrame .stop false Body.asStop
    (fun own a b s => if own then (s.takeStop a b).afterOwnStop else s.takeStop a b) rx))

/-- RELEASE (R31, R156). -/
def execRelease (rx : Rx ReleaseBody) (s : State) : Result :=
  .next (s.event (takeFrame .release false Body.asRelease
    (fun own a b s => if own then (s.takeRelease a b).afterOwnStop else s.takeRelease a b) rx))

/-- ASK (R64, R96). -/
def execAsk (rx : Rx AskBody) (s : State) : Result :=
  .next (s.event (takeFrame .ask false Body.asAsk (fun own _ => State.takeAsk own) rx))

/-- ROW (R12). -/
def execRow (rx : Rx RowBody) (s : State) : Result :=
  .next (s.event (takeFrame .row true Body.asRow State.takeRowFrame rx))

end Sys2Proof.Machine
end

