-- ==== Sys2Proof/Machine/Line.lean ====
section
/-! DEFINITION. The meanings of the trunk line's own events and of the two trunk timers (chapters 3 to 5).
Events that only move the contention cycle test no standing condition. -/

namespace Sys2Proof.Machine

/-- Carries out an event that no standing condition reads: the record of reports begins afresh, and nothing
happens while the part is held in reset (R178). -/
def State.quiet (f : State → State) (s : State) : State :=
  let s := { s with reports := [] }
  if s.inReset then s else f s

/-- CORRUPT_FRAME (R73): it is counted, and last-sender becomes none. -/
def execCorruptFrame (s : State) : Result :=
  .next (s.quiet (fun s =>
    if s.listens then s.countCorrupt.mapTrunk (TrunkState.frameEnd none) else s))

/-- LISTEN_BACK_FAILURE (R79, R80). -/
def execListenBackFailure (received : Option Addr) (s : State) : Result :=
  .next (s.event (fun s => s.failFrame received))

/-- CONTENTION_SLOT (R76, R77). -/
def execContentionSlot (slot : Slot) (s : State) : Result := .next (s.quiet (fun s => s.enterSlot slot))

/-- QUIET_CYCLE (R74, R79): a new cycle begins with last-sender kept, and the failure hold ends. -/
def execQuietCycle (s : State) : Result :=
  .next (s.quiet (fun s =>
    if s.awake && s.trunk.cycle.isSome && !s.trunk.busy then
      s.mapTrunk (fun t => { t with cycle := some ⟨none, 0⟩, failHold := false })
    else s))

/-- CYCLE_POSITION_TAKEN (R74): the moment counts as a frame end with last-sender none. -/
def execCyclePositionTaken (s : State) : Result :=
  .next (s.quiet (fun s =>
    if s.awake && s.trunk.cycle.isNone && !s.trunk.busy then s.mapTrunk (TrunkState.frameEnd none) else s))

/-- FRAME_START (R71): a frame has started, and the line is busy until its end. -/
def execFrameStart (s : State) : Result :=
  .next (s.quiet (fun s =>
    if s.awake then s.mapTrunk (fun t => { t with busy := true, rest := 0 }) else s))

/-- A MARK is called for at a timer expiry, the expiry counted (R52). -/
def State.callsMark (s : State) : Bool :=
  s.lineActive && (s.sync.status == .synced || (s.sync.status.mending && s.window.expiries == 2))

/-- An expiry in confinement is counted, and the eighth ends it (R81). -/
def State.confinedExpiry (s : State) : State :=
  if s.trunk.line = .listenOnly then
    let s := s.mapTrunk (fun t => { t with confExpiries := t.confExpiries + 1 })
    if 8 ≤ s.trunk.confExpiries then s.endConfinement else s
  else s

/-- The window timer runs out: it starts again, the count rises, and a MARK may be requested (R52); then
the confinement count (R81). -/
def State.expireWindow (s : State) : State :=
  let s := { s with window := { s.window with timer := some 0, expiries := min (s.window.expiries + 1) 2 } }
  (if s.callsMark then s.request .mark .window else s).confinedExpiry

/-- WINDOW_TIMER_EXPIRY (R52). -/
def execWindowTimerExpiry (s : State) : Result :=
  .next (s.event (fun s => if s.awake && s.window.timer.isSome then s.expireWindow else s))

/-- The listening timer expires: the station is alone on its trunk (R92). -/
def State.declareAlone (s : State) : State :=
  let s := (s.mapSync (fun x => { x with listenTimer := none })).becomeSynced
  let s := s.requestHello
  { s with window := { s.window with timer := some 0 } }

/-- LISTENING_TIMER_EXPIRY (R92). -/
def execListeningTimerExpiry (s : State) : Result :=
  .next (s.event (fun s =>
    if s.awake && s.sync.listenTimer.isSome && s.sync.status == .listening then s.declareAlone else s))

end Sys2Proof.Machine
end

