-- ==== Sys2Proof/Machine/Sensing.lean ====
section
/-! DEFINITION. The meanings of the measurement events and of the field lines (chapters 6 to 10): averages,
the field supply, the encoder, stalls, and the machine tool's and operator's lines. -/

namespace Sys2Proof.Machine

/-! ## Analog channels (R164 to R166) -/

/-- The configuration of a channel (R164), its numbers 0 while no image is good (DESIGN CHOICE, unsafe, log 3). -/
def State.channelParams (s : State) (ch : Fin 4) : ChannelParams := s.cfg.channels.getD ch.val ⟨0, 0, 0, 0⟩

/-- How an average is classed against the bound pair (R165). -/
inductive Reading where
  | high
  | low
  | inside
  deriving DecidableEq, Repr

/-- The class of an average: one beyond both bounds is high (R165). -/
def readingOf (p : ChannelParams) (avg : Nat) : Reading :=
  if p.high < avg then .high else if avg < p.low then .low else .inside

/-- A channel that has changed state, its runs at 0 (R165). -/
def Channel.enter (c : Channel) (x : ChannelStatus) : Channel :=
  { c with status := x, highRun := 0, lowRun := 0, returnRun := 0 }

/-- The return run of a channel ABOVE or BELOW rises, and at `n` brings it back (R165). -/
def Channel.comeBack (n : Nat) (c : Channel) : Channel :=
  if n ≤ c.returnRun + 1 then c.enter .inBounds else { c with returnRun := c.returnRun + 1 }

/-- The runs and the state of a channel after an average so classed, with persistence `n` (R165). -/
def Channel.judge (n : Nat) (r : Reading) (c : Channel) : Channel :=
  match c.status, r with
  | .inBounds, .high =>
    if n ≤ c.highRun + 1 then c.enter .above else { c with highRun := c.highRun + 1, lowRun := 0 }
  | .inBounds, .low =>
    if n ≤ c.lowRun + 1 then c.enter .below else { c with lowRun := c.lowRun + 1, highRun := 0 }
  | .inBounds, .inside => { c with highRun := 0, lowRun := 0 }
  | .above, .high => { c with returnRun := 0 }
  | .above, _ => c.comeBack n
  | .below, .low => { c with returnRun := 0 }
  | .below, _ => c.comeBack n

/-- A channel after a completed average (R165). -/
def Channel.after (p : ChannelParams) (avg : Nat) (c : Channel) : Channel :=
  { c with last := some avg }.judge p.persistence (readingOf p avg)

/-- A channel of the measurement unit. -/
def State.channel (s : State) (ch : Fin 4) : Channel := s.measure.channels.getD ch.val Channel.start

/-- A pending capture of the channel is filled (R166). -/
def Capture.fill (ch : Fin 4) (avg : Nat) (c : Capture) : Capture :=
  match c with
  | .pending d => if d = ch then .filled ch avg else c
  | _ => c

/-! ## What the role units make of an average -/

/-- The OPEN lot takes a running volume, and is sealed when it reaches the class maximum (R112); a sealed lot
keeps no running volume (R110). It is sealed while BELT_FAULT is in force too: DESIGN CHOICE, unsafe (log 51). -/
def State.runningLot (s : State) (avg : Nat) (l : Lot) : Lot :=
  if l.status = .opened then
    let v := s.convert l.cls avg
    let top := (s.boundsOf l.cls).max
    if top ≤ v then
      { l with status := .sealed, sealReason := some .volumeBound, running := none, volume := some top,
               undersize := false }
    else { l with running := some v }
  else l

/-- The volume of a sealed lot from its capture (R114). -/
def State.sealedVolume (s : State) (avg : Nat) (l : Lot) : Lot :=
  let v := min (s.convert l.cls avg) (s.boundsOf l.cls).max
  { l with volume := some v, undersize := decide (v < (s.boundsOf l.cls).min) }

/-- A sealed lot waits for its volume. -/
def Lot.unweighed (l : Lot) : Bool := l.status == .sealed && l.volume.isNone

/-- The value of a capture reaches the lot in the skip: the running volume of an OPEN lot, its sealing by
volume or by age, and the next capture (R112, R113); or the volume of a sealed lot, which is dropped when
channel 0 is BELOW (R114). -/
def State.takeCapture (s : State) (avg : Nat) : State :=
  if s.discharge.lots.any Lot.unweighed then
    if s.channelIs 0 .below then s.setLots (s.discharge.lots.filter (fun l => !l.unweighed))
    else s.mapLots (fun l => if l.unweighed then s.sealedVolume avg l else l)
  else if hasOpen s.discharge.lots then
    let s := (s.mapLots (s.runningLot avg)).sealAged
    if hasOpen s.discharge.lots then s.requestCapture 0 else s
  else s

/-- A filled capture is taken at once (R112, R114, R166). -/
def State.captureReady (s : State) : State :=
  match s.measure.capture with
  | .filled _ avg =>
    ({ s with measure := { s.measure with capture := .empty } }.report .captureReady).takeCapture avg
  | _ => s

/-- A channel 1 event faults the pump while a FLUSH runs: ABOVE at any time, BELOW once it is proved
(R143). -/
def State.pumpFails (s : State) (x : ChannelStatus) : Bool :=
  s.seq.runs .flush &&
  match s.filter.progress with
  | some p => x == .above || (p.proved && x == .below)
  | none => false

/-- What the role unit does on an entry event (R128, R135, R143, R157, R158); `was` is the state left. -/
def State.onEntered (s : State) (ch : Fin 4) (was now : ChannelStatus) (avg : Nat) : State :=
  match s.cfg.role, ch.val with
  | .discharge, 1 => if now = .above then s.enterBeltFault else s
  | .filter, 0 =>
    if now = .above then s.setBand .bypass
    else if was = .above then s.setBand (risingBand s.cfg.fil avg)
    else s
  | .filter, 1 => if s.pumpFails now then s.pumpFault else s
  | .crusher, 0 => if now = .above then s.jam else s
  | .crusher, 1 =>
    if now = .above ∨ was = .above then { s with seq := s.seq.setFeedLevel s.feedLevel } else s
  | _, _ => s

/-- What the role unit does on an average: the filter's band follows channel 0 while it is not ABOVE (R135). -/
def State.onAverage (s : State) (ch : Fin 4) (avg : Nat) : State :=
  match s.cfg.role, ch.val with
  | .filter, 0 =>
    if s.channelIs 0 .above then s else s.setBand (bandAfter s.cfg.fil s.filter.band avg)
  | _, _ => s

/-- A channel completes an average (R165, R166): the channel is updated, an entry event and then the average
are handed on, and a capture that waited for it is filled and taken. That CAPTURE_READY is told after the
other two: DESIGN CHOICE, unsafe (log 44). -/
def State.completeAverage (s : State) (ch : Fin 4) (avg : Nat) : State :=
  let was := (s.channel ch).status
  let c := (s.channel ch).after (s.channelParams ch) avg
  let s := { s with measure := { s.measure with
    channels := s.measure.channels.set ch.val c, capture := s.measure.capture.fill ch avg } }
  let s := if c.status = was then s else (s.report (.entered ch c.status)).onEntered ch was c.status avg
  ((s.report (.average ch avg c.status)).onAverage ch avg).captureReady

/-- CHANNEL_AVERAGE (R164, R165). -/
def execChannelAverage (ch : Fin 4) (conv : Conversions) (s : State) : Result :=
  .next (s.event (fun s => if s.awake then s.completeAverage ch (conversionAverage conv) else s))

/-! ## The field supply (R184) -/

/-- An average stands for a voltage below a level given in units of 0.5 V (R184). -/
def belowLevel (avg halfVolts : Nat) : Bool := decide (avg * 30 * 2 < halfVolts * 4096)

/-- The supply becomes LOW (R184). -/
def State.supplyFalls (s : State) : State :=
  let s := s.mapMode (fun x => { x with supply := .low, returnRun := 0 })
  ((s.requestOp safeStopOp).raise .supplyLow).roleSupplyLow

/-- The supply returns to NORMAL (R184). -/
def State.supplyReturns (s : State) : State :=
  let s := s.mapMode (fun x => { x with supply := .normal, returnRun := 2 })
  (s.completeOp .safeStop).report .supplyNormal

/-- The monitor judges an average of VFS (R184). -/
def State.judgeSupply (s : State) (avg : Nat) : State :=
  match s.mode.supply with
  | .normal => if belowLevel avg s.cfg.supplyThreshold then s.supplyFalls else s
  | .low =>
    if belowLevel avg (s.cfg.supplyThreshold + 1) then s.mapMode (fun x => { x with returnRun := 0 })
    else if 2 ≤ s.mode.returnRun + 1 then s.supplyReturns
    else s.mapMode (fun x => { x with returnRun := x.returnRun + 1 })

/-- VFS_AVERAGE (R184). -/
def execVfsAverage (conv : Conversions) (s : State) : Result :=
  .next (s.event (fun s => if s.awake then s.judgeSupply (conversionAverage conv) else s))

/-! ## Encoder and stall (R167, R168) -/

/-- The travel counter rises (R167): the stall timer starts again (R168), and a discharge station counts the
travel (R115, R121). -/
def State.travelOne (s : State) : State :=
  let s := { s with measure := { s.measure with
    prescale := 0, travel := s.measure.travel + 1, stallTimer := s.measure.stallTimer.map (fun _ => 0) } }
  let s := s.report .travel
  if s.cfg.role = .discharge then s.countTravel else s

/-- An encoder edge advances the prescaler (R167). -/
def State.countEdge (s : State) : State :=
  if s.cfg.prescaler ≤ s.measure.prescale + 1 then s.travelOne
  else { s with measure := { s.measure with prescale := s.measure.prescale + 1 } }

/-- ENCODER_EDGE (R167): a filter station does not read the encoder. -/
def execEncoderEdge (s : State) : Result :=
  .next (s.event (fun s => if s.awake && s.cfg.role != .filter then s.countEdge else s))

/-- The role unit judges a STALL (R128, R158). -/
def State.onStall (s : State) : State :=
  match s.cfg.role with
  | .discharge => if s.seq.runs .index || s.seq.runs .discharge then s.enterBeltFault else s
  | .filter => s
  | .crusher => s.jam

/-- STALL (R168): the timer starts again, and the report goes to the role unit. The timer runs only while the
associated drive is on. -/
def execStall (s : State) : Result :=
  .next (s.event (fun s =>
    if s.awake && s.measure.stallTimer.isSome then
      ({ s with measure := { s.measure with stallTimer := some 0 } }.report .stall).onStall
    else s))

/-- The level that the encoder's associated drive is producing, where the role has one (R168). -/
def State.associatedDrive (s : State) : Nat :=
  match s.cfg.role with
  | .discharge => s.seq.out1
  | .filter => 0
  | .crusher => s.seq.out0

/-- The stall timer as the associated drive turns on or off (R168). -/
def State.watchDrive (s : State) : State :=
  let timer := if 0 < s.associatedDrive then some (s.measure.stallTimer.getD 0) else none
  { s with measure := { s.measure with stallTimer := timer } }

/-- DRIVE_CYCLE_START (R174): the output levels take the shadow levels, and the stall timer follows (R168). -/
def execDriveCycleStart (s : State) : Result :=
  .next (s.quiet (fun s => if s.awake then { s with seq := s.seq.cycle }.watchDrive else s))

/-! ## Field lines -/

/-- The station works and has a role. -/
def State.actsAs (s : State) (r : Role) : Bool := s.awake && s.cfg.role == r

/-- CLASS_CODE_CHANGE (R111, R113): the lines take the new code, and at a discharge station the OPEN lot is
sealed. A code that is the one already standing is no change. -/
def execClassCodeChange (code : BitVec 3) (s : State) : Result :=
  let changed := s.pins.classCode != code
  .next ({ s with pins := { s.pins with classCode := code } }.event (fun s =>
    if changed && s.actsAs .discharge then s.sealOpen .classChange else s))

/-- LOT_END (R113). -/
def execLotEnd (s : State) : Result :=
  .next (s.event (fun s => if s.actsAs .discharge then s.sealOpen .lotEnd else s))

/-- A full bin is exchanged for an empty one (R152). -/
def State.swapBin (s : State) (bin : Nat) : State :=
  if 1 ≤ bin ∧ bin ≤ 7 then
    (s.mapCrusher (fun c => { c with
      fills := c.fills.set (bin - 1) 0, holds := c.holds &&& ~~~(BitVec.twoPow 7 (bin - 1)) })).requestGate
  else s

/-- BIN_SWAP (R152). -/
def execBinSwap (bin : BitVec 3) (s : State) : Result :=
  .next (s.event (fun s => if s.actsAs .crusher then s.swapBin bin.toNat else s))

/-- JAM_CLEAR (R161). -/
def execJamClear (s : State) : Result :=
  .next (s.event (fun s => if s.actsAs .crusher then s.clearJam else s))

/-- The effect of a SHIFT level on the mode (R181, R183). -/
def State.onShift (s : State) (active : Bool) : State :=
  match s.mode.mode, active with
  | .run, false =>
    let s := (s.setMode .quiet).mapMode (fun x => { x with quietWindows := 0 })
    if s.cfg.role = .discharge then s.sealOpen .shift else s
  | .quiet, true => (s.setMode .run).mapMode (fun x => { x with leaveRequest := false })
  | .leaving, true => s.wakeUp
  | .dormant, true => s.wakeUp
  | _, _ => s

/-- SHIFT_CHANGE (R132, R181, R183). -/
def execShiftChange (active : Bool) (s : State) : Result :=
  .next ({ s with pins := { s.pins with shift := active } }.event (fun s => s.onShift active))

end Sys2Proof.Machine
end

