-- ==== Sys2Proof/Machine/Timers.lean ====
section
/-! DEFINITION. The meanings of the timed operations' ends, of the pump's proving and of the recurrence
interval (chapters 6 to 9). -/

namespace Sys2Proof.Machine

/-- The running operation has run for its whole run time. -/
def SeqState.spendRunning (q : SeqState) : SeqState :=
  { q with running := q.running.map (fun o => { o with elapsed := o.runTime.getD o.elapsed }) }

/-- The running operation of a kind reaches its run time (R169, R172); nothing when it does not run. -/
def State.reachRunTime (s : State) (k : OpKind) : State :=
  if s.awake && s.seq.runs k then { s with seq := s.seq.spendRunning }.finishOp k else s

/-- INDEX_COMPLETE (R115). -/
def execIndexComplete (s : State) : Result := .next (s.event (fun s => s.reachRunTime .index))

/-- FLUSH_COMPLETE (R141). -/
def execFlushComplete (s : State) : Result := .next (s.event (fun s => s.reachRunTime .flush))

/-- REVERSE_COMPLETE (R159). -/
def execReverseComplete (s : State) : Result := .next (s.event (fun s => s.reachRunTime .reverse))

/-- The pump is to be proved: a FLUSH longer than the proving time runs, unproved, and has not run longer
than the proving time (R143). -/
def State.mayProve (s : State) : Bool :=
  s.awake && s.seq.runs .flush && decide (s.provingTicks < s.flushTicks)
  && decide (s.flushElapsed ≤ s.provingTicks) && s.filter.progress.any (fun p => !p.proved)

/-- The pump is proved, or found at fault (R143). -/
def State.provePump (s : State) : State :=
  let s := { s with seq := { s.seq with
    running := s.seq.running.map (fun (o : Op) => { o with elapsed := s.provingTicks }) } }
  if s.channelIs 1 .inBounds then
    s.mapFilter (fun u => { u with progress := u.progress.map (fun (p : Flushing) => { p with proved := true }) })
  else s.pumpFault

/-- PUMP_PROVING (R143). -/
def execPumpProving (s : State) : Result :=
  .next (s.event (fun s => if s.mayProve then s.provePump else s))

/-- RECURRENCE_INTERVAL_EXPIRY (R159). -/
def execRecurrenceIntervalExpiry (s : State) : Result :=
  .next (s.quiet (fun s =>
    if s.awake && s.crusher.recurrence.isSome then
      s.mapCrusher (fun c => { c with attempts := 0, recurrence := none })
    else s))

end Sys2Proof.Machine
end

