-- ==== Sys2Proof/Machine/StartUp.lean ====
section
/-! DEFINITION. The meanings of the start path and of the logic supply (sections 10.1 and 10.2). -/

namespace Sys2Proof.Machine

/-- The clock is QUALIFIED and the station leaves START_HOLD by SHIFT (R180): the receiver starts, the
listening timer runs, and the role unit begins. SHIFT is the level of the last SHIFT_CHANGE, the one that last held
for 20 ms: DESIGN CHOICE, unsafe (log 57). -/
def State.leaveStartHold (s : State) : State :=
  let s := s.mapMode (fun x => { x with clock := .qualified })
  let s := s.mapSync (fun x => { x with listenTimer := some 0 })
  s.setMode (if s.pins.shift then .run else .quiet)

/-- A crystal count passes a check: within ±1 % of 80,000 (R180). -/
def clockPasses (count : Nat) : Bool := decide (79200 ≤ count) && decide (count ≤ 80800)

/-- A crystal check ends (R180). -/
def State.checkClock (s : State) (count : Nat) : State :=
  if clockPasses count then
    let s := s.mapMode (fun x => { x with clockRun := x.clockRun + 1 })
    if 4 ≤ s.mode.clockRun then s.leaveStartHold else s
  else
    let faulty := s.mode.clock == .fault
    let s := s.mapMode (fun x => { x with clockRun := 0, clock := .fault })
    if faulty then s else s.raise .clockFault

/-- CLOCK_CHECK (R180): checks are made once the configuration is GOOD, and none after qualification. -/
def execClockCheck (count : Nat) (s : State) : Result :=
  .next (s.event (fun s =>
    if s.mode.mode == .startHold && s.mode.config == .good && s.mode.clock != .qualified then
      s.checkClock count
    else s))

/-- The image is good: the configuration and the roster's own entry are made from it (R57, R179). -/
def State.configure (s : State) (c : Config) : State :=
  { s with
    cfg := c
    roster := [ownEntry c]
    mode := { s.mode with config := .good } }

/-- The read of the image ends, and the image is judged (R179). -/
def State.loadImage (s : State) (image : Option (List Byte)) : State :=
  match image.bind configOf with
  | some c => s.configure c
  | none => (s.mapMode (fun x => { x with config := .fault })).raise .configFault

/-- CONFIG_LOAD (R179): the image is read once in a start. -/
def execConfigLoad (image : Option (List Byte)) (s : State) : Result :=
  .next (s.event (fun s =>
    if s.mode.mode == .startHold && s.mode.config == .loading then s.loadImage image else s))

/-- LOGIC_SUPPLY_LOW (R178): the part is held in reset, and the work in progress ends without report. The
records already stand at their after-start values, so a change of mode or supply condition is reported here.
DESIGN CHOICE, unsafe (log 30). -/
def execLogicSupplyLow (s : State) : Result :=
  .next { { s with reports := [] }.start s.mode.startCause with inReset := true }

/-- LOGIC_SUPPLY_SETTLED (R178): a start, as a power-on or as a supply dip.
DESIGN CHOICE, unsafe (log 30). -/
def execLogicSupplySettled (fromBelow : Bool) (s : State) : Result :=
  .next ({ s with reports := [] }.start (if fromBelow then .powerOn else .supplyDip))

end Sys2Proof.Machine
end

