-- ==== Sys2Proof/Machine/Port.lean ====
section
/-! DEFINITION. The inspection port's transactions, reads and attention (sections 11.1 to 11.3): the bytes a
transaction clocks out, and the meanings of the read commands. -/

namespace Sys2Proof.Machine

/-! ## Encodings of R186 -/

/-- A flag: one byte, 0 or 1. -/
def bit (b : Bool) : Byte := if b then 1 else 0

/-- Any other number: one byte. -/
def num (n : Nat) : Byte := BitVec.ofNat 8 n

/-- A two-byte quantity, high byte first. -/
def two (n : Nat) : List Byte := halfBytes (BitVec.ofNat 16 n)

/-- An item that may be absent: a presence byte, then the item or as many zeros.
Where the presence byte stands: DEDUCED, unsafe (log 26). -/
def present? {α : Type} (size : Nat) (f : α → List Byte) : Option α → List Byte
  | some x => 1 :: f x
  | none => 0 :: List.replicate size 0

/-- A one-byte item that may be absent. -/
def presentByte {α : Type} (f : α → Nat) (x : Option α) : List Byte := present? 1 (fun y => [num (f y)]) x

/-- A two-byte item that may be absent. -/
def presentTwo (x : Option Nat) : List Byte := present? 2 two x

/-! ### Positions of states, causes, roles and kinds in their chapters' lists -/

def modePos : StationMode → Nat | .startHold => 0 | .run => 1 | .quiet => 2 | .leaving => 3 | .dormant => 4
def causePos : StartCause → Nat | .powerOn => 0 | .supplyDip => 1 | .portReset => 2 | .wake => 3
def configPos : ConfigCond → Nat | .loading => 0 | .good => 1 | .fault => 2
def clockPos : ClockCond → Nat | .unproved => 0 | .qualified => 1 | .fault => 2
def supplyPos : Supply → Nat | .normal => 0 | .low => 1
def syncPos : SyncStatus → Nat
  | .listening => 0 | .syncing => 1 | .synced => 2 | .diverged => 3 | .excluded _ => 4
def exclusionPos : ExclusionCause → Nat | .address => 0 | .parameters => 1 | .role => 2
def roundPos : RowRound → Nat | .idle => 0 | .asked => 1 | .opened => 2
def linePos : LineState → Nat | .active => 0 | .listenOnly => 1
def kindPos : FrameKind → Nat
  | .mark => 0 | .hello => 1 | .present => 2 | .claim => 3 | .withdraw => 4 | .done => 5 | .gate => 6
  | .stop => 7 | .release => 8 | .ask => 9 | .row => 10
def rolePos : Role → Nat | .discharge => 0 | .filter => 1 | .crusher => 2
def entryPos : EntryStatus → Nat | .present => 0 | .silent => 1 | .excluded _ => 2
def entryCausePos : EntryCause → Nat | .parameters => 0 | .role => 1
def stopPos : StopCause → Nat | .jam => 0 | .surgeFull => 1 | .operator => 2
def lotPos : LotStatus → Nat | .opened => 0 | .sealed => 1 | .claimed => 2 | .committed => 3 | .discharging => 4
def sealPos : SealReason → Nat
  | .classChange => 0 | .lotEnd => 1 | .volumeBound => 2 | .age => 3 | .shift => 4 | .port => 5
def filterPos : FilterMode → Nat
  | .online => 0 | .claimed => 1 | .committed => 2 | .flushing => 3 | .settling => 4 | .fault => 5
def crusherPos : CrusherMode → Nat | .running => 0 | .reversing => 1 | .jammed => 2
def channelPos : ChannelStatus → Nat | .inBounds => 0 | .above => 1 | .below => 2
def capturePos : Capture → Nat | .empty => 0 | .pending _ => 1 | .filled _ _ => 2
def opPos : OpKind → Nat
  | .index => 0 | .feed => 1 | .discharge => 2 | .flush => 3 | .reverse => 4 | .safeStop => 5

/-- The code of a port result (R185). -/
def resultCode : PortResult → Byte | .ok => 0 | .refusedState => 1 | .refusedRole => 2 | .badArg => 3

/-! ## Responses -/

/-- An operation, by operation and level (R169). -/
def opBytes (o : Op) : List Byte := [num (opPos o.kind), num o.level]

/-- The exclusion cause of the sync state (R107). -/
def SyncStatus.cause : SyncStatus → Option ExclusionCause
  | .excluded c => some c
  | _ => none

/-- The exclusion cause of a roster entry (R57). -/
def EntryStatus.cause : EntryStatus → Option EntryCause
  | .excluded c => some c
  | _ => none

/-- The items of a role, as zeros when it is not the station's own (R186). -/
def ofRole (own r : Role) (items : List Byte) : List Byte :=
  if own = r then items else List.replicate items.length 0

/-- The fill count and the hold of each bin (R148). -/
def State.binBytes (s : State) : List Byte :=
  ((List.range 7).map (fun i => two (s.crusher.fill (i + 1)) ++ [bit (classHeld s.crusher.holds (i + 1))])).flatten

/-- The stack as three entries, bottom first (R169, R186); the model holds it top first. -/
def stackBytes (stack : List Op) : List Byte :=
  ([0, 1, 2].map (fun i => present? 2 opBytes stack.reverse[i]?)).flatten

/-- The response of READ STATUS (R186). -/
def State.statusBytes (s : State) : List Byte :=
  [num (modePos s.mode.mode), num (configPos s.mode.config), num (clockPos s.mode.clock),
   num (supplyPos s.mode.supply), num (syncPos s.sync.status)]
  ++ presentByte exclusionPos s.sync.status.cause
  ++ [num (roundPos s.sync.round), num s.sync.received.length, num s.sync.attempts,
      num (linePos s.trunk.line), num s.trunk.queue.length]
  ++ presentByte (fun f => kindPos f.body.kind) (headOf s.trunk.queue)
  ++ halfBytes s.window.number
  ++ ofRole s.cfg.role .discharge [bit s.discharge.held, bit s.machineHold, bit s.discharge.beltFault]
  ++ ofRole s.cfg.role .filter
      [num (filterPos s.filter.mode), num s.filter.band.order, bit s.filter.bypassOpen, bit s.filter.held]
  ++ ofRole s.cfg.role .crusher
      ([num (crusherPos s.crusher.mode), num s.crusher.diverter] ++ two s.crusher.surge
       ++ [bit s.crusher.surgeStop, num s.crusher.attempts, num s.crusher.inbound.length] ++ s.binBytes)
  ++ present? 2 opBytes s.seq.running ++ stackBytes s.seq.stack ++ present? 2 opBytes s.seq.deferred

/-- A roster entry (R57). -/
def RosterEntry.bytes (e : RosterEntry) : List Byte :=
  [addrByte e.addr, num (rolePos e.role), num e.transit, num e.ceiling, bit e.digestMatch,
   num (entryPos e.status)]
  ++ presentByte entryCausePos e.status.cause ++ [num e.missed, bit e.heard]

/-- A claim record: its digest group as a COMMITTED claim's, then the declared rank (R186). -/
def Claim.portBytes (c : Claim) : List Byte :=
  c.digestBytes ++ (if c.isCommitted then [] else [0, 0]) ++ [num c.declared]

/-- A placement of a plan entry (R186). -/
def Placement.bytes (x : Placement) : List Byte :=
  [addrByte x.owner, x.id, num x.volume] ++ halfBytes x.arrival ++ halfBytes x.discharge

/-- A plan entry, with 0 for an unset class (R186). -/
def PlanEntry.bytes (e : PlanEntry) : List Byte :=
  [num (e.cls.getD 0)] ++ two e.volume ++ [num e.placements.length]
  ++ (e.placements.map Placement.bytes).flatten

/-- The hall condition record (R27). -/
def HallState.bytes (h : HallState) : List Byte :=
  [bit h.presence, num h.gate.code] ++ (List.range 7).map (fun i => bit (h.holds.getLsbD i))
  ++ halfBytes h.resume ++ [num h.stops.length]
  ++ (h.stops.map (fun e => [addrByte e.addr, num (stopPos e.cause)])).flatten
  ++ presentByte stopPos h.firstCause

/-- A lot record (R110). -/
def Lot.bytes (l : Lot) : List Byte :=
  halfBytes l.number ++ [num l.cls, num (lotPos l.status)] ++ presentByte id l.volume
  ++ presentByte id l.running ++ presentTwo l.length ++ presentByte sealPos l.sealReason
  ++ [bit l.undersize] ++ presentByte (fun (b : Byte) => b.toNat) l.claimId
  ++ present? 2 halfBytes l.discharge ++ [bit l.refused, num l.age, bit l.remainder]

/-- A channel and the capture slot (R164). -/
def State.channelBytes (s : State) (ch : Fin 4) : List Byte :=
  let c := s.channel ch
  let p := s.channelParams ch
  presentTwo c.last ++ two p.low ++ two p.high
  ++ [num p.persistence, num (channelPos c.status), num c.highRun, num c.lowRun, num c.returnRun,
      num (capturePos s.measure.capture)]

/-- The eight counters (R186). -/
def Counters.bytes (c : Counters) : List Byte :=
  two c.valid ++ two c.corrupt ++ two c.ownFailures ++ two c.ownRefused ++ two c.stale
  ++ two c.shortDischarges ++ two c.mixed ++ two c.inboundLost

/-! ## Transactions (R185) -/

/-- A transaction completes: response byte 0 is the result of the last complete command, zeros go out with
the arguments, the response follows, and the command's result is recorded. -/
def PortState.complete (args : Nat) (response : List Byte) (r : PortResult) (p : PortState) : PortState :=
  { p with
    sdo := resultCode p.result :: List.replicate args 0 ++ response
    result := r
    copy := none }

/-- Byte `n` that the last transaction clocked out, counted from the fall of NSEL: 0x00 beyond the response
(R185). -/
def PortState.clocked (p : PortState) (n : Nat) : Byte := p.sdo.getD n 0

/-- The port of a state completes a transaction. -/
def State.transact (args : Nat) (response : List Byte) (r : PortResult) (s : State) : State :=
  { s with port := s.port.complete args response r }

/-- A read command without an argument (R186). -/
def State.read (f : State → List Byte) (s : State) : State :=
  s.quiet (fun s => s.transact 0 (f s) .ok)

/-- A read command whose argument is in range when it is below `limit`: BAD_ARG above it, with 0x00 bytes alone
in the `size` places of its response (R186).
How many zeros are recorded: DEDUCED, safe (log 28). -/
def State.readAt (limit size : Nat) (arg : Byte) (f : State → Nat → List Byte) (s : State) : State :=
  s.quiet (fun s =>
    if arg.toNat < limit then s.transact 1 (f s arg.toNat) .ok
    else s.transact 1 (List.replicate size 0) .badArg)

/-- The port after a transaction that ended early: the result of the last complete command has gone out with
the command byte, then the copied flags where a TAKE ATTENTION was under way, as far as they were clocked
(R185, R188). The recorded result stays, and a copy is discarded.
The recorded bytes: DESIGN CHOICE, safe (log 29). -/
def PortState.cutShort (p : PortState) : PortState :=
  { p with
    sdo := resultCode p.result :: (match p.copy with
      | some c => halfBytes c
      | none => [])
    copy := none }

/-- SPI_INCOMPLETE (R185, R188): the transaction has no effect, and a copy of the flags is discarded. -/
def execSpiIncomplete (s : State) : Result :=
  .next (s.quiet (fun s => { s with port := s.port.cutShort }))

/-- UNKNOWN_COMMAND (R185): BAD_ARG is recorded. -/
def execUnknownCommand (_code : Byte) (s : State) : Result :=
  .next (s.quiet (fun s => s.transact 0 [] .badArg))

/-! ## The read commands (R186) -/

/-- READ STATUS. -/
def execReadStatus (s : State) : Result := .next (s.read State.statusBytes)

/-- READ ROSTER: the entry for an address. -/
def execReadRoster (arg : Byte) (s : State) : Result :=
  .next (s.readAt 32 11 arg (fun s n =>
    present? 10 RosterEntry.bytes (s.roster.find? (fun e => e.addr.val == n))))

/-- READ CLAIM: the record at a position of table order. -/
def execReadClaim (arg : Byte) (s : State) : Result :=
  .next (s.readAt 64 15 arg (fun s n => present? 14 Claim.portBytes s.table.claims[n]?))

/-- READ PLAN: the base window, then an entry, or at 16 the arriving entry. -/
def execReadPlan (arg : Byte) (s : State) : Result :=
  .next (s.readAt 17 7 arg (fun s n =>
    present? 2 halfBytes s.plan.base
    ++ (if n < 16 then s.plan.entries.getD n PlanEntry.empty else s.plan.arriving).bytes))

/-- READ HALL CONDITION. -/
def execReadHallCondition (s : State) : Result := .next (s.read (fun s => s.hall.bytes))

/-- READ LOT: the lot at a position of the buffer. -/
def execReadLot (arg : Byte) (s : State) : Result :=
  .next (s.readAt 6 23 arg (fun s n => present? 22 Lot.bytes s.discharge.lots[n]?))

/-- READ CHANNEL. -/
def execReadChannel (arg : Byte) (s : State) : Result :=
  .next (s.readAt 4 13 arg (fun s n => s.channelBytes (Fin.ofNat 4 n)))

/-- READ COUNTERS. -/
def execReadCounters (s : State) : Result := .next (s.read (fun s => s.counters.bytes))

/-- READ START CAUSE. -/
def execReadStartCause (s : State) : Result :=
  .next (s.read (fun s => [num (causePos s.mode.startCause)]))

/-- PEEK ATTENTION (R188). -/
def execPeekAttention (s : State) : Result := .next (s.read (fun s => halfBytes s.port.flags))

/-! ## Attention (R188) -/

/-- ATTENTION_COPY: the command byte of a TAKE ATTENTION completes, and the flags are copied. -/
def execAttentionCopy (s : State) : Result :=
  .next (s.quiet (fun s => { s with port := { s.port with copy := some s.port.flags } }))

/-- The flags a completed TAKE ATTENTION reports: those copied, or those standing where no copy was made.
DESIGN CHOICE, unsafe (log 29). -/
def PortState.taken (p : PortState) : BitVec 16 := p.copy.getD p.flags

/-- TAKE ATTENTION completes: exactly the flags of the copy are cleared. -/
def execTakeAttention (s : State) : Result :=
  .next (s.quiet (fun s =>
    { s with port :=
      { s.port with flags := s.port.flags &&& ~~~s.port.taken }.complete 0 (halfBytes s.port.taken) .ok }))

end Sys2Proof.Machine
end

