-- ==== Sys2Proof/Machine/Control.lean ====
section
/-! DEFINITION. The meanings of the port's control commands (section 11.4). -/

namespace Sys2Proof.Machine

/-- The control commands that START_HOLD and DORMANT refuse are refused there (R189). -/
def State.closed (s : State) : Bool := s.mode.mode == .startHold || s.mode.mode == .dormant

/-- A control command with `args` argument bytes: `f` gives its effect and its result. It takes effect at the
rise of NSEL, and its result is then recorded (R185). -/
def State.command (args : Nat) (f : State → State × PortResult) (s : State) : State :=
  s.event (fun s =>
    let r := if s.closed then (s, .refusedState) else f s
    r.1.transact args [] r.2)

/-- The outcome of a command that a condition admits, and that is refused with REFUSED_STATE otherwise. -/
def State.when (s : State) (c : Bool) (f : State → State) : State × PortResult :=
  if c then (f s, .ok) else (s, .refusedState)

/-! ## HOLD, RELEASE HOLD, LOT CLOSE, FLUSH NOW (R130, R146) -/

/-- HOLD at a discharge station (R130). -/
def State.holdLots (s : State) : State :=
  let s := { s with discharge := { s.discharge with held := true } }
  s.withdrawLots s.allUnstarted

/-- HOLD at a filter station (R146). -/
def State.holdFlush (s : State) : State :=
  let s := s.mapFilter (fun u => { u with held := true, flushRequest := false })
  if s.filter.band = .bypass then s else s.withdrawFlush

/-- The effect of HOLD by role (R189). -/
def State.doHold (s : State) : State × PortResult :=
  match s.cfg.role with
  | .discharge => (s.holdLots, .ok)
  | .filter => (s.holdFlush, .ok)
  | .crusher => (s, .refusedRole)

/-- HOLD. -/
def execHold (s : State) : Result := .next (s.command 0 State.doHold)

/-- The effect of RELEASE HOLD by role (R189). -/
def State.doReleaseHold (s : State) : State × PortResult :=
  match s.cfg.role with
  | .discharge => ({ s with discharge := { s.discharge with held := false } }, .ok)
  | .filter => (s.mapFilter (fun u => { u with held := false }), .ok)
  | .crusher => (s, .refusedRole)

/-- RELEASE HOLD. -/
def execReleaseHold (s : State) : Result := .next (s.command 0 State.doReleaseHold)

/-- The effect of LOT CLOSE (R130, R189). -/
def State.doLotClose (s : State) : State × PortResult :=
  match s.cfg.role with
  | .discharge => s.when (hasOpen s.discharge.lots) (fun s => s.sealOpen .port)
  | _ => (s, .refusedRole)

/-- LOT CLOSE. -/
def execLotClose (s : State) : Result := .next (s.command 0 State.doLotClose)

/-- FLUSH NOW is accepted: the request mark is set, and a claim held is re-ranked (R146). -/
def State.flushSoon (s : State) : State :=
  (s.mapFilter (fun u => { u with flushRequest := true })).rerank 1

/-- The effect of FLUSH NOW (R146, R189). -/
def State.doFlushNow (s : State) : State × PortResult :=
  match s.cfg.role with
  | .filter =>
    s.when ((s.filter.mode == .online || s.filter.mode == .claimed) && !s.filter.held) State.flushSoon
  | _ => (s, .refusedRole)

/-- FLUSH NOW. -/
def execFlushNow (s : State) : Result := .next (s.command 0 State.doFlushNow)

/-! ## CLEAR FAULT (R129, R143, R161) -/

/-- The effect of CLEAR FAULT by role. -/
def State.doClearFault (s : State) : State × PortResult :=
  match s.cfg.role with
  | .discharge =>
    s.when (s.discharge.beltFault && !s.channelIs 1 .above)
      (fun s => { s with discharge := { s.discharge with beltFault := false } })
  | .filter =>
    s.when (s.filter.mode == .fault) (fun s => s.mapFilter (fun u => { u with mode := .online }))
  | .crusher => s.when (s.crusher.mode != .running) State.clearJam

/-- CLEAR FAULT. -/
def execClearFault (s : State) : Result := .next (s.command 0 State.doClearFault)

/-! ## HALL STOP, HALL RELEASE, FORCE RELEASE (R189) -/

/-- A STOP or RELEASE requested through the port: refused in LISTEN_ONLY and while LISTENING or EXCLUDED, and
when the queue refuses the request, whose fate the port is told as of any other (R88).
In the first two cases no request is made: DEDUCED, unsafe (log 48). -/
def State.hallRequest (s : State) (b : QBody) : State × PortResult :=
  if s.lineActive && s.sync.status.joined then
    (s.request b .port, if s.refuses b .port then .refusedState else .ok)
  else (s, .refusedState)

/-- HALL STOP. -/
def execHallStop (s : State) : Result :=
  .next (s.command 0 (fun s => s.hallRequest (.stop ⟨byteOf StopCause.operator.code⟩)))

/-- HALL RELEASE. -/
def execHallRelease (s : State) : Result :=
  .next (s.command 0 (fun s => s.hallRequest (.release ⟨addrByte s.own, false⟩)))

/-- FORCE RELEASE. -/
def execForceRelease (arg : Byte) (s : State) : Result :=
  .next (s.command 1 (fun s =>
    if 31 < arg.toNat then (s, .badArg) else s.hallRequest (.release ⟨arg, true⟩)))

/-! ## LEAVE, WAKE, RESET (R178, R182, R183) -/

/-- LEAVE: the leave request is set in QUIET. -/
def execLeave (s : State) : Result :=
  .next (s.command 0 (fun s =>
    s.when (s.mode.mode == .quiet) (fun s => s.mapMode (fun x => { x with leaveRequest := true }))))

/-- A start that a port command causes, at the rise of NSEL: its response byte 0 was the result of the last
complete command before it, and the recorded result is OK (R178, R185). -/
def State.startByPort (s : State) (c : StartCause) : State :=
  let t := s.start c
  { t with port := { t.port with sdo := [resultCode s.port.result] } }

/-- The effect of a port WAKE: a start from DORMANT, whose recorded result is OK; the wake of R183 in
LEAVING; refused in any other mode. -/
def State.portWake (s : State) : State :=
  match s.mode.mode with
  | .dormant => s.startByPort .wake
  | .leaving => s.wakeUp.transact 0 [] .ok
  | _ => s.transact 0 [] .refusedState

/-- WAKE. -/
def execWake (s : State) : Result := .next (s.event State.portWake)

/-- RESET: a start, in every state in which the port answers. -/
def execReset (s : State) : Result := .next (s.event (fun s => s.startByPort .portReset))

end Sys2Proof.Machine
end

