-- ==== Sys2Proof/Machine/Outputs.lean ====
section
/-! DEFINITION. The output pins as functions of the state (R108, R116, R133, R147, R169, R174 to R176): no
state of their own. -/

namespace Sys2Proof.Machine

/-- A discrete output DO0 to DO5 is driven (R175): nothing is while the outputs are off. -/
def State.discreteOut (s : State) (n : Fin 6) : Bool :=
  s.awake &&
  match s.cfg.role, n.val with
  | .discharge, 0 => !s.machineHold
  | .discharge, 1 => s.seq.runs .discharge
  | .filter, 0 => s.seq.runs .flush
  | .filter, 1 => s.filter.bypassOpen
  | .crusher, 0 => s.crusher.diverter.testBit 0
  | .crusher, 1 => s.crusher.diverter.testBit 1
  | .crusher, 2 => s.crusher.diverter.testBit 2
  | .crusher, 3 => s.seq.runs .reverse
  | _, _ => false

/-- The flume flap is open (R108, R120). -/
def State.flapOpen (s : State) : Bool := s.cfg.role == .discharge && s.discreteOut 1

/-- The flush valve is open (R133, R140). -/
def State.flushValveOpen (s : State) : Bool := s.cfg.role == .filter && s.discreteOut 0

/-- The level a drive output is producing (R174). -/
def State.driveLevel (s : State) (n : Fin 2) : Nat := if n = 0 then s.seq.out0 else s.seq.out1

/-- The frequency of the annunciator's square wave in hertz, none while it is silent (R176). -/
def State.toneHertz (s : State) : Option Nat :=
  match s.tone.cond with
  | .twoTone => some (if s.tone.phase < 250000 then 2400 else 800)
  | .steadyHigh => some 2400
  | .steadyLow => some 800
  | .pulsed => if s.tone.phase < 125000 then some 2400 else none
  | .off => none

end Sys2Proof.Machine
end

