-- ==== Sys2Proof/Machine/Dispatch.lean ====
section
/-! DEFINITION. The dispatch of commands to their meanings: one arm per constructor. -/

namespace Sys2Proof.Machine

def exec (i : Instr) (s : State) : Host.Outcome State Fault Refusal :=
  match i with
  | .mark rx => Sys2Proof.Machine.execMark rx s
  | .hello rx => Sys2Proof.Machine.execHello rx s
  | .present rx => Sys2Proof.Machine.execPresent rx s
  | .claim rx => Sys2Proof.Machine.execClaim rx s
  | .withdraw rx => Sys2Proof.Machine.execWithdraw rx s
  | .done rx => Sys2Proof.Machine.execDone rx s
  | .gate rx => Sys2Proof.Machine.execGate rx s
  | .stop rx => Sys2Proof.Machine.execStop rx s
  | .release rx => Sys2Proof.Machine.execRelease rx s
  | .ask rx => Sys2Proof.Machine.execAsk rx s
  | .row rx => Sys2Proof.Machine.execRow rx s
  | .corruptFrame => Sys2Proof.Machine.execCorruptFrame s
  | .listenBackFailure received => Sys2Proof.Machine.execListenBackFailure received s
  | .contentionSlot slot => Sys2Proof.Machine.execContentionSlot slot s
  | .quietCycle => Sys2Proof.Machine.execQuietCycle s
  | .cyclePositionTaken => Sys2Proof.Machine.execCyclePositionTaken s
  | .windowTimerExpiry => Sys2Proof.Machine.execWindowTimerExpiry s
  | .listeningTimerExpiry => Sys2Proof.Machine.execListeningTimerExpiry s
  | .channelAverage ch conv => Sys2Proof.Machine.execChannelAverage ch conv s
  | .vfsAverage conv => Sys2Proof.Machine.execVfsAverage conv s
  | .encoderEdge => Sys2Proof.Machine.execEncoderEdge s
  | .stall => Sys2Proof.Machine.execStall s
  | .classCodeChange code => Sys2Proof.Machine.execClassCodeChange code s
  | .lotEnd => Sys2Proof.Machine.execLotEnd s
  | .binSwap bin => Sys2Proof.Machine.execBinSwap bin s
  | .jamClear => Sys2Proof.Machine.execJamClear s
  | .shiftChange active => Sys2Proof.Machine.execShiftChange active s
  | .indexComplete => Sys2Proof.Machine.execIndexComplete s
  | .flushComplete => Sys2Proof.Machine.execFlushComplete s
  | .reverseComplete => Sys2Proof.Machine.execReverseComplete s
  | .pumpProving => Sys2Proof.Machine.execPumpProving s
  | .recurrenceIntervalExpiry => Sys2Proof.Machine.execRecurrenceIntervalExpiry s
  | .driveCycleStart => Sys2Proof.Machine.execDriveCycleStart s
  | .clockCheck count => Sys2Proof.Machine.execClockCheck count s
  | .configLoad image => Sys2Proof.Machine.execConfigLoad image s
  | .logicSupplyLow => Sys2Proof.Machine.execLogicSupplyLow s
  | .logicSupplySettled fromBelow => Sys2Proof.Machine.execLogicSupplySettled fromBelow s
  | .spiIncomplete => Sys2Proof.Machine.execSpiIncomplete s
  | .unknownCommand code => Sys2Proof.Machine.execUnknownCommand code s
  | .readStatus => Sys2Proof.Machine.execReadStatus s
  | .readRoster arg => Sys2Proof.Machine.execReadRoster arg s
  | .readClaim arg => Sys2Proof.Machine.execReadClaim arg s
  | .readPlan arg => Sys2Proof.Machine.execReadPlan arg s
  | .readHallCondition => Sys2Proof.Machine.execReadHallCondition s
  | .readLot arg => Sys2Proof.Machine.execReadLot arg s
  | .readChannel arg => Sys2Proof.Machine.execReadChannel arg s
  | .readCounters => Sys2Proof.Machine.execReadCounters s
  | .readStartCause => Sys2Proof.Machine.execReadStartCause s
  | .peekAttention => Sys2Proof.Machine.execPeekAttention s
  | .takeAttention => Sys2Proof.Machine.execTakeAttention s
  | .hold => Sys2Proof.Machine.execHold s
  | .releaseHold => Sys2Proof.Machine.execReleaseHold s
  | .lotClose => Sys2Proof.Machine.execLotClose s
  | .flushNow => Sys2Proof.Machine.execFlushNow s
  | .clearFault => Sys2Proof.Machine.execClearFault s
  | .hallStop => Sys2Proof.Machine.execHallStop s
  | .hallRelease => Sys2Proof.Machine.execHallRelease s
  | .forceRelease arg => Sys2Proof.Machine.execForceRelease arg s
  | .leave => Sys2Proof.Machine.execLeave s
  | .wake => Sys2Proof.Machine.execWake s
  | .reset => Sys2Proof.Machine.execReset s
  | .frameStart => Sys2Proof.Machine.execFrameStart s
  | .attentionCopy => Sys2Proof.Machine.execAttentionCopy s

end Sys2Proof.Machine
end

