-- ==== Sys2Proof/Machine/Tick.lean ====
section
/-! DEFINITION. One tick of 2 µs, which is what a step does when no command waits (DESIGN CHOICE, log 1): the
timers run and the events that fall due join the queue of waiting commands. -/

namespace Sys2Proof.Machine

/-- An event that falls due, as a list. -/
def dueWhen (c : Bool) (i : Instr) : List Instr := if c then [i] else []

/-- The length of a slot in ticks: 48 bit times (section 4.2). -/
def State.slotTicks (s : State) : Nat := 48 * s.bitTicks

/-- The slot in a place of its cycle: U, then 0 to 31. -/
def slotAt (n : Nat) : Slot := if n = 0 then .urgent else .rotating (Fin.ofNat 32 (n - 1))

/-- The event that the contention cycle brings at a position (R74). -/
def State.slotEvent (s : State) : List Instr :=
  match s.trunk.cycle with
  | some c =>
    if s.trunk.busy then []
    else if c.ticks + 1 = 33 * s.slotTicks then [.quietCycle]
    else dueWhen (c.ticks % s.slotTicks == 0) (.contentionSlot (slotAt (c.ticks / s.slotTicks)))
  | none => dueWhen (!s.trunk.busy && s.trunk.rest + 1 == 20 * s.bitTicks) .cyclePositionTaken

/-- The trunk's tick: the cycle runs while no frame has started in it, and rest is counted until a position
is taken (R74). -/
def TrunkState.tick (t : TrunkState) : TrunkState :=
  if t.busy then t
  else
    { t with
      cycle := t.cycle.map (fun c => { c with ticks := c.ticks + 1 })
      rest := if t.cycle.isNone then t.rest + 1 else t.rest }

/-- The running operation's tick (R169). -/
def SeqState.tick (q : SeqState) : SeqState :=
  { q with
    running := q.running.map (fun (o : Op) => { o with elapsed := o.elapsed + 1 })
    phase := q.phase + 1 }

/-- The event of an operation that has just run for its run time (R115, R141, R159). -/
def opEvent (o : Op) : List Instr :=
  match o.kind with
  | .index => dueWhen (o.runTime == some o.elapsed) .indexComplete
  | .flush => dueWhen (o.runTime == some o.elapsed) .flushComplete
  | .reverse => dueWhen (o.runTime == some o.elapsed) .reverseComplete
  | _ => []

/-- A running timer's tick. -/
def bump (t : Option Nat) : Option Nat := t.map (· + 1)

/-- A running timer has come to its end. -/
def ended (t : Option Nat) (n : Nat) : Bool := t.any (fun k => decide (n ≤ k))

/-- The timers a tick later (R51, R90, R159, R168, R169, R174). -/
def State.runTimers (s : State) : State :=
  let feeding := s.feedRunning
  { s with
    window := { s.window with timer := bump s.window.timer }
    sync := { s.sync with listenTimer := bump s.sync.listenTimer }
    measure := { s.measure with stallTimer := bump s.measure.stallTimer }
    crusher := { s.crusher with recurrence := if feeding then bump s.crusher.recurrence else s.crusher.recurrence }
    seq := s.seq.tick
    trunk := s.trunk.tick }

/-- The events that fall due as the timers stand. -/
def State.timerEvents (s : State) : List Instr :=
  dueWhen (ended s.window.timer s.windowTicks) .windowTimerExpiry
  ++ dueWhen (ended s.sync.listenTimer (2 * s.windowTicks)) .listeningTimerExpiry
  ++ dueWhen (ended s.measure.stallTimer s.stallTicks) .stall
  ++ dueWhen (s.seq.runs .flush && s.flushElapsed == s.provingTicks && s.mayProve) .pumpProving
  ++ (s.seq.running.toList.map opEvent).flatten
  ++ dueWhen (s.feedRunning && ended s.crusher.recurrence (2 * s.reversalTicks)) .recurrenceIntervalExpiry
  ++ dueWhen (decide (64 ≤ s.seq.phase)) .driveCycleStart

/-- The annunciator's pattern a tick later (R176). -/
def Tone.tick (t : Tone) : Tone := { t with phase := (t.phase + 1) % 500000 }

/-- One tick: the timers of an awake station run, and what falls due joins the queue. -/
def State.tick (s : State) : State :=
  let s := { s with reports := [], tone := s.tone.tick }
  if s.awake then
    let slots := s.slotEvent
    let s := s.runTimers
    { s with pending := s.pending ++ slots ++ s.timerEvents }
  else s

end Sys2Proof.Machine
end

