-- ==== Sys2Proof/Safety.lean ====
section
/-! DEFINITION. What counts as a safe or well-kept station, in the terms the statements use: the flume's safety
(R120, R140), what a command leaves alone, how a frame arrives, and the invariants of the station's records. -/

namespace Sys2Proof.Machine

/-! ## The flume -/

/-- The station conditions under which material may go into the flume: SYNCED, in RUN or QUIET, supply
NORMAL, and no stop in force (R120, R140). -/
def State.flumeClear (s : State) : Bool :=
  s.sync.status == .synced && s.working && s.mode.supply == .normal && s.hall.stops.isEmpty

/-- How many DISCHARGE operations the sequencer holds, running, suspended or deferred. -/
def SeqState.dischargesHeld (q : SeqState) : Nat :=
  ((q.running.toList ++ q.stack ++ q.deferred.toList).filter (fun o => o.kind == .discharge)).length

/-- The discharge in progress is of the head lot, at a discharge station that may discharge, in the window
that the lot was committed to (R120, R122). -/
def State.dischargeSound (s : State) : Prop :=
  ∀ p, s.discharge.progress = some p →
    s.cfg.role = .discharge ∧ s.flumeClear = true ∧ minus p.arrival s.cfg.transit = s.window.number ∧
    ∃ l r, s.discharge.lots = l :: r ∧ l.status = .discharging

/-- A DISCHARGE is held only for the discharge in progress, and that discharge is sound. -/
def State.flapSafe (s : State) : Prop :=
  s.dischargeSound ∧ s.seq.dischargesHeld ≤ 1 ∧
  (s.seq.holdsOp .discharge = true → s.discharge.progress.isSome = true)

/-! ## What a command leaves alone -/

/-- The state as a command finds it: the record of reports begins afresh. -/
def State.cleared (s : State) : State := { s with reports := [] }

/-- What an event's own effect is followed by: the standing conditions of the blocks are tested, with the
sequencer as the event found it, and the tone follows. -/
def State.concluded (before : SeqState) (s : State) : State := (s.settle before).refreshTone

/-- `t` agrees with `s` in all but the working parts of the role unit, the sequencer's operations, the
outgoing queue, the capture slot, the next-id counter, the lost mark of the round's ASK, the count of short
discharges and the record of reports; attention flags may have been raised and none is cleared. -/
structure Untouched (s t : State) : Prop where
  cfg : t.cfg = s.cfg
  trunk : { t.trunk with queue := s.trunk.queue } = s.trunk
  window : t.window = s.window
  roster : t.roster = s.roster
  claims : t.table.claims = s.table.claims
  plan : t.plan = s.plan
  hall : t.hall = s.hall
  sync : { t.sync with askLost := s.sync.askLost } = s.sync
  lotsHeld : t.discharge.held = s.discharge.held
  flushHeld : t.filter.held = s.filter.held
  band : t.filter.band = s.filter.band
  crusher : { t.crusher with mode := s.crusher.mode, attempts := s.crusher.attempts,
                             recurrence := s.crusher.recurrence } = s.crusher
  measure : { t.measure with capture := s.measure.capture } = s.measure
  drives : t.seq.out0 = s.seq.out0 ∧ t.seq.out1 = s.seq.out1 ∧ t.seq.phase = s.seq.phase
  tone : t.tone = s.tone
  mode : t.mode = s.mode
  port : { t.port with flags := s.port.flags } = s.port
  flags : s.port.flags &&& t.port.flags = s.port.flags
  pins : t.pins = s.pins
  counters : { t.counters with shortDischarges := s.counters.shortDischarges } = s.counters
  inReset : t.inReset = s.inReset
  pending : t.pending = s.pending

/-- `t` agrees with `s` as `Untouched` says, but for the station mode, its quiet windows count and the tone,
which the standing conditions may move too. -/
def Concluded (s t : State) : Prop :=
  Untouched s { t with
    mode := { t.mode with mode := s.mode.mode, quietWindows := s.mode.quietWindows }
    tone := s.tone }

/-! ## How a frame arrives -/

/-- A frame that the station takes, in either form: whether it is the station's own, its sender, its body, and
the state once its end has been dealt with and before the blocks take it. None when the station takes no
such frame: it hears a peer's only when it listens (R71, R73), and its own only when one of that kind is in
flight (R78). -/
def State.arrival {α : Type} (s : State) (kind : FrameKind) (informs : Bool) (bodyOf : Body → Option α)
    (rx : Rx α) : Option (Bool × Addr × α × State) :=
  match rx with
  | .peer a b => if s.listens then some (false, a, b, s.hearFrame a informs) else none
  | .own =>
    match sentFrame s.trunk.queue kind with
    | some (g, body) => if s.awake then (bodyOf body).map (fun b => (true, s.own, b, s.ownGood g)) else none
    | none => none

/-! ## Invariants of the records -/

/-- The laws of the claim table (R1): table order, which makes owner and id a key, and the capacities. -/
def tableLawful (l : List Claim) : Prop :=
  l.Pairwise (fun a b => a.before b = true) ∧ l.length ≤ 64 ∧
  ∀ a, countOf l a .lot ≤ 6 ∧ countOf l a .flush ≤ 1

/-- The claim table is lawful, roster and stop set are in address order without repeats, and a first cause
stands exactly while the stop set is not empty (R1, R27, R57). -/
def State.recordsLawful (s : State) : Prop :=
  tableLawful s.table.claims ∧
  s.roster.Pairwise (fun a b => a.addr.val < b.addr.val) ∧
  s.hall.stops.Pairwise (fun a b => a.addr.val < b.addr.val) ∧
  (s.hall.firstCause = none ↔ s.hall.stops = [])

/-- Every claim's owner has a roster entry that is not EXCLUDED and whose ceiling the claim's effective rank
does not undercut (R3, R14); before the image is good the station is in START_HOLD without claims, and
afterwards its own entry stands (R57). -/
def State.ranksLawful (s : State) : Prop :=
  (∀ c ∈ s.table.claims, ∃ e, entryOf s.roster c.owner = some e ∧ e.isExcluded = false ∧
    e.ceiling ≤ c.effective) ∧
  (s.mode.config ≠ .good → s.table.claims = [] ∧ s.mode.mode = .startHold) ∧
  (s.mode.config = .good → ∃ e, entryOf s.roster s.own = some e ∧ e.isExcluded = false)

/-- How many entries of the queue are of a built kind. -/
def queuedOf (q : List QFrame) (b : QBody) : Nat := (q.filter (fun f => f.body == b)).length

/-- The queue holds at most 8 frames and at most one MARK, PRESENT, GATE and ROW; at most one frame is in
flight, and the line is busy while one is (R71, R76, R82, R84). -/
def State.queueLawful (s : State) : Prop :=
  s.trunk.queue.length ≤ 8 ∧
  (∀ b, b = .mark ∨ b = .present ∨ b = .gate ∨ b = .row → queuedOf s.trunk.queue b ≤ 1) ∧
  (s.trunk.queue.filter (fun f => f.sent.isSome)).length ≤ 1 ∧
  ((inFlight s.trunk.queue).isSome = true → s.trunk.busy = true)

/-- The sequencer's records in order: running first, then the stack from its top. -/
def SeqState.ladder (q : SeqState) : List Op := q.running.toList ++ q.stack

/-- Running and suspended operations stand in strictly falling levels, nothing waits while nothing runs, a
deferred request is no higher than what runs, and the shadow levels are those of the running operation, 0
for none (R169 to R172, R174). -/
def SeqState.lawful (q : SeqState) : Prop :=
  q.ladder.Pairwise (fun a b => b.level < a.level) ∧
  (q.running = none → q.stack = [] ∧ q.deferred = none) ∧
  (∀ r d, q.running = some r → q.deferred = some d → d.level ≤ r.level) ∧
  q.shadow0 = (match q.running with | some o => o.drv0 | none => 0) ∧
  q.shadow1 = (match q.running with | some o => o.drv1 | none => 0)

end Sys2Proof.Machine
end

