-- ==== Sys2Proof/Certificates/Slice0/Obligations.lean ====
section
/-! DEFINITION. The statements for the provers, one `def Obligations.<Name> : Prop` each; OBLIGATIONS.json gives
their rules. Most statements about a command name the state `t` that the command's own effect leaves, and
answer `t.concluded s.seq`: what the standing conditions then make of it is said by
`Obligations.ConcludingKeepsRecords`. -/

section
open Sys2Proof Sys2Proof.Machine

/-! ## The step, its idle tick, and reset -/

/-- A step takes the command at the front of the queue and gives what its meaning gives on the state with the
queue's rest. -/
def Obligations.StepRunsFrontCommand : Prop :=
  ∀ (c : Instr) (r : List Instr) (s : State),
    step { s with pending := c :: r } = exec c { s with pending := r }

/-- With no command waiting a step is one tick of 2 µs (the model's choice, log 1): in an asleep station only the
tone's pattern moves on; in an awake one each running timer, the running operation and the drive cycle move on by
one tick, the contention cycle or the count of rest too unless the line is busy, and the window timer's expiry
joins the queue exactly when the timer has come to W. -/
def Obligations.IdleStepIsTick : Prop :=
  ∀ s : State, s.pending = [] → ∃ t : State, step s = .next t ∧ t.reports = [] ∧
    t.tone = { s.tone with phase := (s.tone.phase + 1) % 500000 } ∧
    (s.awake = false → { t with tone := s.tone, reports := s.reports } = s) ∧
    (s.awake = true →
      { t with tone := s.tone, reports := s.reports, pending := s.pending, window := s.window, sync := s.sync,
               measure := s.measure, crusher := s.crusher, seq := s.seq, trunk := s.trunk } = s ∧
      t.window = { s.window with timer := s.window.timer.map (· + 1) } ∧
      t.sync = { s.sync with listenTimer := s.sync.listenTimer.map (· + 1) } ∧
      t.measure = { s.measure with stallTimer := s.measure.stallTimer.map (· + 1) } ∧
      t.crusher = { s.crusher with
        recurrence := if s.feedRunning then s.crusher.recurrence.map (· + 1) else s.crusher.recurrence } ∧
      t.seq = { s.seq with
        running := s.seq.running.map (fun (o : Op) => { o with elapsed := o.elapsed + 1 })
        phase := s.seq.phase + 1 } ∧
      t.trunk = (if s.trunk.busy then s.trunk else { s.trunk with
        cycle := s.trunk.cycle.map (fun c => { c with ticks := c.ticks + 1 })
        rest := if s.trunk.cycle.isNone then s.trunk.rest + 1 else s.trunk.rest }) ∧
      (Instr.windowTimerExpiry ∈ t.pending ↔
        ∃ k, s.window.timer = some k ∧ s.cfg.hall.w * 250000 ≤ k + 1))

/-- What the standing conditions make of a state once a command's own effect stands: they leave the claim records,
plan, hall condition, roster, window, the sync and trunk records but for the queue and the lost mark of an ASK,
the configuration, pins, counters but for the short discharges, and the port but for raised flags; in a station
that is asleep they move the tone alone. In an awake one the conditions of the role unit are tested, the leaving
condition, and the role's again (their place and order: log 18). At a discharge station: COMMITTED lots out of
seal order are withdrawn until none is (R119); a lot is opened (R111); an INDEX is requested (R115); and the
oldest lot that is neither CLAIMED, COMMITTED nor DISCHARGING is posted, under the next id not in use (R2, R117).
At a crusher FEED is requested, and a jam is found where FEED comes to run while channel 0 is ABOVE (R157, R158). -/
def Obligations.ConcludingKeepsRecords : Prop :=
  (∀ (q : SeqState) (s : State), Concluded s (s.concluded q) ∧
    (s.awake = false → { s.concluded q with tone := s.tone } = s)) ∧
  (∀ (q : SeqState) (s : State), s.awake = true →
    (∀ o, s.seq.running = some o → o.spent = true → q.runningKind = some o.kind) →
    let u := s.settleRole (q.runs .feed)
    s.concluded q = (u.settleMode.settleRole u.feedRunning).refreshTone) ∧
  (∀ (s : State) (ran : Bool), s.cfg.role = .discharge →
    s.settleRole ran = (s.keepSealOrder 6).openLot.requestIndex.postLot) ∧
  (∀ s : State,
    let late (l k : Lot) : Prop := ¬((k.status = .committed ∨ k.status = .discharging) ∧
      ∃ w, k.discharge = some w ∧ 1 ≤ (l.discharge.getD 0 - w).toNat ∧ (l.discharge.getD 0 - w).toNat ≤ 255)
    let unruly (x : State) : Prop := ∃ (i j : Nat) (l k : Lot), x.discharge.lots[i]? = some l ∧
      x.discharge.lots[j]? = some k ∧ j < i ∧ l.status = .committed ∧ late l k
    (¬unruly s → s.keepSealOrder 6 = s) ∧
    (s.discharge.lots.length ≤ 6 → (∀ l ∈ s.discharge.lots, l.status = .committed → l.claimId ≠ none) →
      ¬unruly (s.keepSealOrder 6) ∧ Untouched s (s.keepSealOrder 6))) ∧
  (∀ s : State,
    let may := (∀ l, s.discharge.lots.getLast? = some l → l.onTrack = true) ∧ s.mode.mode = .run ∧
      s.discharge.beltFault = false ∧ s.seq.runs .index = false ∧
      1 ≤ s.pins.classCode.toNat ∧ s.pins.classCode.toNat ≤ 6
    (may → s.openLot = ({ s with discharge := { s.discharge with
      lotCounter := s.discharge.lotCounter + 1
      lots := s.discharge.lots ++ [{
        number := s.discharge.lotCounter + 1, cls := s.pins.classCode.toNat, status := .opened, volume := none,
        running := none, length := none, travel := 0, onTrack := false, sealReason := none, undersize := false,
        claimId := none, discharge := none, refused := false, age := 0, remainder := false }] } } :
          State).requestCapture 0) ∧
    (¬may → s.openLot = s)) ∧
  (∀ s : State,
    let may := (∃ l, s.discharge.lots.getLast? = some l ∧ l.onTrack = false ∧ l.status ≠ .opened ∧ l.volume ≠ none) ∧
      (s.discharge.lots.filter (fun l => l.onTrack)).length < 5 ∧ s.discharge.beltFault = false ∧
      s.seq.holdsOp .index = false
    (may → s.requestIndex = s.requestOp
      ⟨.index, some (s.cfg.dis.indexTime * 50000), 0, s.cfg.dis.pusher, s.cfg.dis.indexTrack⟩) ∧
    (¬may → s.requestIndex = s)) ∧
  (∀ (s : State) (n : Nat),
    let used (id : Byte) : Prop := (∃ c ∈ s.table.claims, c.owner = s.own ∧ c.id = id) ∨
      ∃ f ∈ s.trunk.queue, f.sent = none ∧ ∃ b, f.body = .claim b ∧ b.id = id
    n < 256 → (∀ k < n, used (s.table.nextId + BitVec.ofNat 8 k)) → ¬used (s.table.nextId + BitVec.ofNat 8 n) →
    s.freshId = s.table.nextId + BitVec.ofNat 8 n) ∧
  (∀ (s : State) (older younger : List Lot) (l : Lot),
    let claimed (k : Lot) : Prop := k.status = .claimed ∨ k.status = .committed ∨ k.status = .discharging
    (∀ k ∈ older, claimed k) → (s.discharge.lots = older → s.postLot = s) ∧
    (s.discharge.lots = older ++ l :: younger → ¬claimed l →
      let may := l.status = .sealed ∧ l.volume ≠ none ∧ l.claimId = none ∧ l.refused = false ∧
        s.sync.status = .synced ∧ s.trunk.line = .active ∧ s.discharge.held = false ∧ s.mode.supply = .normal ∧
        s.discharge.beltFault = false
      let rank := if l.remainder then max (s.cfg.dis.baseRank - 1) s.cfg.ceiling else s.cfg.dis.baseRank
      let volume := if l.undersize then (s.boundsOf l.cls).min else l.volume.getD 0
      (may → s.postLot = ({ s with
        table := { s.table with nextId := s.freshId + 1 }
        discharge := { s.discharge with lots := older ++ { l with claimId := some s.freshId } :: younger } } :
          State).request (.claim ⟨s.freshId, 0, BitVec.ofNat 8 l.cls, BitVec.ofNat 8 volume, BitVec.ofNat 8 rank,
            l.remainder⟩) .role) ∧
      (¬may → s.postLot = s))) ∧
  (∀ (s : State) (ran : Bool), s.cfg.role = .crusher →
    let may := s.crusher.mode = .running ∧ (s.mode.mode = .run ∨ s.mode.mode = .quiet) ∧
      s.seq.holdsOp .feed = false
    let level := if s.channelIs 1 .above then s.cfg.cru.reducedFeed else s.cfg.cru.feed
    let fed := s.requestOp ⟨.feed, none, 0, level, 0⟩
    let after (u : State) : State :=
      if ran = false ∧ u.seq.runs .feed = true ∧ u.channelIs 0 .above = true then u.jam else u
    (may → s.settleRole ran = after fed) ∧ (¬may → s.settleRole ran = after s))

/-- The values after a power-on start that the spec's after-start lists give. -/
def Obligations.ResetValues : Prop :=
  State.reset.table.claims = [] ∧ State.reset.table.nextId = 0 ∧
  State.reset.hall = ⟨false, .running, 0, 0, [], none⟩ ∧
  State.reset.plan = ⟨none, List.replicate 16 ⟨none, 0, []⟩, ⟨none, 0, []⟩⟩ ∧
  State.reset.window = ⟨0, none, 0, false, []⟩ ∧
  State.reset.trunk.line = .active ∧ State.reset.trunk.failCount = 0 ∧ State.reset.trunk.failHold = false ∧
  State.reset.trunk.confMarks = 0 ∧ State.reset.trunk.confExpiries = 0 ∧
  State.reset.trunk.lastSender = none ∧ State.reset.trunk.cycle = none ∧ State.reset.trunk.queue = [] ∧
  State.reset.sync.status = .listening ∧ State.reset.sync.listenTimer = none ∧ State.reset.sync.round = .idle ∧
  State.reset.sync.received = [] ∧ State.reset.sync.roundMarks = 0 ∧ State.reset.sync.attempts = 0 ∧
  State.reset.discharge.lots = [] ∧ State.reset.discharge.lotCounter = 0 ∧
  State.reset.discharge.progress = none ∧ State.reset.discharge.held = false ∧
  State.reset.discharge.beltFault = false ∧ State.reset.discharge.pending = [] ∧
  State.reset.filter.mode = .online ∧ State.reset.filter.band = .normal ∧
  State.reset.filter.bypassOpen = false ∧ State.reset.filter.flushRequest = false ∧
  State.reset.crusher.mode = .running ∧ State.reset.crusher.diverter = 7 ∧
  State.reset.crusher.current = ⟨7, true⟩ ∧ State.reset.crusher.previous = ⟨7, true⟩ ∧
  State.reset.crusher.inbound = [] ∧ State.reset.crusher.fills = [0, 0, 0, 0, 0, 0, 0] ∧
  State.reset.crusher.holds = 0 ∧ State.reset.crusher.surge = 0 ∧ State.reset.crusher.surgeStop = false ∧
  State.reset.measure = ⟨List.replicate 4 ⟨none, .inBounds, 0, 0, 0⟩, .empty, 0, 0, none⟩ ∧
  State.reset.seq.running = none ∧ State.reset.seq.stack = [] ∧ State.reset.seq.deferred = none ∧
  State.reset.mode = ⟨.startHold, .powerOn, .loading, .unproved, 0, .normal, 0, 0, false, false⟩ ∧
  State.reset.port.flags = 0 ∧ State.reset.port.result = .ok ∧
  State.reset.counters = ⟨0, 0, 0, 0, 0, 0, 0, 0⟩ ∧
  (∀ n, State.reset.discreteOut n = false) ∧ State.reset.toneHertz = none ∧ State.reset.atn = false

/-- Every invariant stated below holds right after reset. -/
def Obligations.InvariantsAtReset : Prop :=
  State.reset.recordsLawful ∧ State.reset.ranksLawful ∧ State.reset.queueLawful ∧ State.reset.seq.lawful ∧
  State.reset.flapSafe ∧ State.reset.tone.cond = State.reset.toneCond

/-! ## Frames -/

/-- A valid frame from a peer under another address than the station's own is counted, sets last-sender to its
sender (to none where the station takes its cycle position from this frame end, by R74 against R73: log 11),
begins a contention cycle, ends the failure hold and marks the sender's entry heard; while the station is SYNCED
and ACTIVE, a sender without an entry that was not asked yet is asked for a HELLO, unless the frame is a HELLO or a
ROW. -/
def Obligations.PeerFrameHeard : Prop :=
  ∀ (s : State) (a : Addr) (informs : Bool), a ≠ s.own →
    let h : State := { s with
      counters := { s.counters with valid := min (s.counters.valid + 1) 65535 }
      trunk := { s.trunk with
        lastSender := if s.trunk.cycle = none then none else some a
        cycle := some ⟨none, 0⟩, busy := false, rest := 0, failHold := false }
      roster := s.roster.map (fun e => if e.addr = a then { e with heard := true } else e) }
    if informs = false ∧ s.sync.status = .synced ∧ s.trunk.line = .active ∧ entryOf s.roster a = none
        ∧ a ∉ s.window.asked then
      s.hearFrame a informs =
        { h with window := { s.window with asked := s.window.asked ++ [a] } }.request
          (.ask ⟨BitVec.ofNat 8 a.val, 1⟩) .roster
    else s.hearFrame a informs = h

/-- A valid frame under the station's own address that it did not transmit: a LISTENING, SYNCING or DIVERGED
station excludes itself with cause ADDRESS, its own claims and waiting frames going; a SYNCED or EXCLUDED one
keeps its sync state and its claims. -/
def Obligations.OwnAddressHeard : Prop :=
  ∀ (s : State) (informs : Bool),
    (s.sync.status = .listening ∨ s.sync.status = .syncing ∨ s.sync.status = .diverged →
      (s.hearFrame s.own informs).sync.status = .excluded .address ∧
      (s.hearFrame s.own informs).sync.round = .idle ∧
      (s.hearFrame s.own informs).sync.listenTimer = none ∧
      (s.hearFrame s.own informs).table.claims = s.table.claims.filter (fun c => c.owner != s.own) ∧
      (∀ f ∈ (s.hearFrame s.own informs).trunk.queue, f.sent.isSome = true) ∧
      (s.hearFrame s.own informs).port.flags.getLsbD 1 = true) ∧
    (s.sync.status = .synced ∨ (∃ c, s.sync.status = .excluded c) →
      (s.hearFrame s.own informs).sync.status = s.sync.status ∧
      (s.hearFrame s.own informs).table.claims = s.table.claims) ∧
    (s.hearFrame s.own informs).roster = s.roster ∧ (s.hearFrame s.own informs).hall = s.hall

/-- An own frame found good: it leaves the queue, the failure count returns to 0, last-sender becomes the own
address, a contention cycle begins, the sent flag is set and a waiting PRESENT goes; all records but those of
the role unit stay. -/
def Obligations.OwnFrameGood : Prop :=
  ∀ (s : State) (k : FrameKind) (f : QFrame) (b : Body), sentFrame s.trunk.queue k = some (f, b) →
    Untouched
      { s with
        trunk := { s.trunk with
          lastSender := some s.own, cycle := some ⟨none, 0⟩, busy := false, rest := 0, failCount := 0 }
        window := { s.window with sent := true } }
      (s.ownGood f) ∧
    (∀ g ∈ (s.ownGood f).trunk.queue, g.sent = none ∧ g.body ≠ .present) ∧
    (f.followUp = false → (s.ownGood f).trunk.queue =
      s.trunk.queue.filter (fun g => g.sent.isNone && g.body != .present))

/-- A MARK taken. One from an EXCLUDED sender changes nothing beyond its arrival. From any other: the window record is
that of the MARK, its asked set empty (for a sender without an entry too: log 13), and no MARK waits; the plan and
the arriving entry are those of the MARK; a station lost at it loses entry and claims; of the other claims a
COMMITTED one whose arrival is neither the MARK's window nor 1 to 255 after it goes, counted as stale, a WAITING one
placed with discharge window m+1 is COMMITTED to the arrival placed, and every other WAITING one ages, its rank at
age A falling by one above its owner's ceiling (0 without an entry: log 5); each entry counts its missed windows;
crusher presence follows, the gate fields at their start values where no CRUSHER entry that is not EXCLUDED is left,
and on becoming SYNCED every stop is marked restated (log 17). Own commitments are reported: a CLAIMED lot or flush
so committed is COMMITTED, its discharge window the arrival less the transit; one whose own claim is stale returns
to SEALED or ONLINE, and a discharge or flush under way whose claim is stale ends short. Crusher, measurement and
mode stand as they were when the role unit then takes its part (sync state, line and queue: see MarkCompared): the
DONEs lost by the queue are requested again (R124), and the unit of the role acts (log 12 for the order of the
parts); the withdrawal of R103 is repeated where the station is SYNCING or DIVERGED before and after the MARK (log
20). In QUIET the quiet windows count, in LEAVING a leaving HELLO that the queue has lost is requested again (R182),
and the fourth MARK in LISTEN_ONLY makes the line ACTIVE. -/
def Obligations.MarkTaken : Prop :=
  (∀ (rx : Rx MarkBody) (s h : State) (own : Bool) (a : Addr) (b : MarkBody),
    s.cleared.arrival .mark false Body.asMark rx = some (own, a, b, h) →
    (h.senderExcluded a = true → exec (.mark rx) s = .next (h.concluded s.seq)) ∧
    (h.senderExcluded a = false →
      let m := b.window
      let lost (y : Addr) : Bool := h.roster.any (fun e =>
        e.addr == y && e.addr != h.own && e.addr != a && !e.heard && decide (2 ≤ e.missed))
      let past (w : Window) : Prop := 256 ≤ (w - m).toNat
      let lostDones : List DoneBody := match h.cfg.role with
        | .discharge => (h.discharge.pending.filter (fun p => p.lost)).map (fun p => p.body)
        | .filter => (h.filter.pending.toList.filter (fun p => p.lost)).map (fun p => p.body)
        | .crusher => []
      let x := h.markRecords own a b
      let z := x.markRole (h.filter.mode == .settling) (h.sync.status.mending && x.sync.status.mending) lostDones m
      let y := z.markMode.markConfined
      let stale (id : Byte) : Bool := h.table.claims.any (fun c => c.owner == h.own && c.id == id &&
        match c.status with
        | .committed w => decide (past w)
        | .waiting => false)
      let room := h.trunk.queue.length ≤ 4 ∧ h.trunk.line = .active ∧ ∀ c, h.sync.status ≠ .excluded c
      ∃ t : State, exec (.mark rx) s = .next t ∧ t = y.concluded s.seq ∧
        t.window = { number := m, timer := some 0, expiries := 0, sent := false, asked := [] } ∧
        (∀ f ∈ t.trunk.queue, f.body = .mark → f.sent.isSome = true) ∧
        t.plan = { base := some m,
                   entries := buildEntries ⟨m, h.cfg.hall.b, h.cfg.hall.k, h.roster, h.hall⟩ h.table.claims,
                   arriving := match h.plan.base with
                     | some n => h.plan.entries.getD (m - (n + 1)).toNat ⟨none, 0, []⟩
                     | none => ⟨none, 0, []⟩ } ∧
        x.plan = t.plan ∧ x.window = t.window ∧ x.table.claims = t.table.claims ∧ x.roster = t.roster ∧
        (let placed := (t.plan.entries.map (fun e => e.placements)).flatten
         t.table.claims = h.table.claims.filterMap (fun c =>
            if lost c.owner then none
            else match c.status with
              | .committed w => if past w then none else some c
              | .waiting =>
                match placed.find? (fun p => p.owner == c.owner && p.id == c.id && p.discharge == m + 1) with
                | some p => some { c with status := .committed p.arrival }
                | none =>
                  let ceiling := match entryOf h.roster c.owner with
                    | some e => e.ceiling
                    | none => 0
                  some (if h.cfg.hall.a ≤ c.age + 1 then
                      { c with age := 0, effective := if c.effective ≤ ceiling then c.effective else c.effective - 1 }
                    else { c with age := c.age + 1 })) ∧
          ∀ c ∈ h.table.claims, ∀ p ∈ placed, c.owner = h.own → c.status = .waiting → p.owner = c.owner →
            p.id = c.id → p.discharge = m + 1 → Report.committed p.id p.arrival ∈ t.reports) ∧
        { x with
          window := h.window, trunk := h.trunk, plan := h.plan, sync := h.sync, table := h.table, roster := h.roster
          hall := h.hall, discharge := h.discharge, filter := h.filter, seq := h.seq, counters := h.counters
          port := h.port, reports := h.reports } = h ∧
        (let commit (id : Option Byte) : Option Window := id.bind (fun id =>
            if h.table.claims.any (fun c => c.owner == h.own && c.id == id && c.status == .waiting) then
              ((t.plan.entries.map (fun e => e.placements)).flatten.find? (fun p =>
                p.owner == h.own && p.id == id && p.discharge == m + 1)).map
                  (fun p => p.arrival - BitVec.ofNat 16 h.cfg.transit)
            else none)
          let lotAfter (l : Lot) : Lot :=
            if (l.status = .claimed ∨ l.status = .committed) ∧ l.claimId.any stale = true then
              { l with status := .sealed, claimId := none, discharge := none }
            else if l.status = .claimed ∧ (commit l.claimId).isSome = true then
              { l with status := .committed, discharge := commit l.claimId }
            else l
          (h.cfg.role = .discharge → (x.sync.status = .diverged → h.sync.status = .diverged) →
            ((∀ p, h.discharge.progress = some p → stale p.id = false) →
              x.discharge = { h.discharge with lots := h.discharge.lots.map lotAfter } ∧ x.seq = h.seq) ∧
            (∀ p l k, h.discharge.progress = some p → stale p.id = true → h.discharge.lots = l :: k →
              l.status = .discharging →
              let d := l.volume.getD 0 * p.travel / l.length.getD 1
              let v := l.volume.getD 0 - d
              let done : DoneBody := ⟨p.id, BitVec.ofNat 8 d, true, p.arrival, BitVec.ofNat 8 l.cls⟩
              x.discharge.progress = none ∧ x.seq = (h.seq.cancel .discharge).seq ∧
              x.counters.shortDischarges = min (h.counters.shortDischarges + 1) 65535 ∧
              x.port.flags.getLsbD 5 = true ∧
              x.discharge.lots.head? = some { l with
                status := .sealed, claimId := none, discharge := none, remainder := true, volume := some v
                length := some (l.length.getD 1 - p.travel), undersize := decide (v < (h.boundsOf l.cls).min) } ∧
              (room → ((∀ q ∈ k, q.claimId ≠ some p.id) → x.discharge.lots.tail = k.map lotAfter) ∧
                ⟨done, false⟩ ∈ x.discharge.pending ∧ ∃ f ∈ x.trunk.queue, f.body = .done done))) ∧
          (h.cfg.role = .filter →
            let u := h.filter
            ((x.sync.status = .diverged → h.sync.status = .diverged) →
              (u.mode = .flushing → ∀ id, u.claimId = some id → stale id = false) →
              x.seq = h.seq ∧ x.filter =
                if u.claimId.any stale then { u with mode := .online, claimId := none, discharge := none }
                else if u.mode = .claimed ∧ (commit u.claimId).isSome = true then
                  { u with mode := .committed, discharge := commit u.claimId }
                else u) ∧
            (∀ p id, u.progress = some p → u.mode = .flushing → u.claimId = some id → stale id = true →
              let spent := match (h.seq.running.toList ++ h.seq.stack).find? (fun o => o.kind == .flush) with
                | some o => o.elapsed
                | none => 0
              let done : DoneBody :=
                ⟨p.id, BitVec.ofNat 8 (h.cfg.fil.flushVolume * spent / (h.cfg.fil.fraction * h.cfg.hall.w * 15625)),
                  true, p.arrival, 7⟩
              { x.filter with pending := u.pending } = { u with
                progress := none, claimId := none, discharge := none, mode := .settling, settle := 1 } ∧
              x.seq = (h.seq.cancel .flush).seq ∧
              x.counters.shortDischarges = min (h.counters.shortDischarges + 1) 65535 ∧
              ((x.sync.status = .diverged → h.sync.status = .diverged) → room →
                x.filter.pending = some ⟨done, false⟩ ∧ ∃ f ∈ x.trunk.queue, f.body = .done done))) ∧
          (h.cfg.role = .crusher → x.discharge = h.discharge ∧ x.filter = h.filter ∧ x.seq = h.seq)) ∧
        t.counters.stale = min (h.counters.stale + (h.table.claims.filter (fun c => !lost c.owner &&
          match c.status with
          | .committed w => decide (past w)
          | .waiting => false)).length) 65535 ∧
        t.roster = h.roster.filterMap (fun e =>
          if e.addr = h.own then some { e with heard := false }
          else if e.heard = true ∨ e.addr = a then
            some { e with heard := false, missed := 0, status := if e.isExcluded then e.status else .present }
          else if 2 ≤ e.missed then none
          else some { e with
            heard := false, missed := e.missed + 1, status := if e.isExcluded then e.status else .silent }) ∧
        t.hall = x.hall ∧
        (let k : HallState := if h.sync.status ≠ .synced ∧ x.sync.status = .synced then
            { h.hall with stops := h.hall.stops.map (fun e => { e with restated := true }) } else h.hall
          let g : HallState := if t.roster.any (fun e => e.role == .crusher && !e.isExcluded) then k
            else { k with gate := .running, holds := 0, resume := 0 }
          t.hall = { g with presence := t.roster.any (fun e => e.role == .crusher && e.status == .present) }) ∧
        (t.hall.presence ≠ h.hall.presence → Report.presenceChanged t.hall.presence ∈ t.reports) ∧
        (h.mode.mode = .leaving → z.mayLeave = true → z.trunk.queue.length < 8 →
          ∃ f ∈ y.trunk.queue, f.leavingHello = true) ∧
        y.mode = (if h.mode.mode = .quiet then { h.mode with quietWindows := min (h.mode.quietWindows + 1) 255 }
          else h.mode) ∧
        (h.trunk.line = .listenOnly →
          if h.trunk.confMarks + 1 < 4 then
            y.trunk.line = .listenOnly ∧ y.trunk.confMarks = h.trunk.confMarks + 1 ∧ y.trunk.confExpiries = 0
          else y.trunk.line = .active ∧ y.trunk.failCount = 0))) ∧
  (∀ (s : State) (settling again : Bool) (dones : List DoneBody) (m : Window),
    let u := dones.foldl (fun s b => s.request (.done b) .role) s
    let v := match s.cfg.role with
      | .discharge => u.markDischarge m
      | .filter => u.markFilter settling m
      | .crusher => u.markCrusher m
    s.markRole settling again dones m = if again then v.withdrawCommitted else v)

/-- What taking a MARK makes of the sync state, before the role unit's part and after it: a LISTENING station becomes
SYNCING and asks for rows; a SYNCED one stays SYNCED while digest, claim count and number agree with its own, and
becomes DIVERGED, with the flag raised and a round asked for, when any differs; a SYNCING or DIVERGED one counts or
decides its OPEN round, and asks again where its ASK was lost; an EXCLUDED one stays so. The line record changes only
in the confinement counts. Where the sync state stays as it is and no own claim is stale, the queue changes only by
waiting MARKs going and by a PRESENT, which a station that has sent nothing requests. Where the station
diverges, a discharge station has no discharge in progress (log 25), and every own claim COMMITTED in its own table
and not begun is withdrawn: no lot holds it, and the filter is ONLINE without it, CLAIMED before or COMMITTED (log
35), its WITHDRAW in the queue where that has room. A flush under way goes on. -/
def Obligations.MarkCompared : Prop :=
  ∀ (rx : Rx MarkBody) (s h : State) (own : Bool) (a : Addr) (b : MarkBody),
    s.cleared.arrival .mark false Body.asMark rx = some (own, a, b, h) → h.senderExcluded a = false →
    let x := h.markRecords own a b
    let agrees := b.digest = crc16 (digestInput h.roster h.table.claims h.hall) ∧
      b.count = BitVec.ofNat 8 h.table.claims.length
    let asked (n : Nat) : SyncState := { h.sync with round := .asked, attempts := n }
    let again := min (h.sync.attempts + 1) 255
    let rows := ∀ e ∈ h.roster, e.addr ≠ h.own → e.status = .present → e.addr ∈ h.sync.received
    let round : SyncState := match h.sync.round with
      | .idle => h.sync
      | .asked => if h.sync.askLost then asked again else h.sync
      | .opened =>
        if rows then
          if agrees then { h.sync with status := .synced, round := .idle, received := [], roundMarks := 0, attempts := 0 }
          else asked again
        else if h.sync.roundMarks = 0 then { h.sync with roundMarks := 1 }
        else { asked again with roundMarks := h.sync.roundMarks + 1 }
    let after : SyncState := match h.sync.status with
      | .listening => { asked 1 with status := .syncing, listenTimer := none }
      | .syncing => round
      | .synced => if agrees ∧ b.window = h.window.number + 1 then h.sync else { asked 1 with status := .diverged }
      | .diverged => round
      | .excluded _ => h.sync
    let rest := h.trunk.queue.filter (fun f => !(f.body == .mark && f.sent.isNone))
    let presents := own = false ∧ h.window.sent = false ∧ h.trunk.line = .active ∧ h.cfg.role ≠ .crusher ∧
      (h.sync.status = .syncing ∨ h.sync.status = .synced ∨ h.sync.status = .diverged)
    let room := h.trunk.queue = [] ∧ h.trunk.line = .active ∧
      (h.table.claims.filter (fun c => c.owner == h.own)).length ≤ 6
    let past (c : Claim) : Bool := match c.status with
      | .committed w => decide (256 ≤ (w - b.window).toNat)
      | .waiting => false
    { x.sync with askLost := h.sync.askLost } = after ∧
    { x.trunk with queue := h.trunk.queue } = (if h.trunk.line = .listenOnly then
      { h.trunk with confMarks := h.trunk.confMarks + 1, confExpiries := 0 } else h.trunk) ∧
    (after = h.sync → (∀ c ∈ h.table.claims, c.owner = h.own → past c = false) → x.trunk.queue =
      if presents ∧ (∀ f ∈ rest, f.body ≠ .present) ∧ rest.length < 8 then
        rest ++ [⟨.present, .window, false, none, false, false⟩] else rest) ∧
    (∃ t : State, exec (.mark rx) s = .next t ∧ (h.trunk.line = .active ∨ h.trunk.confMarks + 1 < 4 →
      { t.sync with askLost := h.sync.askLost } = after) ∧
      (after.status = .diverged → h.sync.status = .synced → t.port.flags.getLsbD 0 = true)) ∧
    (h.sync.status = .synced → after.status = .diverged →
      (h.cfg.role = .discharge → (h.discharge.lots ≠ [] → x.discharge.progress = none) ∧
        ∀ c ∈ h.table.claims, c.owner = h.own → c.isCommitted = true →
          (∀ p ∈ h.discharge.pending, p.body.id ≠ c.id) → (∀ p, h.discharge.progress = some p → p.id ≠ c.id) →
          (∀ l ∈ h.discharge.lots, l.claimId = some c.id → l.status ≠ .discharging) →
          (∀ l ∈ x.discharge.lots, l.claimId ≠ some c.id) ∧
          (room → ∃ f ∈ x.trunk.queue, f.body = .withdraw ⟨c.id⟩)) ∧
      (h.cfg.role = .filter → h.filter.mode ≠ .flushing →
        ∀ c ∈ h.table.claims, c.owner = h.own → c.isCommitted = true →
          (h.filter.claimId = some c.id →
            x.filter = { h.filter with mode := .online, claimId := none, discharge := none }) ∧
          ((∀ p, h.filter.pending = some p → p.body.id ≠ c.id) → room →
            ∃ f ∈ x.trunk.queue, f.body = .withdraw ⟨c.id⟩)) ∧
      (h.cfg.role = .filter → h.filter.mode = .flushing →
        (∀ c ∈ h.table.claims, c.owner = h.own → h.filter.claimId = some c.id ∧ past c = false) →
        x.filter = h.filter ∧ x.seq = h.seq))

/-- What a MARK decides for a SYNCING or DIVERGED station whose line is ACTIVE and whose row round is OPEN: once
the rows of all PRESENT peers are in, SYNCED when digest and count agree, and the DIVERGED flag and a new round
when either differs; with rows missing, the round MARK count rises, and at 2 a new round is asked for. -/
def Obligations.RoundDecided : Prop :=
  ∀ (rx : Rx MarkBody) (s h : State) (own : Bool) (a : Addr) (b : MarkBody),
    s.cleared.arrival .mark false Body.asMark rx = some (own, a, b, h) → h.senderExcluded a = false →
    h.sync.status = .syncing ∨ h.sync.status = .diverged → h.sync.round = .opened → h.trunk.line = .active →
    ∃ t : State, exec (.mark rx) s = .next t ∧
      if ∀ e ∈ h.roster, e.addr ≠ h.own → e.status = .present → e.addr ∈ h.sync.received then
        if b.digest = crc16 (digestInput h.roster h.table.claims h.hall) ∧
            b.count = BitVec.ofNat 8 h.table.claims.length then
          t.sync.status = .synced ∧ t.sync.round = .idle ∧ t.sync.received = [] ∧ t.sync.roundMarks = 0 ∧
          t.sync.attempts = 0
        else
          t.sync.status = h.sync.status ∧ t.sync.round = .asked ∧ t.port.flags.getLsbD 0 = true ∧
          t.sync.attempts = min (h.sync.attempts + 1) 255
      else
        t.sync.status = h.sync.status ∧ t.sync.roundMarks = h.sync.roundMarks + 1 ∧
        (h.sync.roundMarks = 0 → t.sync.round = .opened ∧ t.sync.attempts = h.sync.attempts) ∧
        (1 ≤ h.sync.roundMarks → t.sync.round = .asked ∧ t.sync.attempts = min (h.sync.attempts + 1) 255)

/-- A HELLO taken. From a peer with the leaving flag clear and a role code 1 to 3, where no ROLE_CONFLICT is reported:
the sender's entry takes the station information and the state of the exclusion test, the other entries stay, a
larger ceiling reaches its claims, and an EXCLUDED sender loses them; where the entry is new, or its role or
exclusion moves, crusher presence follows and is reported, and where no CRUSHER entry that is not EXCLUDED is left
the gate fields return to their start values (R27, R28), as when a leaving HELLO removes an entry (whether an
EXCLUDED crusher's own entry counts in the test: log 24). With role code 0 (a queued ASK to its sender stays: log
50), or as the station's own, or under its own address, nothing more. A crusher that is LISTENING or SYNCING and
hears of another reports a ROLE_CONFLICT, makes the entry as though its own were not counted, and is EXCLUDED for
ROLE: its own claims and its waiting frames go. With the leaving flag set, entry and claims of the peer go, the own
entry excepted. -/
def Obligations.HelloTaken : Prop :=
  ∀ (rx : Rx HelloBody) (s h : State) (own : Bool) (a : Addr) (b : HelloBody),
    s.cleared.arrival .hello true Body.asHello rx = some (own, a, b, h) →
    let hallOf (t : State) : HallState :=
      let g := if t.roster.any (fun e => e.role == .crusher && !e.isExcluded) then h.hall
        else { h.hall with gate := .running, holds := 0, resume := 0 }
      { g with presence := t.roster.any (fun e => e.role == .crusher && e.status == .present) }
    let told (t : State) : Prop :=
      t.hall.presence ≠ h.hall.presence → Report.presenceChanged t.hall.presence ∈ t.reports
    let moves (e : RosterEntry) : Bool := match entryOf h.roster a with
      | none => true
      | some x => x.role != e.role || x.isExcluded != e.isExcluded
    (own = true → b.leaving = false → exec (.hello rx) s = .next (h.concluded s.seq)) ∧
    (own = false → a ≠ h.own → b.leaving = false →
      (b.info.role = 0 → exec (.hello rx) s = .next (h.concluded s.seq)) ∧
      (∀ r, roleOfCode b.info.role = some r → h.roleConflicts r = false →
        ∃ (t : State) (e : RosterEntry), exec (.hello rx) s = .next (t.concluded s.seq) ∧ entryOf t.roster a = some e ∧
          e.addr = a ∧ e.role = r ∧ e.transit = b.info.transit.toNat ∧ e.ceiling = b.info.ceiling.toNat ∧
          e.digestMatch = (b.info.digest == h.cfg.hall.digest) ∧ e.heard = true ∧
          e.status = (
            if b.info.digest ≠ h.cfg.hall.digest then .excluded .parameters
            else if r = .crusher ∧ h.otherCrusher a = true then .excluded .role
            else match entryOf h.roster a with
              | none => .present
              | some x => if x.isExcluded then (if x.missed = 0 then .present else .silent) else x.status) ∧
          (∀ x, x ≠ a → entryOf t.roster x = entryOf h.roster x) ∧
          t.table.claims =
            (if e.isExcluded then h.table.claims.filter (fun c => c.owner != a)
             else h.table.claims.map (fun c =>
              if c.owner = a ∧ c.effective < e.ceiling then { c with effective := e.ceiling } else c)) ∧
          t.hall = (if moves e then hallOf t else h.hall) ∧ told t ∧
          t.plan = h.plan ∧ t.window = h.window ∧ t.discharge = h.discharge ∧ t.filter = h.filter ∧
          t.crusher = h.crusher ∧ t.seq = h.seq)) ∧
    (own = false → a = h.own → b.leaving = false → exec (.hello rx) s = .next (h.concluded s.seq)) ∧
    (own = false → b.leaving = true →
      ∃ t : State, exec (.hello rx) s = .next (t.concluded s.seq) ∧
        t.roster = (if a = h.own then h.roster else h.roster.filter (fun e => e.addr != a)) ∧
        t.table.claims = h.table.claims.filter (fun c => c.owner != a) ∧
        t.hall = (if a ≠ h.own ∧ (entryOf h.roster a).isSome = true then hallOf t else h.hall) ∧ told t ∧
        t.plan = h.plan ∧ t.window = h.window ∧
        (a ≠ h.own → t.discharge = h.discharge ∧ t.filter = h.filter ∧ t.crusher = h.crusher ∧ t.seq = h.seq)) ∧
    (own = false → a ≠ h.own → b.leaving = false → b.info.role = 3 → h.cfg.role = .crusher →
      h.sync.status = .listening ∨ h.sync.status = .syncing →
      ∃ (t : State) (e : RosterEntry), exec (.hello rx) s = .next (t.concluded s.seq) ∧
        Report.roleConflict a ∈ t.reports ∧ t.sync.status = .excluded .role ∧ t.sync.round = .idle ∧
        t.sync.listenTimer = none ∧ t.sync.received = [] ∧ (∀ f ∈ t.trunk.queue, f.sent.isSome = true) ∧
        t.port.flags.getLsbD 1 = true ∧ entryOf t.roster a = some e ∧ e.role = .crusher ∧
        e.transit = b.info.transit.toNat ∧ e.ceiling = b.info.ceiling.toNat ∧
        e.status = (
          if b.info.digest ≠ h.cfg.hall.digest then .excluded .parameters
          else if h.roster.any (fun x => x.addr != a && x.addr != h.own && x.role == .crusher && !x.isExcluded)
            then .excluded .role
          else match entryOf h.roster a with
            | none => .present
            | some x => if x.isExcluded then (if x.missed = 0 then .present else .silent) else x.status) ∧
        (∀ x, x ≠ a → entryOf t.roster x = entryOf h.roster x) ∧
        (∀ c ∈ t.table.claims, c.owner ≠ h.own) ∧ t.plan = h.plan ∧ t.window = h.window ∧
        t.hall = (if moves e then hallOf t else h.hall) ∧ told t)

/-- The own leaving HELLO taken in LEAVING: without a wake mark the station is DORMANT, its queue empty, its own
claims gone, its timers stopped and its sequencer and drive outputs off, and with one it starts with cause
WAKE, the change of mode reported. -/
def Obligations.OwnLeavingHello : Prop :=
  ∀ (s h : State) (a : Addr) (b : HelloBody),
    s.cleared.arrival .hello true Body.asHello .own = some (true, a, b, h) → b.leaving = true →
    h.mode.mode = .leaving →
    ∃ t : State, exec (.hello .own) s = .next t ∧
      (h.mode.wakeMark = false →
        t.mode.mode = .dormant ∧ t.trunk.queue = [] ∧ t.window.timer = none ∧ t.sync.listenTimer = none ∧
        t.table.claims = h.table.claims.filter (fun c => c.owner != h.own) ∧ t.roster = h.roster ∧
        t.seq = { h.seq with running := none, stack := [], deferred := none, shadow0 := 0, shadow1 := 0,
                             out0 := 0, out1 := 0 } ∧
        (∀ n, t.discreteOut n = false) ∧ t.toneHertz = none) ∧
      (h.mode.wakeMark = true → { t with reports := [] } = State.fresh .wake s.pins s.pending ∧
        Report.modeChanged .startHold ∈ t.reports)

/-- A PRESENT taken changes nothing beyond what the end of any valid frame does. -/
def Obligations.PresentTaken : Prop :=
  ∀ (rx : Rx PresentBody) (s h : State) (own : Bool) (a : Addr) (b : PresentBody),
    s.cleared.arrival .present false Body.asPresent rx = some (own, a, b, h) →
    exec (.present rx) s = .next (h.concluded s.seq)

/-- A CLAIM that passes the checks of R4 for an owner and id not in the table, with room for it: a WAITING record
enters in table order, with the posted window the current one, age 0, and the larger of declared rank and
ceiling as its effective rank; an own claim is reported ADMITTED, which makes the SEALED lot posted under its id
CLAIMED, and an ONLINE filter that posted it (R118, R138). -/
def Obligations.ClaimAdmitted : Prop :=
  (∀ (rx : Rx ClaimBody) (s h : State) (own : Bool) (a : Addr) (b : ClaimBody) (e : RosterEntry) (k : ClaimKind),
    s.cleared.arrival .claim false Body.asClaim rx = some (own, a, b, h) →
    entryOf h.roster a = some e → e.isExcluded = false → claimKindOf b.kind = some k → b.rank.toNat ≤ 7 →
    (k = .lot → 1 ≤ b.cls.toNat ∧ b.cls.toNat ≤ 6) → (k = .flush → b.cls.toNat = 7) →
    (h.boundsOf b.cls.toNat).min ≤ b.volume.toNat → b.volume.toNat ≤ (h.boundsOf b.cls.toNat).max →
    claimAt h.table.claims a b.id = none →
    countOf h.table.claims a k < (match k with | .lot => 6 | .flush => 1) → h.table.claims.length < 64 →
    let c : Claim :=
      { owner := a, id := b.id, kind := k, cls := b.cls.toNat, volume := b.volume.toNat,
        declared := b.rank.toNat, effective := max b.rank.toNat e.ceiling, posted := h.window.number, age := 0,
        status := .waiting, remainder := b.remainder }
    let t : State := { h with table := { h.table with claims := insertClaim c h.table.claims } }
    exec (.claim rx) s = .next ((if a = h.own then t.roleAdmitted b.id else t).concluded s.seq)) ∧
  (∀ (s : State) (id : Byte), s.roleAdmitted id = { s with
    reports := s.reports ++ [.admitted id]
    discharge := if s.cfg.role = .discharge then
        { s.discharge with lots := s.discharge.lots.map (fun l =>
          if l.claimId = some id ∧ l.status = .sealed then { l with status := .claimed } else l) }
      else s.discharge
    filter := if s.cfg.role = .filter ∧ s.filter.claimId = some id ∧ s.filter.mode = .online then
        { s.filter with mode := .claimed }
      else s.filter })

/-- A CLAIM that passes the checks of R4 for a record in the table: a WAITING record of the same kind takes the
frame's class, volume, ranks and remainder flag in its place; a COMMITTED one, and one of the other kind, is kept
and the frame refused; so is a frame beyond the owner's or the table's room. A refusal of the station's own
frame by listen-back is counted, flagged and reported. -/
def Obligations.ClaimReplacedOrRefused : Prop :=
  ∀ (rx : Rx ClaimBody) (s h : State) (own : Bool) (a : Addr) (b : ClaimBody) (e : RosterEntry) (k : ClaimKind),
    s.cleared.arrival .claim false Body.asClaim rx = some (own, a, b, h) →
    entryOf h.roster a = some e → e.isExcluded = false → claimKindOf b.kind = some k → b.rank.toNat ≤ 7 →
    (k = .lot → 1 ≤ b.cls.toNat ∧ b.cls.toNat ≤ 6) → (k = .flush → b.cls.toNat = 7) →
    (h.boundsOf b.cls.toNat).min ≤ b.volume.toNat → b.volume.toNat ≤ (h.boundsOf b.cls.toNat).max →
    let refused (cause : RefusalCause) : State :=
      if own then
        ({ h with
          counters := { h.counters with ownRefused := min (h.counters.ownRefused + 1) 65535 }
          port := { h.port with flags := h.port.flags ||| 16#16 } } : State).roleRefused b.id cause
      else h
    (∀ c, claimAt h.table.claims a b.id = some c → c.status = .waiting → c.kind = k →
      let t : State := { h with table := { h.table with claims := h.table.claims.map (fun d =>
        if d.owner = c.owner ∧ d.id = c.id then
          { c with cls := b.cls.toNat, volume := b.volume.toNat, declared := b.rank.toNat,
                   effective := max b.rank.toNat e.ceiling, remainder := b.remainder }
        else d) } }
      exec (.claim rx) s = .next ((if a = h.own then t.report (.replaced b.id) else t).concluded s.seq)) ∧
    (∀ c, claimAt h.table.claims a b.id = some c → c.status ≠ .waiting →
      exec (.claim rx) s = .next ((refused .committed).concluded s.seq)) ∧
    (∀ c, claimAt h.table.claims a b.id = some c → c.status = .waiting → c.kind ≠ k →
      exec (.claim rx) s = .next ((refused .kindMismatch).concluded s.seq)) ∧
    (claimAt h.table.claims a b.id = none → (match k with | .lot => 6 | .flush => 1) ≤ countOf h.table.claims a k →
      exec (.claim rx) s = .next ((refused .ownerFull).concluded s.seq)) ∧
    (claimAt h.table.claims a b.id = none → countOf h.table.claims a k < (match k with | .lot => 6 | .flush => 1) →
      64 ≤ h.table.claims.length → exec (.claim rx) s = .next ((refused .tableFull).concluded s.seq))

/-- The checks of a CLAIM against roster and class bounds, in their order: the cause is that of the first that
fails. A CLAIM taken that is refused for whatever cause leaves the table as it was: the station's own by
listen-back is counted and flagged, and its role unit told, whose lot goes back to be posted again where it is still
SEALED (one no longer so is left: log 45), and any other changes nothing more. -/
def Obligations.ClaimChecked : Prop :=
  (∀ (s : State) (a : Addr) (b : ClaimBody),
    (entryOf s.roster a = none → s.judgeClaim a b = .refuse .unknownOwner) ∧
    ∀ e, entryOf s.roster a = some e →
      (e.isExcluded = true → s.judgeClaim a b = .refuse .excludedOwner) ∧
      (e.isExcluded = false →
        (1 < b.kind.toNat ∨ 7 < b.rank.toNat → s.judgeClaim a b = .refuse .badField) ∧
        (b.kind.toNat ≤ 1 → b.rank.toNat ≤ 7 →
          ((b.kind = 0 ∧ (b.cls.toNat < 1 ∨ 6 < b.cls.toNat)) ∨ (b.kind = 1 ∧ b.cls.toNat ≠ 7) →
            s.judgeClaim a b = .refuse .badClass) ∧
          ((b.kind = 0 ∧ 1 ≤ b.cls.toNat ∧ b.cls.toNat ≤ 6) ∨ (b.kind = 1 ∧ b.cls.toNat = 7) →
            b.volume.toNat < (s.boundsOf b.cls.toNat).min ∨ (s.boundsOf b.cls.toNat).max < b.volume.toNat →
            s.judgeClaim a b = .refuse .badVolume)))) ∧
  (∀ (rx : Rx ClaimBody) (s h : State) (own : Bool) (a : Addr) (b : ClaimBody) (cause : RefusalCause),
    s.cleared.arrival .claim false Body.asClaim rx = some (own, a, b, h) → h.judgeClaim a b = .refuse cause →
    (own = false → exec (.claim rx) s = .next (h.concluded s.seq)) ∧
    (own = true → ∃ t : State, exec (.claim rx) s = .next (t.concluded s.seq) ∧
      t = ({ h with
        counters := { h.counters with ownRefused := min (h.counters.ownRefused + 1) 65535 }
        port := { h.port with flags := h.port.flags ||| 16#16 } } : State).roleRefused b.id cause ∧
      Report.refused b.id cause ∈ t.reports ∧ t.table = h.table ∧
      (h.cfg.role = .discharge → t.discharge.lots = h.discharge.lots.map (fun l =>
        if l.claimId = some b.id ∧ l.status = .sealed then { l with claimId := none, refused := true } else l)) ∧
      (h.cfg.role = .filter → t.filter = (if h.filter.claimId = some b.id ∧ h.filter.mode = .online ∧
        cause ≠ .committed then { h.filter with claimId := none, refused := true } else h.filter))))

/-- A WITHDRAW taken from a sender with a roster entry, and a DONE taken at a station that is no crusher, remove
the claim of the sender with the id named, whatever its state; the removal of an own claim is reported with its
reason, and a peer's changes nothing else. A WITHDRAW from a sender without an entry changes nothing. -/
def Obligations.ClaimRemoved : Prop :=
  (∀ (rx : Rx WithdrawBody) (s h : State) (own : Bool) (a : Addr) (b : WithdrawBody),
    s.cleared.arrival .withdraw false Body.asWithdraw rx = some (own, a, b, h) →
    (entryOf h.roster a = none → exec (.withdraw rx) s = .next (h.concluded s.seq)) ∧
    (entryOf h.roster a ≠ none →
      let r : State := { h with table := { h.table with
        claims := h.table.claims.filter (fun c => !(c.owner == a && c.id == b.id)) } }
      ∃ t : State, exec (.withdraw rx) s = .next (t.concluded s.seq) ∧ Untouched r t ∧ (a ≠ h.own → t = r) ∧
        (claimAt h.table.claims a b.id = none → t = r) ∧
        (a = h.own → claimAt h.table.claims a b.id ≠ none → Report.removed b.id .withdrawn ∈ t.reports))) ∧
  (∀ (rx : Rx DoneBody) (s h : State) (own : Bool) (a : Addr) (b : DoneBody),
    s.cleared.arrival .done false Body.asDone rx = some (own, a, b, h) → h.cfg.role ≠ .crusher →
    let r : State := { h with table := { h.table with
      claims := h.table.claims.filter (fun c => !(c.owner == a && c.id == b.id)) } }
    ∃ t : State, exec (.done rx) s = .next (t.concluded s.seq) ∧ Untouched r t ∧ (a ≠ h.own → t = r) ∧
      (claimAt h.table.claims a b.id = none → t = r) ∧
      (a = h.own → claimAt h.table.claims a b.id ≠ none → Report.removed b.id .done ∈ t.reports))

/-- A DONE taken at a crusher station removes its claim as elsewhere, and adds its material to the inbound list
when its sender is not EXCLUDED, its class is 1 to 7, its volume is not 0 and the list holds no entry of the same
owner, id and arrival window; a full list drops it, counted and flagged (these tests come first: log 42). At a MARK
carrying m the window records move on, the current one taking the arriving entry's class, if set, and whether the
crusher accepts; the entries of window m and earlier are consumed in list order: into the surge level where their
record was not accepting, otherwise into its bin up to the capacity and the rest into the surge level, counted and
flagged as mixed where the classes differ (with a full bin too: log 41), a bin that reaches its threshold setting
the hold; the surge level drains and the surge stop mark is judged. Then a GATE is requested and the wanted stop
compared: what the comparison calls for is requested, unless it waits or flies already, and a contrary STOP or
RELEASE of the unit that waits is withdrawn (a STOP of the other cause too: log 53). -/
def Obligations.DoneInbound : Prop :=
  (∀ (rx : Rx DoneBody) (s h : State) (own : Bool) (a : Addr) (b : DoneBody),
    s.cleared.arrival .done false Body.asDone rx = some (own, a, b, h) → h.cfg.role = .crusher →
    ∃ t : State, exec (.done rx) s = .next (t.concluded s.seq) ∧
      t.table.claims = h.table.claims.filter (fun c => !(c.owner == a && c.id == b.id)) ∧
      { t.crusher with inbound := h.crusher.inbound } = h.crusher ∧
      t.roster = h.roster ∧ t.hall = h.hall ∧ t.plan = h.plan ∧ t.seq = h.seq ∧ t.trunk = h.trunk ∧
      let e : Inbound := ⟨a, b.id, b.cls.toNat, b.volume.toNat, b.arrival⟩
      let counts := h.senderExcluded a = false ∧ 1 ≤ b.cls.toNat ∧ b.cls.toNat ≤ 7 ∧ b.volume ≠ 0 ∧
        ∀ x ∈ h.crusher.inbound, ¬(x.owner = a ∧ x.id = b.id ∧ x.arrival = b.arrival)
      (counts → h.crusher.inbound.length < 48 →
        (∀ x, x ∈ t.crusher.inbound ↔ x = e ∨ x ∈ h.crusher.inbound) ∧
        t.crusher.inbound.length = h.crusher.inbound.length + 1 ∧ t.counters = h.counters) ∧
      (counts → 48 ≤ h.crusher.inbound.length →
        t.crusher = h.crusher ∧ t.counters.inboundLost = min (h.counters.inboundLost + 1) 65535 ∧
        t.port.flags.getLsbD 12 = true) ∧
      (¬counts → t.crusher = h.crusher ∧ t.counters = h.counters ∧ t.port = h.port)) ∧
  (∀ (s : State) (m : Window),
    let later (e : Inbound) : Bool := decide (1 ≤ (e.arrival - m).toNat ∧ (e.arrival - m).toNat ≤ 255)
    let place := s.plan.arriving.cls.getD s.crusher.diverter
    let moved : State := { s with crusher := { s.crusher with
      previous := s.crusher.current, diverter := place
      current := ⟨place, decide (s.crusher.mode = .running) && s.seq.runs .feed⟩
      inbound := s.crusher.inbound.filter later } }
    let u := (s.crusher.inbound.filter (fun e => !later e)).foldl (State.consumeOne m) moved
    let level := u.crusher.surge - if u.crusher.current.accepting then s.cfg.cru.drainRate else 0
    s.markCrusher m = ({ u with crusher := { u.crusher with
      surge := level
      surgeStop := if u.crusher.surgeStop then decide (s.cfg.cru.surgeCapacity / 2 < level)
        else decide (s.cfg.cru.surgeCapacity ≤ level) } } : State).tellHall) ∧
  (∀ (s : State) (m : Window) (e : Inbound),
    let r := if e.arrival = m then s.crusher.current else s.crusher.previous
    (r.accepting = false → s.consumeOne m e =
      { s with crusher := { s.crusher with surge := min (s.crusher.surge + e.volume) 65535 } }) ∧
    (r.accepting = true →
      let n := s.crusher.fills.getD (r.position - 1) 0
      let room := s.cfg.cru.capacities.getD (r.position - 1) 0 - n
      let x : State := { s with
        crusher := { s.crusher with
          fills := s.crusher.fills.set (r.position - 1) (n + min e.volume room)
          surge := min (s.crusher.surge + (e.volume - room)) 65535 }
        counters := if e.cls = r.position then s.counters
          else { s.counters with mixed := min (s.counters.mixed + 1) 65535 }
        port := if e.cls = r.position then s.port else { s.port with flags := s.port.flags ||| 0x0800#16 } }
      let full := s.cfg.cru.thresholds.getD (r.position - 1) 0 ≤ x.crusher.fills.getD (r.position - 1) 0 ∧
        s.crusher.holds.getLsbD (r.position - 1) = false
      s.consumeOne m e = if full then
          ({ x with
            crusher := { x.crusher with holds := x.crusher.holds ||| BitVec.twoPow 7 (r.position - 1) }
            port := { x.port with flags := x.port.flags ||| 0x0400#16 } } : State).requestGate
        else x)) ∧
  (∀ s : State,
    let may := s.trunk.line = .active ∧
      (s.sync.status = .syncing ∨ s.sync.status = .synced ∨ s.sync.status = .diverged)
    let entry := (s.hall.stops.find? (fun e => e.addr == s.own)).map (fun e => e.cause)
    let wanted : Option StopCause :=
      if s.crusher.mode = .jammed then some .jam else if s.crusher.surgeStop then some .surgeFull else none
    let mine (f : QFrame) : Bool := f.urgent && (f.body.kind == .stop || f.body.kind == .release)
    let calls (b : QBody) : Prop :=
      s.compareStop =
        let u := s.pullWaiting (fun f => mine f && f.body != b)
        if u.trunk.queue.any (fun f => mine f && f.body == b) then u else u.request b .role true
    (¬may → s.requestGate = s ∧ s.compareStop = s) ∧
    (may → s.requestGate = s.request .gate .role true) ∧ s.tellHall = s.requestGate.compareStop ∧
    (entry = some .operator ∨ entry = wanted → s.compareStop = s) ∧
    (may → entry = some .jam ∨ entry = some .surgeFull → wanted = none →
      calls (.release ⟨BitVec.ofNat 8 s.own.val, false⟩)) ∧
    (may → entry ≠ some .operator → entry ≠ some .jam → wanted = some .jam → calls (.stop ⟨1⟩)) ∧
    (may → entry ≠ some .operator → entry ≠ some .surgeFull → wanted = some .surgeFull → calls (.stop ⟨2⟩)))

/-- A GATE is taken when its sender's entry has the role CRUSHER and is not EXCLUDED and its state code is 0, 1 or
2: the three gate fields take the frame's values, and nothing else changes. Any other GATE changes nothing. -/
def Obligations.GateTaken : Prop :=
  ∀ (rx : Rx GateBody) (s h : State) (own : Bool) (a : Addr) (b : GateBody),
    s.cleared.arrival .gate false Body.asGate rx = some (own, a, b, h) →
    let may := ∃ e, entryOf h.roster a = some e ∧ e.role = .crusher ∧ e.isExcluded = false
    (∀ v, (b.state = 0 ∧ v = .running) ∨ (b.state = 1 ∧ v = .holding) ∨ (b.state = 2 ∧ v = .jammed) → may →
      ∃ t : State, exec (.gate rx) s = .next (t.concluded s.seq) ∧
        t.hall = { h.hall with gate := v, holds := b.holds, resume := b.resume } ∧
        { t with hall := h.hall, reports := h.reports } = h) ∧
    (2 < b.state.toNat ∨ ¬may → exec (.gate rx) s = .next (h.concluded s.seq))

/-- A STOP is taken when its sender's entry, if any, is not EXCLUDED and its cause code is 1 to 3: the sender stands
in the stop set with the cause, the other originators stay, and the first cause is the frame's when the set was
empty; a STOP that makes the set non-empty raises STOP_ACTIVE, and one of a new originator ends a discharge in
progress, its lot a remainder, and a flush in progress, the filter ONLINE, each with its short DONE; then every own
claim COMMITTED in the own table and not begun is withdrawn, its lot SEALED again or the filter ONLINE (a claim
whose unit was not told, and one whose DONE is pending: logs 35 and 46), as where sync is lost (R102, R103). The
entry is marked restated in every sync state, where R35 keeps marks only while SYNCING or DIVERGED
(the mark shows in no other state: log 17). Any other STOP changes no record. -/
def Obligations.StopTaken : Prop :=
  (∀ (rx : Rx StopBody) (s h : State) (own : Bool) (a : Addr) (b : StopBody),
    s.cleared.arrival .stop false Body.asStop rx = some (own, a, b, h) →
    (∀ c, (b.cause = 1 ∧ c = .jam) ∨ (b.cause = 2 ∧ c = .surgeFull) ∨ (b.cause = 3 ∧ c = .operator) →
      h.senderExcluded a = false →
      ∃ t : State, exec (.stop rx) s = .next (t.concluded s.seq) ∧ Untouched { h with hall := t.hall } t ∧
        t.hall.stops.find? (fun e => e.addr == a) = some ⟨a, c, true⟩ ∧
        (∀ x, x ≠ a →
          t.hall.stops.find? (fun e => e.addr == x) = h.hall.stops.find? (fun e => e.addr == x)) ∧
        t.hall.firstCause = (if h.hall.stops = [] then some c else h.hall.firstCause) ∧
        { t.hall with stops := h.hall.stops, firstCause := h.hall.firstCause } = h.hall ∧
        (h.hall.stops = [] → t.port.flags.getLsbD 3 = true) ∧
        (h.hall.stops.find? (fun e => e.addr == a) = none → h.cfg.role = .discharge → h.discharge.lots ≠ [] →
          t.discharge.progress = none) ∧
        (h.hall.stops.find? (fun e => e.addr == a) ≠ none → h.cfg.role ≠ .crusher →
          t = { h with hall := t.hall }) ∧
        (h.hall.stops.find? (fun e => e.addr == a) = none → h.cfg.role ≠ .crusher →
          ∃ v : State, t = v.withdrawCommitted ∧
            let room := h.trunk.queue.length < 8 ∧ h.trunk.line = .active ∧ ∀ c, h.sync.status ≠ .excluded c
            (h.cfg.role = .discharge →
              (h.discharge.progress = none → v.discharge = h.discharge ∧ v.seq = h.seq ∧ v.trunk = h.trunk) ∧
              (∀ p l k, h.discharge.progress = some p → h.discharge.lots = l :: k →
                let d := l.volume.getD 0 * p.travel / l.length.getD 1
                let w := l.volume.getD 0 - d
                let done : DoneBody := ⟨p.id, BitVec.ofNat 8 d, true, p.arrival, BitVec.ofNat 8 l.cls⟩
                v.seq = (h.seq.cancel .discharge).seq ∧ v.port.flags.getLsbD 5 = true ∧
                v.counters.shortDischarges = min (h.counters.shortDischarges + 1) 65535 ∧
                (room → v.discharge = { h.discharge with
                    progress := none, pending := h.discharge.pending ++ [⟨done, false⟩]
                    lots := { l with
                      status := .sealed, claimId := none, discharge := none, remainder := true, volume := some w
                      length := some (l.length.getD 1 - p.travel)
                      undersize := decide (w < (h.boundsOf l.cls).min) } :: k } ∧
                  ∃ f ∈ v.trunk.queue, f.body = .done done))) ∧
            (h.cfg.role = .filter →
              (h.filter.progress = none → v.filter = h.filter ∧ v.seq = h.seq ∧ v.trunk = h.trunk) ∧
              (∀ p, h.filter.progress = some p →
                let spent := match (h.seq.running.toList ++ h.seq.stack).find? (fun o => o.kind == .flush) with
                  | some o => o.elapsed
                  | none => 0
                let done : DoneBody := ⟨p.id, BitVec.ofNat 8
                  (h.cfg.fil.flushVolume * spent / (h.cfg.fil.fraction * h.cfg.hall.w * 15625)), true, p.arrival, 7⟩
                v.seq = (h.seq.cancel .flush).seq ∧
                v.counters.shortDischarges = min (h.counters.shortDischarges + 1) 65535 ∧
                { v.filter with pending := h.filter.pending } = { h.filter with
                  mode := .online, progress := none, claimId := none, discharge := none } ∧
                (room → v.filter.pending = some ⟨done, false⟩ ∧ ∃ f ∈ v.trunk.queue, f.body = .done done))))) ∧
    (b.cause.toNat < 1 ∨ 3 < b.cause.toNat ∨ h.senderExcluded a = true →
      exec (.stop rx) s = .next ((if own then h.afterOwnStop else h).concluded s.seq))) ∧
  (∀ s : State,
    let t := s.withdrawCommitted
    let mine (id : Byte) : Bool := s.table.claims.any (fun c => c.owner == s.own && c.id == id && c.isCommitted)
    let room := s.trunk.queue.length +
      (s.table.claims.filter (fun c => c.owner == s.own && c.isCommitted)).length < 8
    let heard := s.trunk.line = .active ∧ ∀ c, s.sync.status ≠ .excluded c
    Untouched s t ∧ (s.cfg.role = .crusher → t = s) ∧
    (s.cfg.role = .discharge →
      let due (id : Byte) : Bool := mine id && !s.discharge.pending.any (fun p => p.body.id == id) &&
        !s.discharge.lots.any (fun l => l.claimId == some id && l.status == .discharging)
      (∀ id, due id = true → (∀ l ∈ t.discharge.lots, l.claimId ≠ some id) ∧
        (room → heard → ∃ f ∈ t.trunk.queue, f.body = .withdraw ⟨id⟩)) ∧
      (room → t.seq = s.seq ∧ t.discharge = { s.discharge with lots := s.discharge.lots.map (fun l =>
        if l.claimId.any due then { l with status := .sealed, claimId := none, discharge := none } else l) })) ∧
    (s.cfg.role = .filter →
      let unbegun := s.filter.mode ≠ .flushing ∧
        ∃ id, s.filter.claimId = some id ∧ (s.filter.mode = .committed ∨ mine id = true)
      (unbegun → t.filter = { s.filter with mode := .online, claimId := none, discharge := none }) ∧
      (¬unbegun → room → t.filter = s.filter) ∧ (room → t.seq = s.seq) ∧
      (∀ id, room → heard → mine id = true → (s.filter.claimId = some id → s.filter.mode ≠ .flushing) →
        (s.filter.claimId ≠ some id → ∀ p, s.filter.pending = some p → p.body.id ≠ id) →
        ∃ f ∈ t.trunk.queue, f.body = .withdraw ⟨id⟩)))

/-- A RELEASE taken from a sender that is not EXCLUDED, valid when its target is its sender or its force flag is
set: the target leaves the stop set, and with the last originator the first cause goes. Any other RELEASE keeps
the record. -/
def Obligations.ReleaseTaken : Prop :=
  ∀ (rx : Rx ReleaseBody) (s h : State) (own : Bool) (a : Addr) (b : ReleaseBody),
    s.cleared.arrival .release false Body.asRelease rx = some (own, a, b, h) →
    ∃ t : State, exec (.release rx) s = .next (t.concluded s.seq) ∧ Untouched { h with hall := t.hall } t ∧
      { t.hall with stops := h.hall.stops, firstCause := h.hall.firstCause } = h.hall ∧
      (∀ x : Addr, b.target.toNat = x.val → h.senderExcluded a = false → x = a ∨ b.force = true →
        t.hall.stops = h.hall.stops.filter (fun e => e.addr != x) ∧
        ((∃ e ∈ h.hall.stops, e.addr = x) →
          t.hall.firstCause = (if t.hall.stops = [] then none else h.hall.firstCause)) ∧
        ((∀ e ∈ h.hall.stops, e.addr ≠ x) → t.hall = h.hall)) ∧
      (31 < b.target.toNat ∨ h.senderExcluded a = true ∨ (b.target.toNat ≠ a.val ∧ b.force = false) →
        t.hall = h.hall)

/-- An ASK taken. For a HELLO, put to the station or to ALL, by a station whose line is ACTIVE, whose sync state is
SYNCING, SYNCED or DIVERGED, that is not LEAVING and has no HELLO waiting: a HELLO with its own parameters is
requested. For rows, in the same line and sync states: a ROW is requested, and after it (log 49) a stop of the
station's own restated; its own ASK to ALL first opens the round. An ASK with a field out of range changes nothing. -/
def Obligations.AskTaken : Prop :=
  ∀ (rx : Rx AskBody) (s h : State) (own : Bool) (a : Addr) (b : AskBody),
    s.cleared.arrival .ask false Body.asAsk rx = some (own, a, b, h) →
    let mine := b.target = 0xFF ∨ b.target.toNat = h.own.val
    let able := h.trunk.line = .active ∧
      (h.sync.status = .syncing ∨ h.sync.status = .synced ∨ h.sync.status = .diverged)
    (b.subject = 1 → b.target = 0xFF ∨ b.target.toNat ≤ 31 →
      let h1 : State := if own = false ∧ b.target ≠ 0xFF then
        h.pullWaiting (fun f => f.body == .ask ⟨b.target, 1⟩) else h
      (mine → able → h.mode.mode ≠ .leaving →
        (∀ f ∈ h1.trunk.queue, ¬(f.sent = none ∧ f.body.kind = .hello)) →
        exec (.ask rx) s = .next ((h1.request (.hello ⟨h.stationInfo, false⟩) .roster).concluded s.seq)) ∧
      (¬mine ∨ ¬able ∨ h.mode.mode = .leaving ∨ (∃ f ∈ h1.trunk.queue, f.sent = none ∧ f.body.kind = .hello) →
        exec (.ask rx) s = .next (h1.concluded s.seq))) ∧
    (b.subject = 2 → b.target = 0xFF ∨ b.target.toNat ≤ 31 →
      let h1 : State := if own = true ∧ b.target = 0xFF then
        { h with
          sync := { h.sync with round := .opened, received := [], roundMarks := 0 }
          hall := { h.hall with stops := h.hall.stops.map (fun e => { e with restated := false }) } } else h
      (mine → able → exec (.ask rx) s = .next ((h1.request .row .sync).restateStop.concluded s.seq)) ∧
      (¬mine ∨ ¬able → exec (.ask rx) s = .next (h1.concluded s.seq))) ∧
    (b.subject.toNat < 1 ∨ 2 < b.subject.toNat ∨ (b.target ≠ 0xFF ∧ 31 < b.target.toNat) →
      exec (.ask rx) s = .next (h.concluded s.seq))

/-- A ROW taken. From a peer with a role code 1 to 3: its entry takes the ROW's station information as from a HELLO, the
other entries stay, and the claims of its owner are those of the records that enter: the first of each id (of a ROW
out of id order: log 22) whose class suits its kind and whose volume is not 0, of these the 6 LOTs and the FLUSH of
lowest id, and of these the lowest ids for which the table has room; none for an EXCLUDED sender (at an EXCLUDED
crusher its own entry counts in the test of R61: log 24). An entered claim has the larger of carried rank and
ceiling, the smaller of carried age and A-1, and windows counted from the ROW's. Presence and gate fields follow as
from a HELLO (R28). A station that is SYNCING or DIVERGED drops the sender's stop when its mark is clear, also with
role code 0, where nothing else changes (a queued ASK to the sender stays: log 50). An OPEN round records the
sender; a SYNCING station that finds another parameter digest is EXCLUDED for PARAMETERS, and a joining crusher that
hears of another for ROLE (before PARAMETERS: log 14; the stop before PARAMETERS alone: log 16), own claims and
waiting frames going. The station's own ROW, and one under its address (whose conflict acts first: log 14), enters
its own claims anew, dropped records counted. -/
def Obligations.RowTaken : Prop :=
  ∀ (rx : Rx RowBody) (s h : State) (own : Bool) (a : Addr) (b : RowBody),
    s.cleared.arrival .row true Body.asRow rx = some (own, a, b, h) →
    let kept : List RowRecord := (List.range b.records.length).filterMap (fun i =>
      (b.records[i]?).filter (fun r => !(b.records.take i).any (fun q => q.id == r.id) && r.volume != 0 &&
        (if r.flush then r.cls.toNat == 7 else decide (1 ≤ r.cls.toNat) && decide (r.cls.toNat ≤ 6))))
    let below (l : List RowRecord) (r : RowRecord) : Nat :=
      (l.filter (fun q => decide (q.id.toNat < r.id.toNat))).length
    let fitting := kept.filter (fun r =>
      decide (below (kept.filter (fun q => q.flush == r.flush)) r < if r.flush then 1 else 6))
    let entering (others : Nat) := fitting.filter (fun r => decide (below fitting r < 64 - others))
    let claim (ceiling : Nat) (r : RowRecord) : Claim :=
      { owner := a, id := r.id, kind := if r.flush then .flush else .lot, cls := r.cls.toNat,
        volume := r.volume.toNat, declared := max r.rank.toNat ceiling, effective := max r.rank.toNat ceiling,
        posted := b.window - BitVec.ofNat 16 r.p.toNat, age := min r.age.toNat (h.cfg.hall.a - 1),
        status := if r.committed then .committed (b.window + BitVec.ofNat 16 r.c.toNat) else .waiting,
        remainder := r.remainder }
    let holds (t : State) (rest : List Claim) (ceiling : Nat) (enter : Prop) : Prop :=
      ∀ c, c ∈ t.table.claims ↔ c ∈ rest ∨ (enter ∧ ∃ r ∈ entering rest.length, c = claim ceiling r)
    let strangers := h.table.claims.filter (fun c => c.owner != a)
    let mended : HallState :=
      if (h.sync.status = .syncing ∨ h.sync.status = .diverged) ∧
          h.hall.stops.any (fun e => e.addr == a && !e.restated) = true then
        { h.hall with
          stops := h.hall.stops.filter (fun e => e.addr != a)
          firstCause := if h.hall.stops.all (fun e => e.addr == a) then none else h.hall.firstCause }
      else h.hall
    let hallOf (t : State) (e : RosterEntry) (k : HallState) : HallState :=
      let moves : Bool := match entryOf h.roster a with
        | none => true
        | some x => x.role != e.role || x.isExcluded != e.isExcluded
      let g := if t.roster.any (fun x => x.role == .crusher && !x.isExcluded) then k
        else { k with gate := .running, holds := 0, resume := 0 }
      if moves then { g with presence := t.roster.any (fun x => x.role == .crusher && x.status == .present) } else k
    (own = false → b.info.role = 0 →
      ∃ t : State, exec (.row rx) s = .next (t.concluded s.seq) ∧ t.hall = mended ∧
        { t with hall := h.hall, reports := h.reports } = h) ∧
    (∀ r, own = false → a ≠ h.own → roleOfCode b.info.role = some r →
      let joining := h.sync.status = .listening ∨ h.sync.status = .syncing
      let conflict := h.cfg.role = .crusher ∧ r = .crusher ∧ joining
      let differs := b.info.digest ≠ h.cfg.hall.digest
      ∃ (t : State) (e : RosterEntry), exec (.row rx) s = .next (t.concluded s.seq) ∧
        entryOf t.roster a = some e ∧ e.addr = a ∧ e.role = r ∧ e.transit = b.info.transit.toNat ∧
        e.ceiling = b.info.ceiling.toNat ∧ e.digestMatch = (b.info.digest == h.cfg.hall.digest) ∧ e.heard = true ∧
        e.status = (
          if differs then .excluded .parameters
          else if r = .crusher ∧ h.roster.any (fun x => x.addr != a && x.role == .crusher && !x.isExcluded &&
              (x.addr != h.own || !(h.sync.status == .listening || h.sync.status == .syncing))) = true then
            .excluded .role
          else match entryOf h.roster a with
            | none => .present
            | some x => if x.isExcluded then (if x.missed = 0 then .present else .silent) else x.status) ∧
        (∀ x, x ≠ a → entryOf t.roster x = entryOf h.roster x) ∧
        (∀ f ∈ t.trunk.queue, f.body = .ask ⟨BitVec.ofNat 8 a.val, 1⟩ → f.sent.isSome = true) ∧
        t.plan = h.plan ∧ t.window = h.window ∧
        t.hall = hallOf t e (if conflict then h.hall else mended) ∧
        (t.hall.presence ≠ h.hall.presence → Report.presenceChanged t.hall.presence ∈ t.reports) ∧
        (¬conflict → ¬(h.sync.status = .syncing ∧ differs) →
          holds t strangers e.ceiling (e.isExcluded = false) ∧
          t.sync.status = h.sync.status ∧
          (h.sync.round = .opened → a ∈ t.sync.received) ∧ (h.sync.round ≠ .opened → t.sync = h.sync) ∧
          t.discharge = h.discharge ∧ t.filter = h.filter ∧ t.crusher = h.crusher ∧ t.seq = h.seq) ∧
        (conflict ∨ (h.sync.status = .syncing ∧ differs) →
          t.sync.status = .excluded (if conflict then .role else .parameters) ∧ t.sync.round = .idle ∧
          t.sync.received = [] ∧ t.sync.listenTimer = none ∧ (∀ f ∈ t.trunk.queue, f.sent.isSome = true) ∧
          t.port.flags.getLsbD 1 = true ∧
          holds t (strangers.filter (fun c => c.owner != h.own)) e.ceiling (e.isExcluded = false) ∧
          (conflict → Report.roleConflict a ∈ t.reports))) ∧
    (a = h.own → own = true ∨ (b.info.role ≠ 0 ∧ (h.sync.status ≠ .syncing ∨ b.info.digest = h.cfg.hall.digest)) →
      h.senderExcluded a = false →
      let enter := entering strangers.length
      ∃ t : State, exec (.row rx) s = .next (t.concluded s.seq) ∧ t.roster = h.roster ∧ t.plan = h.plan ∧
        t.window = h.window ∧ t.sync.status = h.sync.status ∧ t.hall = mended ∧
        holds t strangers (ceilingOf h.roster a) True ∧
        (enter.length = b.records.length → t.counters.ownRefused = h.counters.ownRefused) ∧
        (enter.length < b.records.length →
          t.counters.ownRefused = min (h.counters.ownRefused + (b.records.length - enter.length)) 65535 ∧
          t.port.flags.getLsbD 4 = true) ∧
        (∀ c ∈ h.table.claims, c.owner = a →
          (Report.removed c.id .rowDropped ∈ t.reports ↔ Report.removed c.id .rowDropped ∈ h.reports ∨
            ∀ r ∈ enter, r.id ≠ c.id)) ∧
        (∀ r ∈ enter, (∀ c ∈ h.table.claims, ¬(c.owner = a ∧ c.id = r.id)) → Report.admitted r.id ∈ t.reports))

/-! ## The outgoing queue -/

/-- What a request for a frame makes of the outgoing queue. It is refused while EXCLUDED (first, where both hold: log
38) and in LISTEN_ONLY. Otherwise a MARK, PRESENT, GATE or ROW is absorbed by one of its kind, a GATE in flight
marked for a follow-up; a CLAIM takes the place of the waiting CLAIM of its id; a WITHDRAW removes that CLAIM,
and is itself not queued when the own table lacks the id, or absorbed by a WITHDRAW of the id; and what remains
enters last, or into a full queue in place of the newest waiting frame of the worst class below its own, or is
refused as FULL. Each fate is reported to the block that asked, and settles its lot, flush or pending DONE; a
re-ranking CLAIM's fate leaves a claim already admitted (log 6), and any CLAIM's a lot no longer SEALED (log 45). -/
def Obligations.RequestSettled : Prop :=
  (∀ b : QBody, classOf b.kind = (match b with
    | .mark | .gate | .stop _ | .release _ => 1
    | .done _ | .withdraw _ => 2
    | .claim _ | .row | .hello _ | .ask _ => 3
    | .present => 4)) ∧
  (∀ (s : State) (b : QBody) (who : Block) (urgent : Bool),
    let t := s.request b who urgent
    let q := s.trunk.queue
    let f : QFrame := ⟨b, who, urgent, none, false, false⟩
    let told (x : Fate) : Prop := Report.fate who b x ∈ t.reports
    let claims (id : Byte) (g : QFrame) : Bool := g.sent.isNone &&
      match g.body with
      | .claim c => c.id == id
      | _ => false
    let built := b = .mark ∨ b = .present ∨ b = .gate ∨ b = .row
    let enters (r : List QFrame) : Prop :=
      (r.length < 8 → t.trunk.queue = r ++ [f] ∧ told .queued) ∧
      (8 ≤ r.length → (∀ g ∈ r, g.sent = none → g.cls ≤ f.cls) → t.trunk.queue = r ∧ told (.refused .full)) ∧
      ∀ (i : Nat) (v : QFrame), 8 ≤ r.length → r[i]? = some v → v.sent = none → f.cls < v.cls →
        (∀ (j : Nat) (g : QFrame), r[j]? = some g → g.sent = none →
          g.cls < v.cls ∨ (g.cls = v.cls ∧ j ≤ i)) →
        t.trunk.queue = r.eraseIdx i ++ [f] ∧ told .queued ∧ Report.fate v.who v.body .displaced ∈ t.reports
    Untouched s t ∧
    ((∃ c, s.sync.status = .excluded c) → t.trunk.queue = q ∧ told (.refused .excluded)) ∧
    ((∀ c, s.sync.status ≠ .excluded c) → s.trunk.line = .listenOnly →
      t.trunk.queue = q ∧ told (.refused .listenOnly)) ∧
    ((∀ c, s.sync.status ≠ .excluded c) → s.trunk.line = .active →
      (built → (∃ g ∈ q, g.body = b) → told .absorbed ∧
        t.trunk.queue = q.map (fun g =>
          if b = .gate ∧ g.body = .gate ∧ g.sent.isSome = true then { g with followUp := true } else g)) ∧
      (built → (∀ g ∈ q, g.body ≠ b) → enters q) ∧
      (∀ c, b = .claim c →
        ((∃ g ∈ q, claims c.id g = true) → told .replaced ∧
          t.trunk.queue = q.map (fun g => if claims c.id g then { g with body := b } else g)) ∧
        ((∀ g ∈ q, claims c.id g = false) → enters q)) ∧
      (∀ w, b = .withdraw w →
        let rest := q.filter (fun g => !claims w.id g)
        let held := ∃ c ∈ s.table.claims, c.owner = s.own ∧ c.id = w.id
        (∀ g ∈ q, claims w.id g = true → Report.fate g.who g.body .cancelled ∈ t.reports) ∧
        (rest.length < q.length → ¬held → t.trunk.queue = rest ∧ told .cancelled) ∧
        (rest = q ∨ held → (∃ g ∈ rest, g.body = b) → t.trunk.queue = rest ∧ told .absorbed) ∧
        (rest = q ∨ held → (∀ g ∈ rest, g.body ≠ b) → enters rest)) ∧
      (¬built → (∀ c, b ≠ .claim c) → (∀ w, b ≠ .withdraw w) → enters q))) ∧
  (∀ (s : State) (c : ClaimBody) (x : Fate),
    let failed : Bool := match x with
      | .displaced | .refused _ => true
      | _ => false
    let gone : Bool := match x with
      | .cancelled | .dropped _ => true
      | _ => false
    (s.cfg.role = .discharge → (s.deliver .role (.claim c) x).discharge.lots = s.discharge.lots.map (fun l =>
      if l.claimId = some c.id ∧ l.status = .sealed ∧ (failed || gone) = true then
        { l with claimId := none, refused := l.refused || failed } else l)) ∧
    (s.cfg.role = .filter → (s.deliver .role (.claim c) x).filter =
      if s.filter.claimId = some c.id ∧ s.filter.mode = .online ∧ (failed || gone) = true then
        { s.filter with claimId := none, refused := s.filter.refused || failed } else s.filter)) ∧
  (∀ (s : State) (d : DoneBody) (x : Fate),
    let after (p : PendingDone) : Option PendingDone :=
      if p.body ≠ d then some p
      else match x with
        | .sent | .dropped _ | .refused .listenOnly | .refused .excluded => none
        | .refused .full | .displaced => some { p with lost := true }
        | .queued => some { p with lost := false }
        | _ => some p
    (s.cfg.role = .discharge →
      (s.deliver .role (.done d) x).discharge.pending = s.discharge.pending.filterMap after) ∧
    (s.cfg.role = .filter → (s.deliver .role (.done d) x).filter.pending = s.filter.pending.bind after))

/-! ## The trunk line and the trunk timers -/

/-- Four events of the line, each with all it changes: a corrupt frame, counted, with last-sender none; a quiet
cycle, which keeps last-sender and ends the failure hold; the first cycle position taken from a quiet line; and
a frame that starts, which keeps the line busy. -/
def Obligations.LineMoves : Prop :=
  ∀ s : State,
    (s.listens = true → exec .corruptFrame s = .next { s.cleared with
      counters := { s.counters with corrupt := min (s.counters.corrupt + 1) 65535 }
      trunk := { s.trunk with lastSender := none, cycle := some ⟨none, 0⟩, busy := false, rest := 0 } }) ∧
    (s.awake = true → s.trunk.cycle ≠ none → s.trunk.busy = false → exec .quietCycle s = .next { s.cleared with
      trunk := { s.trunk with cycle := some ⟨none, 0⟩, failHold := false } }) ∧
    (s.awake = true → s.trunk.cycle = none → s.trunk.busy = false →
      exec .cyclePositionTaken s = .next { s.cleared with
        trunk := { s.trunk with lastSender := none, cycle := some ⟨none, 0⟩, busy := false, rest := 0 } }) ∧
    (s.awake = true → exec .frameStart s = .next { s.cleared with
      trunk := { s.trunk with busy := true, rest := 0 } })

/-- A slot of the contention cycle that can start: it becomes the slot now running, and the station starts a frame
in it only in its access slot, which is (a − s − 1) mod 32 after last-sender s and a after none, or at a SYNCED
crusher with an urgent frame in slot U; the frame started in the access slot is the oldest of the best class. A
frame starts with its body: that of a MARK, PRESENT, GATE and ROW as the station then stands, and any other as it
was requested; it is in flight, and the line is busy. (Slots may be passed over: log 23.) -/
def Obligations.SlotStarts : Prop :=
  (∀ (s : State) (x : Slot) (p : CyclePos), s.awake = true → s.trunk.cycle = some p → s.trunk.busy = false →
    (∀ y, p.slot = some y → slotPlace y < slotPlace x) →
    let u : State := { s.cleared with trunk := { s.trunk with cycle := some { p with slot := some x } } }
    let clear := s.trunk.line = .active ∧ s.trunk.failHold = false ∧ ∀ c, s.sync.status ≠ .excluded c
    (∀ k i, x = .rotating k → clear → k = accessSlot s.own s.trunk.lastSender → headIdx s.trunk.queue = some i →
      exec (.contentionSlot x) s = .next (u.startFrame i)) ∧
    (∀ i, x = .urgent → clear → s.cfg.role = .crusher → s.sync.status = .synced →
      urgentIdx s.trunk.queue = some i → exec (.contentionSlot x) s = .next (u.startFrame i)) ∧
    (¬clear ∨ s.trunk.queue = [] ∨ (∃ k, x = .rotating k ∧ k ≠ accessSlot s.own s.trunk.lastSender) ∨
        (x = .urgent ∧ (s.cfg.role ≠ .crusher ∨ s.sync.status ≠ .synced ∨ ∀ f ∈ s.trunk.queue, f.urgent = false)) →
      exec (.contentionSlot x) s = .next u)) ∧
  (∀ (a l : Addr), accessSlot a none = a ∧ (accessSlot a (some l)).val = (a.val + 63 - l.val) % 32) ∧
  (∀ q : List QFrame, q ≠ [] → ∃ (i : Nat) (f : QFrame), headIdx q = some i ∧ q[i]? = some f ∧
    ∀ (j : Nat) (g : QFrame), q[j]? = some g → f.cls ≤ g.cls ∧ (j < i → f.cls < g.cls)) ∧
  (∀ (s : State) (i : Nat) (f : QFrame), s.trunk.queue[i]? = some f →
    let w := s.window.number
    let own : StationInfo :=
      ⟨match s.cfg.role with | .discharge => 1 | .filter => 2 | .crusher => 3, BitVec.ofNat 3 s.cfg.transit,
        BitVec.ofNat 3 s.cfg.ceiling, s.cfg.hall.digest⟩
    let view : Byte := match s.crusher.mode with
      | .jammed => 2
      | .reversing => 1
      | .running => if 0 < s.crusher.surge then 1 else 0
    let wait := (s.crusher.surge + s.cfg.cru.drainRate - 1) / s.cfg.cru.drainRate +
      if s.crusher.mode = .reversing then 1 else 0
    let offset (n : Nat) : Byte := BitVec.ofNat 8 (min n 255)
    let record (c : Claim) : RowRecord :=
      { id := c.id, flush := c.kind == .flush, cls := BitVec.ofNat 3 c.cls, committed := c.isCommitted,
        remainder := c.remainder, volume := BitVec.ofNat 8 c.volume, rank := BitVec.ofNat 3 c.effective,
        age := BitVec.ofNat 4 c.age, p := offset (w - c.posted).toNat
        c := match c.status with
          | .committed a => offset (a - w).toNat
          | .waiting => 0 }
    let body : Body := match f.body with
      | .mark => .mark ⟨w + 1, crc16 (digestInput s.roster s.table.claims s.hall),
          BitVec.ofNat 8 s.table.claims.length⟩
      | .present => .present ⟨⟩
      | .gate => .gate ⟨view, s.crusher.holds, w + BitVec.ofNat 16 wait⟩
      | .row => .row ⟨own, w, (s.table.claims.filter (fun c => c.owner == s.own)).map record⟩
      | .hello b => .hello b
      | .claim b => .claim b
      | .withdraw b => .withdraw b
      | .done b => .done b
      | .stop b => .stop b
      | .release b => .release b
      | .ask b => .ask b
    s.startFrame i = { s with trunk := { s.trunk with
      busy := true, queue := s.trunk.queue.set i { f with sent := some body } } })

/-- A listen-back failure short of the eighth: the frame stays in its place and waits again, the failure count and the
own-frame-failures counter rise, last-sender is the sender of what was received, and the failure hold is in force.
A frame whose withdrawal was asked for in flight is removed instead and reported WITHDRAWN, the failure count as the
failure set it (R87); where it is the leaving HELLO, the mode is back in QUIET with no quiet windows (R182), or follows
SHIFT where a wake met it, the leave request and the wake mark cleared (R183; the SHIFT level: log 57). At the eighth
the line state becomes LISTEN_ONLY: the queue is empty, the own claims are gone, a station that is SYNCED, SYNCING or
DIVERGED is SYNCING, and one in LEAVING is back from it. -/
def Obligations.ListenBackFails : Prop :=
  ∀ (s : State) (received : Option Addr), s.awake = true → (∃ f ∈ s.trunk.queue, f.sent.isSome = true) →
    let backByShift : ModeState := { s.mode with
      mode := if s.pins.shift then .run else .quiet, quietWindows := 0, leaveRequest := false, wakeMark := false }
    let backToQuiet : ModeState := { s.mode with mode := .quiet, quietWindows := 0 }
    let helloPulled : Prop := ∃ f ∈ s.trunk.queue, f.pulled = true ∧ f.leavingHello = true
    (s.trunk.failCount + 1 < 8 →
      ∃ t : State, exec (.listenBackFailure received) s = .next (t.concluded s.seq) ∧
        { t with mode := s.mode, reports := [] } = { s.cleared with
          counters := { s.counters with ownFailures := min (s.counters.ownFailures + 1) 65535 }
          trunk := { s.trunk with
            lastSender := received, cycle := some ⟨none, 0⟩, busy := false, rest := 0,
            failCount := s.trunk.failCount + 1, failHold := true
            queue := (s.trunk.queue.filter (fun f => !f.pulled)).map (fun f =>
              if f.sent.isSome then { f with sent := none, followUp := false } else f) } } ∧
        (¬helloPulled → t.mode = s.mode) ∧
        (helloPulled → t.mode = if s.mode.wakeMark then backByShift else backToQuiet) ∧
        (∀ f ∈ s.trunk.queue, f.pulled = true → Report.fate f.who f.body .withdrawn ∈ t.reports) ∧
        ((∀ f ∈ s.trunk.queue, f.pulled = false) → t.reports = [])) ∧
    (8 ≤ s.trunk.failCount + 1 →
      ∃ t : State, exec (.listenBackFailure received) s = .next t ∧ t.trunk.line = .listenOnly ∧
        t.trunk.queue = [] ∧ t.trunk.failHold = false ∧ t.trunk.failCount = s.trunk.failCount + 1 ∧
        t.trunk.lastSender = received ∧ t.port.flags.getLsbD 2 = true ∧
        t.table.claims = s.table.claims.filter (fun c => c.owner != s.own) ∧ t.roster = s.roster ∧
        (∀ f ∈ s.trunk.queue, f.pulled = true → Report.fate f.who f.body .withdrawn ∈ t.reports) ∧
        (s.mode.mode = .leaving → (helloPulled ∧ s.mode.wakeMark = true → t.mode = backByShift) ∧
          (¬(helloPulled ∧ s.mode.wakeMark = true) → t.mode = backToQuiet)) ∧
        (s.sync.status = .synced ∨ s.sync.status = .syncing ∨ s.sync.status = .diverged →
          t.sync.status = .syncing ∧ t.sync.round = .idle ∧ t.sync.attempts = 0))

/-- The window timer runs out: it starts again and the expiry count rises to at most 2. With the line ACTIVE a MARK
is requested by a SYNCED station always, and by a SYNCING or DIVERGED one when the count is now 2; in LISTEN_ONLY
none is, and the expiry is counted, the eighth in a row making the line ACTIVE again (R81), where the queue gains no
MARK either. -/
def Obligations.WindowTimerRunsOut : Prop :=
  ∀ s : State, s.awake = true → s.window.timer ≠ none →
    let w : State := { s.cleared with
      window := { s.window with timer := some 0, expiries := min (s.window.expiries + 1) 2 } }
    let calls := s.sync.status = .synced ∨
      ((s.sync.status = .syncing ∨ s.sync.status = .diverged) ∧ 1 ≤ s.window.expiries)
    (s.trunk.line = .active → calls →
      exec .windowTimerExpiry s = .next ((w.request .mark .window).concluded s.seq)) ∧
    (s.trunk.line = .active → ¬calls → exec .windowTimerExpiry s = .next (w.concluded s.seq)) ∧
    (s.trunk.line = .listenOnly → s.trunk.confExpiries + 1 < 8 →
      exec .windowTimerExpiry s = .next (({ w with
        trunk := { s.trunk with confExpiries := s.trunk.confExpiries + 1 } } : State).concluded s.seq)) ∧
    (s.trunk.line = .listenOnly → 8 ≤ s.trunk.confExpiries + 1 →
      ∃ t : State, exec .windowTimerExpiry s = .next (t.concluded s.seq) ∧ t.window = w.window ∧
        t.trunk.line = .active ∧ t.trunk.failCount = 0 ∧ t.trunk.failHold = false ∧
        (∀ f ∈ t.trunk.queue, f.body = .mark → f ∈ s.trunk.queue) ∧
        t.table.claims = s.table.claims ∧ t.roster = s.roster)

/-- The listening timer expires in LISTENING: the station is SYNCED, alone on its trunk, with roster and claims as
they stand, the window timer running from now and the window number kept, and a HELLO with the leaving flag
clear is requested: it is in the queue where the line is ACTIVE and the queue has room, or a waiting PRESENT to give
way, at a crusher after the GATE and the STOP that becoming SYNCED makes it request (R155, R156). -/
def Obligations.ListeningTimerRunsOut : Prop :=
  ∀ s : State, s.awake = true → s.sync.listenTimer ≠ none → s.sync.status = .listening →
    let u : State := { s.cleared with sync := { s.sync with status := .synced, listenTimer := none } }
    let told : State := if s.cfg.role = .crusher then u.tellHall else u
    ∃ t : State, exec .listeningTimerExpiry s = .next (t.concluded s.seq) ∧ t.sync.status = .synced ∧
      t.sync.listenTimer = none ∧ t.sync.round = s.sync.round ∧ t.sync.attempts = s.sync.attempts ∧
      t.window = { s.window with timer := some 0 } ∧ t.roster = s.roster ∧ t.table.claims = s.table.claims ∧
      t.plan = s.plan ∧ (s.trunk.line = .listenOnly → t.trunk = s.trunk) ∧
      (s.trunk.line = .active →
        (s.cfg.role = .crusher → s.trunk.queue.length < 7 → ∃ f ∈ t.trunk.queue, f.body = .gate) ∧
        (s.trunk.queue.length + (if s.cfg.role = .crusher then 2 else 0) < 8 ∨ told.trunk.queue.length < 8 ∨
            (∃ f ∈ told.trunk.queue, f.sent = none ∧ f.body = .present) →
          ∃ f ∈ t.trunk.queue, f.body = .hello ⟨s.stationInfo, false⟩))

/-! ## Operations, measurement and drive -/

/-- An INDEX that runs reaches its index time: it ends, the sequencer runs what comes next, and the skip lot lies on
the track with the travel of its INDEX, held to 1 to 65535, as its length; nothing else changes. -/
def Obligations.IndexCompletes : Prop :=
  ∀ s : State, s.awake = true → s.seq.runs .index = true →
    ∃ t : State, exec .indexComplete s = .next (t.concluded s.seq) ∧
      t.discharge = { s.discharge with lots := s.discharge.lots.map (fun l =>
        if l.status = .opened ∨ l.onTrack = true then l
        else { l with onTrack := true, length := some (max 1 (min l.travel 65535)) }) } ∧
      t.seq = ({ s.seq with running := none } : SeqState).chooseNext.seq ∧
      { t with discharge := s.discharge, seq := s.seq, reports := [] } = s.cleared

/-- A FLUSH that runs reaches its flush time: it ends, the filter is SETTLING with a settle count of 0 and no claim,
an open bypass is marked cleaned and closes when the band is NORMAL, and the full DONE is pending and requested. At
a MARK carrying m a flush in progress ends short, whatever m is (one that repeats the number: log 24): SETTLING with
a settle count of 1, its short DONE requested; a filter SETTLING at the MARK counts it, and is ONLINE at 2; a flush
COMMITTED to discharge window m starts when the station is SYNCED, in RUN or QUIET, with the supply NORMAL and no
stop in force; one of window m or earlier that does not start is withdrawn; the refused mark is cleared; and, after
that (log 47), a WITHDRAW is requested for each own claim that neither the unit nor its pending DONE names (R145). -/
def Obligations.FlushCompletes : Prop :=
  (∀ (s : State) (p : Flushing), s.awake = true → s.seq.runs .flush = true → s.filter.progress = some p →
    let done : DoneBody := ⟨p.id, BitVec.ofNat 8 s.cfg.fil.flushVolume, false, p.arrival, 7⟩
    ∃ x : State, exec .flushComplete s = .next ((x.requestFlushDone done).concluded s.seq) ∧
      x.filter = { s.filter with
        mode := .settling, settle := 0, claimId := none, discharge := none, progress := none
        bypassOpen := s.filter.bypassOpen && s.filter.band != .normal
        cleaned := if s.filter.bypassOpen then s.filter.band != .normal else s.filter.cleaned } ∧
      x.seq = ({ s.seq with running := none } : SeqState).chooseNext.seq ∧
      { x with filter := s.filter, seq := s.seq, reports := [] } = s.cleared ∧
      (s.trunk.queue.length < 8 → s.trunk.line = .active → (∀ c, s.sync.status ≠ .excluded c) →
        (x.requestFlushDone done).filter.pending = some ⟨done, false⟩ ∧
        ∃ f ∈ (x.requestFlushDone done).trunk.queue, f.body = .done done)) ∧
  (∀ (s : State) (settling : Bool) (m : Window), s.cfg.role = .filter →
    let u := s.filter
    let starts := u.discharge = some m ∧ s.sync.status = .synced ∧ s.hall.stops = [] ∧ s.mode.supply = .normal ∧
      (s.mode.mode = .run ∨ s.mode.mode = .quiet)
    let later := ∃ w, u.discharge = some w ∧ 1 ≤ (w - m).toNat ∧ (w - m).toNat ≤ 255
    ∃ x : State, s.markFilter settling m = x.withdrawOrphanFlushes ∧
      (∀ p, u.progress = some p → settling = false →
        let spent := match (s.seq.running.toList ++ s.seq.stack).find? (fun o => o.kind == .flush) with
          | some o => o.elapsed
          | none => 0
        let done : DoneBody :=
          ⟨p.id, BitVec.ofNat 8 (s.cfg.fil.flushVolume * spent / (s.cfg.fil.fraction * s.cfg.hall.w * 15625)),
            true, p.arrival, 7⟩
        { x.filter with pending := u.pending } = { u with
          progress := none, claimId := none, discharge := none, mode := .settling, settle := 1, refused := false } ∧
        x.seq = (s.seq.cancel .flush).seq ∧
        x.counters.shortDischarges = min (s.counters.shortDischarges + 1) 65535 ∧ Untouched s x ∧
        (s.trunk.queue.length < 8 → s.trunk.line = .active → (∀ c, s.sync.status ≠ .excluded c) →
          x.filter.pending = some ⟨done, false⟩ ∧ ∃ f ∈ x.trunk.queue, f.body = .done done)) ∧
      (u.progress = none → u.mode = .settling → settling = true →
        x = { s with filter := { u with
          settle := min (u.settle + 1) 2, mode := if u.settle + 1 < 2 then .settling else .online
          refused := false } }) ∧
      (u.progress = none → u.mode = .committed → starts → s.seq.lawful →
        x.filter = { u with
          mode := .flushing, flushRequest := false, refused := false
          progress := some ⟨u.claimId.getD 0, m + BitVec.ofNat 16 s.cfg.transit, false⟩ } ∧
        x.seq = (s.seq.request ⟨.flush, some (s.cfg.fil.fraction * s.cfg.hall.w * 15625), 0, s.cfg.fil.pump, 0⟩).seq ∧
        { x with filter := u, seq := s.seq, reports := s.reports } = s) ∧
      (∀ id, u.progress = none → u.mode = .committed → ¬starts → ¬later → u.discharge ≠ none →
        u.claimId = some id →
        x.filter = { u with claimId := none, discharge := none, mode := .online, refused := false } ∧
        x.seq = s.seq ∧ Untouched s x ∧
        (s.trunk.queue = [] → s.trunk.line = .active → (∀ c, s.sync.status ≠ .excluded c) →
          ∃ f ∈ x.trunk.queue, f.body = .withdraw ⟨id⟩)) ∧
      (u.progress = none → u.mode ≠ .settling ∨ settling = false → u.mode ≠ .committed ∨ later →
        x = { s with filter := { u with refused := false } })) ∧
  (∀ s : State, Untouched s s.withdrawOrphanFlushes ∧
    (s.trunk.queue.length + (s.table.claims.filter (fun c => c.owner == s.own)).length ≤ 8 →
      s.trunk.line = .active → (∀ c, s.sync.status ≠ .excluded c) →
      ∀ c ∈ s.table.claims, c.owner = s.own → s.filter.claimId ≠ some c.id →
        (∀ p, s.filter.pending = some p → p.body.id ≠ c.id) →
        ∃ f ∈ s.withdrawOrphanFlushes.trunk.queue, f.body = .withdraw ⟨c.id⟩))

/-- A REVERSE that runs reaches its reversal time: it ends, the crusher is RUNNING and the recurrence interval
starts from zero. When the recurrence interval runs out, the attempts return to 0 and it is stopped. -/
def Obligations.ReverseAndRecurrence : Prop :=
  ∀ s : State, s.awake = true →
    (s.seq.runs .reverse = true →
      ∃ t : State, exec .reverseComplete s = .next (t.concluded s.seq) ∧ Untouched s.cleared t ∧
        t.crusher = { s.crusher with mode := .running, recurrence := some 0 } ∧
        t.seq = ({ s.seq with running := none } : SeqState).chooseNext.seq) ∧
    (s.crusher.recurrence ≠ none →
      exec .recurrenceIntervalExpiry s = .next { s.cleared with
        crusher := { s.crusher with attempts := 0, recurrence := none } })

/-- The filter's pump and pressure. A running FLUSH that is longer than the proving time and not yet proved reaches the
proving time (its elapsed time then that time: log 32): with channel 1 IN_BOUNDS the pump is proved, and otherwise
there is a pump fault; so there is where channel 1 enters ABOVE while a FLUSH runs, or BELOW once it is proved. A
pump fault ends the flush in FAULT: the short DONE is pending with the volume the elapsed time gives, no CLAIM
waits any more, a WITHDRAW is queued for every other own claim of the table and for one whose CLAIM waited, where there
is room, the short discharge counted and FLUSH_FAULT raised. Channel 0 moves
the band: to BYPASS on entering ABOVE, to the rising test's on leaving it, and otherwise up to the rising test's
or down by the hysteresis. Entering BYPASS opens the bypass, not cleaned; it closes once cleaned with the band
NORMAL; and a rise re-ranks a claim posted or CLAIMED whose rank is worse. -/
def Obligations.PumpProved : Prop :=
  let thresholds (s : State) (held : Band) (avg : Nat) : Band :=
    let p := s.cfg.fil
    let rising : Band := if p.urgentThreshold ≤ avg then .urgent else if p.flushThreshold ≤ avg then .flush else .normal
    if held = .bypass then .bypass
    else if held.order ≤ rising.order then rising
    else if held = .urgent ∧ p.urgentThreshold - p.hysteresis ≤ avg then .urgent
    else if p.flushThreshold - p.hysteresis ≤ avg then .flush
    else .normal
  let faulted (s t : State) (p : Flushing) (spent : Nat) : Prop :=
    let done : DoneBody :=
      ⟨p.id, BitVec.ofNat 8 (s.cfg.fil.flushVolume * spent / (s.cfg.fil.fraction * s.cfg.hall.w * 15625)), true,
        p.arrival, 7⟩
    t.filter.mode = .fault ∧ t.filter.progress = none ∧ t.filter.claimId = none ∧ t.filter.discharge = none ∧
    t.filter.flushRequest = false ∧ t.filter.band = s.filter.band ∧
    t.counters.shortDischarges = min (s.counters.shortDischarges + 1) 65535 ∧ t.port.flags.getLsbD 8 = true ∧
    t.seq = ({ s.seq with running := none } : SeqState).chooseNext.seq ∧
    (s.trunk.line = .active → (∀ c, s.sync.status ≠ .excluded c) →
      (∀ f ∈ t.trunk.queue, f.sent = none → f.body.kind ≠ .claim) ∧
      (s.trunk.queue.length < 8 →
        t.filter.pending = some ⟨done, false⟩ ∧ ∃ f ∈ t.trunk.queue, f.body = .done done) ∧
      (s.trunk.queue.length + (s.table.claims.filter (fun c => c.owner == s.own)).length < 8 →
        ∀ c ∈ s.table.claims, c.owner = s.own →
          c.id ≠ p.id ∨ (∃ f ∈ s.trunk.queue, f.sent = none ∧ ∃ k, f.body = .claim k ∧ k.id = c.id) →
          ∃ f ∈ t.trunk.queue, f.body = .withdraw ⟨c.id⟩))
  (∀ (s : State) (p : Flushing), s.awake = true → s.seq.runs .flush = true → s.provingTicks < s.flushTicks →
    s.flushElapsed ≤ s.provingTicks → s.filter.progress = some p → p.proved = false →
    let ran : SeqState := { s.seq with
      running := s.seq.running.map (fun (o : Op) => { o with elapsed := s.provingTicks }) }
    (s.channelIs 1 .inBounds = true →
      exec .pumpProving s = .next (({ s.cleared with
        seq := ran, filter := { s.filter with progress := some { p with proved := true } } } : State).concluded
          s.seq)) ∧
    (s.channelIs 1 .inBounds = false →
      ∃ t : State, exec .pumpProving s = .next (t.concluded s.seq) ∧
        faulted s t p (s.cfg.fil.proving * 50000) ∧ Untouched s.cleared t)) ∧
  (∀ (s : State) (conv : Conversions) (p : Flushing), s.awake = true → s.cfg.role = .filter →
    1 < s.measure.channels.length → (∀ c, s.measure.capture ≠ .pending c) →
    (∀ c v, s.measure.capture ≠ .filled c v) →
    let d := (s.channel 1).after (s.channelParams 1) (conversionAverage conv)
    let u : State := { s.cleared with measure := { s.measure with channels := s.measure.channels.set 1 d } }
    let faults := d.status ≠ (s.channel 1).status ∧ s.seq.runs .flush = true ∧
      (d.status = .above ∨ (d.status = .below ∧ p.proved = true))
    s.filter.progress = some p →
    (faults → ∃ t : State, exec (.channelAverage 1 conv) s = .next (t.concluded s.seq) ∧
      faulted s t p s.flushElapsed ∧ Untouched u t) ∧
    (¬faults → ∃ t : State, exec (.channelAverage 1 conv) s = .next (t.concluded s.seq) ∧
      { t with reports := [] } = u)) ∧
  (∀ (s : State) (conv : Conversions), s.awake = true → s.cfg.role = .filter → 0 < s.measure.channels.length →
    let avg := conversionAverage conv
    let d := (s.channel 0).after (s.channelParams 0) avg
    ∃ t : State, exec (.channelAverage 0 conv) s = .next t ∧
      t.filter.band = (
        if d.status = .above then (if (s.channel 0).status = .above then s.filter.band else .bypass)
        else if (s.channel 0).status = .above then thresholds s .normal avg
        else thresholds s s.filter.band avg)) ∧
  (∀ (s : State) (b : Band),
    let opening := b = .bypass ∧ s.filter.band ≠ .bypass
    let closing := b ≠ .bypass ∧ b ≠ s.filter.band ∧ s.filter.bypassOpen = true ∧ s.filter.cleaned = true ∧ b = .normal
    let x : State := { s with
      filter := { s.filter with
        band := b
        bypassOpen := if opening then true else if closing then false else s.filter.bypassOpen
        cleaned := if opening ∨ closing then false else s.filter.cleaned }
      port := if opening ∧ s.filter.bypassOpen = false then { s.port with flags := s.port.flags ||| 0x0080#16 }
        else s.port }
    s.setBand b =
      if s.filter.band.order < b.order then
        x.rerank (match b with | .normal => 0 | .flush => s.cfg.fil.baseRank | .urgent => 1 | .bypass => 0)
      else x) ∧
  (∀ (s : State) (rank : Nat),
    let again (id : Byte) : State := ({ s with filter := { s.filter with postedRank := rank } } : State).request
      (.claim ⟨id, 1, 7, BitVec.ofNat 8 s.cfg.fil.flushVolume, BitVec.ofNat 8 rank, false⟩) .role
    (∀ id, s.filter.mode = .online → s.filter.claimId = some id →
      s.rerank rank = if rank < s.filter.postedRank then again id else s) ∧
    (∀ id c, s.filter.mode = .claimed → s.filter.claimId = some id →
      s.table.claims.find? (fun c => c.owner == s.own && c.id == id) = some c →
      s.rerank rank = if rank < c.effective then again id else s) ∧
    (s.filter.claimId = none ∨ (s.filter.mode ≠ .online ∧ s.filter.mode ≠ .claimed) → s.rerank rank = s))

/-- At the start of a drive cycle the output levels take the shadow levels, and the stall timer runs exactly while the
drive the encoder watches is on; a level L is active for L of a cycle's 256 steps. What the sequencer runs, and what
it tells: an operation requested while none runs starts; one of a higher level than the running one suspends it on
the stack, whose bottom is abandoned when it holds 3; any other takes the deferred slot, or is refused where an
operation of its level or a higher one waits there. When none runs any more, the higher of stack top and deferred
request runs, the stack top on equal levels. A cancelled operation leaves wherever it is held. The shadow levels are
those of the running operation. SUSPENDED is told before ABANDONED (log 54), and the REFUSED of a request displaced
before the DEFERRED of the one that takes its slot (log 55). An owner's request does no more, unless it abandons an
operation, which a lawful sequencer never does. -/
def Obligations.DriveCycleStarts : Prop :=
  (∀ s : State, s.awake = true →
    let drive := match s.cfg.role with
      | .discharge => s.seq.shadow1
      | .filter => 0
      | .crusher => s.seq.shadow0
    exec .driveCycleStart s = .next { s.cleared with
      seq := { s.seq with out0 := s.seq.shadow0, out1 := s.seq.shadow1, phase := 0 }
      measure := { s.measure with
        stallTimer := if 0 < drive then some (s.measure.stallTimer.getD 0) else none } }) ∧
  (∀ level : Nat, level < 256 → activeSteps level = level) ∧
  (∀ o : Op, o.level = match o.kind with
    | .index | .feed => 1
    | .discharge | .flush => 2
    | .reverse => 3
    | .safeStop => 4) ∧
  (∀ (q : SeqState) (o : Op),
    let driven (running : Option Op) (stack : List Op) (deferred : Option Op) : SeqState := { q with
      running := running, stack := stack, deferred := deferred
      shadow0 := match running with | some r => r.drv0 | none => 0
      shadow1 := match running with | some r => r.drv1 | none => 0 }
    let told (x : Op) (r : OpReport) : Report := .op x.owner x.kind r x.elapsed
    (q.running = none → q.request o = ⟨driven (some o) q.stack q.deferred, [told o .started], none⟩) ∧
    (∀ r, q.running = some r → r.level < o.level →
      (q.stack.length < 3 → q.request o =
        ⟨driven (some o) (r :: q.stack) q.deferred, [told r .suspended, told o .started], none⟩) ∧
      (∀ x, 3 ≤ q.stack.length → q.stack.getLast? = some x → q.request o =
        ⟨driven (some o) (r :: q.stack.dropLast) q.deferred,
          [told r .suspended, told x .abandoned, told o .started], some x.kind⟩)) ∧
    (∀ r, q.running = some r → o.level ≤ r.level →
      (q.deferred = none → q.request o = ⟨{ q with deferred := some o }, [told o .deferred], none⟩) ∧
      (∀ d, q.deferred = some d →
        (d.level < o.level →
          q.request o = ⟨{ q with deferred := some o }, [told d .refused, told o .deferred], none⟩) ∧
        (o.level ≤ d.level → q.request o = ⟨q, [told o .refused], none⟩))) ∧
    (q.stack = [] → q.deferred = none → q.chooseNext.seq = driven none [] none) ∧
    (∀ x r, q.stack = x :: r → (∀ d, q.deferred = some d → d.level ≤ x.level) →
      q.chooseNext.seq = driven (some x) r q.deferred) ∧
    (∀ d, q.deferred = some d → (∀ x r, q.stack = x :: r → x.level < d.level) →
      q.chooseNext.seq = driven (some { d with elapsed := 0 }) q.stack none)) ∧
  (∀ (q : SeqState) (k : OpKind),
    let c := (q.cancel k).seq
    let stacked := ∃ o ∈ q.stack, o.kind = k
    (q.runs k = true → c = ({ q with running := none } : SeqState).chooseNext.seq) ∧
    (q.runs k = false → stacked → c = { q with stack := q.stack.filter (fun o => o.kind != k) }) ∧
    (q.runs k = false → ¬stacked → (∃ d, q.deferred = some d ∧ d.kind = k) → c = { q with deferred := none }) ∧
    (q.holdsOp k = false → c = q)) ∧
  (∀ (s : State) (o : Op),
    ((s.seq.request o).abandoned = none → s.requestOp o =
      { s with seq := (s.seq.request o).seq, reports := s.reports ++ (s.seq.request o).reports }) ∧
    (s.seq.lawful → (s.seq.request o).abandoned = none))

/-- An average of a channel completes (its rounding: log 31): it becomes the channel's last average, and the runs and
the state follow the table of R165 for an average above the high bound, below the low bound and not high, or inside;
the other channels stay. At a discharge station a capture that waited for it is taken: a sealed lot without volume
takes its own (clamped: log 24), or leaves where channel 0 is BELOW; an OPEN lot takes a running volume and is
sealed at its class maximum; one that has reached its age limit at its class minimum or more is sealed for AGE; and
one still OPEN asks for the next capture (sealed in BELT_FAULT too: log 51). CAPTURE_READY is told last (log 44).
Channel 1 entering ABOVE is a BELT_FAULT. At a crusher channel 0 entering ABOVE while it is RUNNING and feeds is a
jam, and channel 1 entering or leaving ABOVE sets the level of a FEED held. -/
def Obligations.AverageCompletes : Prop :=
  (∀ (s : State) (ch : Fin 4) (conv : Conversions), s.awake = true → ch.val < s.measure.channels.length →
    let avg := (conv.c0.toNat + conv.c1.toNat + conv.c2.toNat + conv.c3.toNat) / 4
    let p := s.channelParams ch
    let c := s.channel ch
    let high := p.high < avg
    let low := ¬high ∧ avg < p.low
    ∃ (t : State) (d : Channel), exec (.channelAverage ch conv) s = .next t ∧
      t.measure.channels = s.measure.channels.set ch.val d ∧ d.last = some avg ∧
      (c.status = .inBounds → high → if p.persistence ≤ c.highRun + 1
        then d.status = .above ∧ d.highRun = 0 ∧ d.lowRun = 0 ∧ d.returnRun = 0
        else d.status = .inBounds ∧ d.highRun = c.highRun + 1 ∧ d.lowRun = 0) ∧
      (c.status = .inBounds → low → if p.persistence ≤ c.lowRun + 1
        then d.status = .below ∧ d.highRun = 0 ∧ d.lowRun = 0 ∧ d.returnRun = 0
        else d.status = .inBounds ∧ d.lowRun = c.lowRun + 1 ∧ d.highRun = 0) ∧
      (c.status = .inBounds → ¬high → ¬low → d.status = .inBounds ∧ d.highRun = 0 ∧ d.lowRun = 0) ∧
      (c.status = .above ∧ high ∨ c.status = .below ∧ low → d.status = c.status ∧ d.returnRun = 0) ∧
      (c.status = .above ∧ ¬high ∨ c.status = .below ∧ ¬low → if p.persistence ≤ c.returnRun + 1
        then d.status = .inBounds ∧ d.highRun = 0 ∧ d.lowRun = 0 ∧ d.returnRun = 0
        else d.status = c.status ∧ d.returnRun = c.returnRun + 1) ∧
      t.table.claims = s.table.claims ∧ t.roster = s.roster ∧ t.hall = s.hall ∧ t.plan = s.plan) ∧
  (∀ (s : State) (ch : Fin 4) (conv : Conversions), s.awake = true → ch.val < s.measure.channels.length →
    (∀ x v, s.measure.capture ≠ .filled x v) →
    let avg := conversionAverage conv
    let c := s.channel ch
    let d := c.after (s.channelParams ch) avg
    let waited := s.measure.capture = .pending ch
    let u : State := { s.cleared with
      measure := { s.measure with
        channels := s.measure.channels.set ch.val d, capture := if waited then .empty else s.measure.capture }
      reports := (if d.status = c.status then [] else [.entered ch d.status]) ++ [.average ch avg d.status] ++
        (if waited then [.captureReady] else []) }
    let enters := d.status = .above ∧ c.status ≠ .above
    let leaves := c.status = .above ∧ d.status ≠ .above
    (s.cfg.role = .discharge → ch.val ≠ 1 ∨ ¬enters →
      exec (.channelAverage ch conv) s = .next ((if waited then u.takeCapture avg else u).concluded s.seq)) ∧
    (s.cfg.role = .discharge → ch.val = 1 → enters → ¬waited →
      ∃ t : State, exec (.channelAverage ch conv) s = .next (t.concluded s.seq) ∧ Untouched u t ∧
        t.discharge.beltFault = true ∧ (s.discharge.beltFault = true → t = u) ∧
        (s.discharge.beltFault = false → t.port.flags.getLsbD 6 = true ∧
          (s.discharge.lots ≠ [] → t.discharge.progress = none) ∧
          ∀ l ∈ t.discharge.lots, l.status = .discharging ∨ l.claimId = none)) ∧
    (s.cfg.role = .crusher → ¬waited →
      let jams := ch.val = 0 ∧ enters ∧ s.crusher.mode = .running ∧ s.seq.runs .feed = true
      let retunes := ch.val = 1 ∧ (enters ∨ leaves)
      let n := if s.crusher.recurrence.isSome then min (s.crusher.attempts + 1) 3 else 1
      let level := if d.status = .above then s.cfg.cru.reducedFeed else s.cfg.cru.feed
      let tune (o : Op) : Op := if o.kind = .feed then { o with drv0 := level } else o
      (jams → s.seq.lawful →
        ∃ t : State, exec (.channelAverage ch conv) s = .next (t.concluded s.seq) ∧ Untouched u t ∧
          t.crusher.attempts = n ∧ t.crusher.recurrence = none ∧
          (n < 3 → t.crusher.mode = .reversing ∧ t.seq.runs .reverse = true) ∧
          (3 ≤ n → t.crusher.mode = .jammed ∧ t.port.flags.getLsbD 9 = true)) ∧
      (retunes → exec (.channelAverage ch conv) s = .next (({ u with seq := { s.seq with
        running := s.seq.running.map tune, stack := s.seq.stack.map tune, deferred := s.seq.deferred.map tune
        shadow0 := match s.seq.running with | some o => (tune o).drv0 | none => 0
        shadow1 := match s.seq.running with | some o => o.drv1 | none => 0 } } : State).concluded s.seq)) ∧
      (¬jams → ¬retunes → exec (.channelAverage ch conv) s = .next (u.concluded s.seq)))) ∧
  (∀ (s : State) (avg : Nat),
    let volume (l : Lot) : Nat :=
      max 1 (min 255 ((avg * s.cfg.dis.factors.getD (l.cls - 1) 0 + 255) / 256))
    let bounds (l : Lot) : Bounds := s.cfg.hall.bounds.getD (l.cls - 1) ⟨0, 0⟩
    let unweighed (l : Lot) : Bool := l.status == .sealed && l.volume.isNone
    let x : State := { s with discharge := { s.discharge with lots := s.discharge.lots.map (fun l =>
      if l.status ≠ .opened then l
      else if (bounds l).max ≤ volume l then
        { l with status := .sealed, sealReason := some .volumeBound, running := none
                 volume := some (bounds l).max, undersize := false }
      else { l with running := some (volume l) }) } }
    let y : State := if ∃ l ∈ x.discharge.lots, l.status = .opened ∧ s.cfg.dis.ageLimit ≤ l.age ∧
      (bounds l).min ≤ l.running.getD 0 ∧ l.running ≠ none then x.sealOpen .age else x
    let waits := ∃ l ∈ s.discharge.lots, unweighed l = true
    (waits → s.channelIs 0 .below = true → s.takeCapture avg =
      { s with discharge := { s.discharge with lots := s.discharge.lots.filter (fun l => !unweighed l) } }) ∧
    (waits → s.channelIs 0 .below = false → s.takeCapture avg =
      { s with discharge := { s.discharge with lots := s.discharge.lots.map (fun l =>
        if unweighed l then
          let v := min (volume l) (bounds l).max
          { l with volume := some v, undersize := decide (v < (bounds l).min) }
        else l) } }) ∧
    (¬waits → (∃ l ∈ s.discharge.lots, l.status = .opened) → s.takeCapture avg =
      if ∃ l ∈ y.discharge.lots, l.status = .opened then y.requestCapture 0 else y) ∧
    (¬waits → (∀ l ∈ s.discharge.lots, l.status ≠ .opened) → s.takeCapture avg = s))

/-- The supply monitor judges an average of four conversions, their sum divided by 4 and rounded down (the rounding:
log 31), which stands for its value times 30 over 4096 volts: below the threshold a
NORMAL supply becomes LOW, with SUPPLY_LOW raised and SAFE_STOP running; a LOW one takes two averages in a row at
or above the threshold plus 0.5 V to be NORMAL, its SAFE_STOP then ended, and one below puts the return run to 0. As
the supply goes LOW a discharge in progress ends short, its lot the remainder at the head, counted, flagged and with
its DONE; every other lot posted, CLAIMED or COMMITTED is SEALED without its claim; each such claim, and each own
claim of the table that no lot and no pending DONE names, is withdrawn where the queue has room, a CLAIM of it that
waits cancelled (R127; a pending DONE: log 46). At a filter a flush ends short with its DONE, and the claim, posted,
CLAIMED or COMMITTED, is withdrawn, both into ONLINE, SETTLING and FAULT kept (R144; own claims that the filter does
not hold stay: log 52). A crusher's unit is as before (R162). -/
def Obligations.SupplyJudged : Prop :=
  ∀ (s : State) (conv : Conversions), s.awake = true →
    let avg := (conv.c0.toNat + conv.c1.toNat + conv.c2.toNat + conv.c3.toNat) / 4
    let below (halfVolts : Nat) := avg * 60 < halfVolts * 4096
    (s.mode.supply = .normal → below s.cfg.supplyThreshold →
      ∃ t : State, exec (.vfsAverage conv) s = .next (t.concluded s.seq) ∧
        t.mode = { s.mode with supply := .low, returnRun := 0 } ∧ t.port.flags.getLsbD 13 = true ∧
        (s.seq.runs .safeStop = false → t.seq.runs .safeStop = true) ∧
        Untouched { s with mode := t.mode } t ∧
        (let halted := (s.seq.request ⟨.safeStop, none, 0, 0, 0⟩).seq
        let mine (id : Byte) : Bool := s.table.claims.any (fun c => c.owner == s.own && c.id == id)
        let room := s.trunk.queue.length + s.discharge.lots.length +
          (s.table.claims.filter (fun c => c.owner == s.own)).length < 7
        let heard := s.trunk.line = .active ∧ ∀ c, s.sync.status ≠ .excluded c
        (s.cfg.role = .discharge → s.discharge.lots ≠ [] → t.discharge.progress = none) ∧
        (s.cfg.role = .filter → t.filter.progress = none) ∧
        (s.seq.stack.length < 3 → s.cfg.role = .crusher →
          t.seq = halted ∧ t.crusher = s.crusher ∧ t.trunk = s.trunk) ∧
        (s.seq.stack.length < 3 → s.cfg.role = .discharge →
          let back (l : Lot) : Lot := if l.claimId = none ∨ l.status = .discharging then l
            else { l with status := .sealed, claimId := none, discharge := none }
          (∀ l ∈ t.discharge.lots, l.claimId = none ∨ l.status = .discharging) ∧
          (s.discharge.progress = none → t.seq = halted ∧
            (room → t.discharge = { s.discharge with lots := s.discharge.lots.map back })) ∧
          (∀ p l k, s.discharge.progress = some p → s.discharge.lots = l :: k →
            let d := l.volume.getD 0 * p.travel / l.length.getD 1
            let w := l.volume.getD 0 - d
            let done : DoneBody := ⟨p.id, BitVec.ofNat 8 d, true, p.arrival, BitVec.ofNat 8 l.cls⟩
            t.discharge.progress = none ∧ t.seq = (halted.cancel .discharge).seq ∧ t.port.flags.getLsbD 5 = true ∧
            t.counters.shortDischarges = min (s.counters.shortDischarges + 1) 65535 ∧
            (room → heard → t.discharge = { s.discharge with
                progress := none, pending := s.discharge.pending ++ [⟨done, false⟩]
                lots := { l with
                  status := .sealed, claimId := none, discharge := none, remainder := true, volume := some w
                  length := some (l.length.getD 1 - p.travel)
                  undersize := decide (w < (s.boundsOf l.cls).min) } :: k.map back } ∧
              ∃ f ∈ t.trunk.queue, f.body = .done done)) ∧
          (∀ id, room → heard →
            mine id = true ∨ (∃ l ∈ (if s.discharge.progress = none then s.discharge.lots else s.discharge.lots.tail),
              l.claimId = some id ∧ l.status ≠ .discharging) →
            (∀ p ∈ s.discharge.pending, p.body.id ≠ id) →
            (∀ p, s.discharge.progress = some p → s.discharge.lots ≠ [] → p.id ≠ id) →
            (∀ l ∈ s.discharge.lots, l.claimId = some id → l.status ≠ .discharging) →
            (∀ f ∈ t.trunk.queue, f.waitingClaim id = false) ∧
            (mine id = true ∨ (∀ f ∈ s.trunk.queue, f.waitingClaim id = false) →
              ∃ f ∈ t.trunk.queue, f.body = .withdraw ⟨id⟩))) ∧
        (s.seq.stack.length < 3 → s.cfg.role = .filter →
          (s.filter.progress = none → t.seq = halted ∧
            (s.filter.claimId = none → t.filter = s.filter ∧ t.trunk = s.trunk) ∧
            (∀ id, s.filter.claimId = some id → s.filter.mode ≠ .flushing →
              t.filter = { s.filter with mode := .online, claimId := none, discharge := none } ∧
              (s.trunk.queue.length < 8 → heard → (∀ f ∈ t.trunk.queue, f.waitingClaim id = false) ∧
                (mine id = true ∨ (∀ f ∈ s.trunk.queue, f.waitingClaim id = false) →
                  ∃ f ∈ t.trunk.queue, f.body = .withdraw ⟨id⟩)))) ∧
          (∀ p, s.filter.progress = some p →
            let spent := match (s.seq.running.toList ++ s.seq.stack).find? (fun o => o.kind == .flush) with
              | some o => o.elapsed
              | none => 0
            let done : DoneBody := ⟨p.id, BitVec.ofNat 8
              (s.cfg.fil.flushVolume * spent / (s.cfg.fil.fraction * s.cfg.hall.w * 15625)), true, p.arrival, 7⟩
            t.seq = (halted.cancel .flush).seq ∧
            t.counters.shortDischarges = min (s.counters.shortDischarges + 1) 65535 ∧
            { t.filter with pending := s.filter.pending } = { s.filter with
              mode := .online, progress := none, claimId := none, discharge := none } ∧
            (s.trunk.queue.length < 8 → heard →
              t.filter.pending = some ⟨done, false⟩ ∧ ∃ f ∈ t.trunk.queue, f.body = .done done))))) ∧
    (s.mode.supply = .normal → ¬below s.cfg.supplyThreshold →
      exec (.vfsAverage conv) s = .next (s.cleared.concluded s.seq)) ∧
    (s.mode.supply = .low → below (s.cfg.supplyThreshold + 1) →
      exec (.vfsAverage conv) s = .next
        (({ s.cleared with mode := { s.mode with returnRun := 0 } } : State).concluded s.seq)) ∧
    (s.mode.supply = .low → ¬below (s.cfg.supplyThreshold + 1) → s.mode.returnRun = 0 →
      exec (.vfsAverage conv) s = .next
        (({ s.cleared with mode := { s.mode with returnRun := 1 } } : State).concluded s.seq)) ∧
    (s.mode.supply = .low → ¬below (s.cfg.supplyThreshold + 1) → 1 ≤ s.mode.returnRun →
      ∃ t : State, exec (.vfsAverage conv) s = .next (t.concluded s.seq) ∧ t.mode.supply = .normal ∧
        t.seq = (if s.seq.runs .safeStop then ({ s.seq with running := none } : SeqState).chooseNext.seq
                 else s.seq) ∧
        { t with mode := s.mode, seq := s.seq, reports := [] } = s.cleared)

/-- An encoder edge: a filter station reads none; short of the prescaler's value the prescaler moves on; at it the
travel counter rises by one and the stall timer starts again, and a discharge station counts the travel: to the skip
lot while an INDEX runs, and to the discharge in progress while a DISCHARGE runs, which completes when the travel
reaches the head lot's length, with the full DONE requested and the lot gone. At a MARK carrying m a discharge in
progress ends short, whatever m is (one that repeats the number: log 24): its DISCHARGE cancelled, the short DONE
requested, the head lot SEALED as the remainder, counted and flagged. The head lot, COMMITTED to window m and on the
track, starts when the station is SYNCED, in RUN or QUIET, with the supply NORMAL, no stop, no BELT_FAULT and fewer
than 6 pending DONEs; every other lot COMMITTED to m or earlier is withdrawn; the ages rise and the refused marks
are cleared after that (log 39); the age test (R113; in BELT_FAULT too: log 51) and a WITHDRAW for each own claim
that no lot and no pending DONE names (R131) follow. -/
def Obligations.EncoderEdgeCounted : Prop :=
  (∀ s : State, s.awake = true →
    let u : State := { s.cleared with
      measure := { s.measure with
        prescale := 0, travel := s.measure.travel + 1, stallTimer := s.measure.stallTimer.map (fun _ => 0) }
      reports := [.travel] }
    (s.cfg.role = .filter → exec .encoderEdge s = .next (s.cleared.concluded s.seq)) ∧
    (s.cfg.role ≠ .filter → s.measure.prescale + 1 < s.cfg.prescaler →
      exec .encoderEdge s = .next (({ s.cleared with
        measure := { s.measure with prescale := s.measure.prescale + 1 } } : State).concluded s.seq)) ∧
    (s.cfg.role = .crusher → s.cfg.prescaler ≤ s.measure.prescale + 1 →
      exec .encoderEdge s = .next (u.concluded s.seq)) ∧
    (s.cfg.role = .discharge → s.cfg.prescaler ≤ s.measure.prescale + 1 →
      (s.seq.runs .index = false → s.seq.runs .discharge = false →
        exec .encoderEdge s = .next (u.concluded s.seq)) ∧
      (s.seq.runs .index = true →
        exec .encoderEdge s = .next (({ u with discharge := { s.discharge with
          lots := s.discharge.lots.map (fun l =>
            if l.onTrack = true ∨ l.status = .opened then l else { l with travel := l.travel + 1 }) } } :
              State).concluded s.seq)) ∧
      (∀ p l r, s.seq.runs .discharge = true → s.discharge.progress = some p → s.discharge.lots = l :: r →
        (p.travel + 1 < l.length.getD 1 →
          exec .encoderEdge s = .next (({ u with discharge := { s.discharge with
            progress := some { p with travel := p.travel + 1 } } } : State).concluded s.seq)) ∧
        (l.length.getD 1 ≤ p.travel + 1 →
          ∃ x : State, exec .encoderEdge s = .next ((x.requestDone
              ⟨p.id, BitVec.ofNat 8 (l.volume.getD 0), false, p.arrival, BitVec.ofNat 8 l.cls⟩).concluded s.seq) ∧
            x.discharge = { s.discharge with progress := none, lots := r } ∧
            x.seq = ({ s.seq with running := none } : SeqState).chooseNext.seq ∧
            { x with discharge := s.discharge, seq := s.seq, reports := u.reports } = { u with seq := s.seq })))) ∧
  (∀ (s : State) (m : Window), s.cfg.role = .discharge →
    let older (l : Lot) : Nat := min (l.age + 1) 255
    let starts (l : Lot) : Prop := l.status = .committed ∧ l.onTrack = true ∧ l.discharge = some m ∧
      s.sync.status = .synced ∧ s.hall.stops = [] ∧ s.mode.supply = .normal ∧
      (s.mode.mode = .run ∨ s.mode.mode = .quiet) ∧ s.discharge.beltFault = false ∧ s.discharge.pending.length < 6
    ∃ x : State, s.markDischarge m = x.sealAged.withdrawOrphanLots ∧ Untouched s x ∧
      (∀ l ∈ x.discharge.lots, l.refused = false) ∧
      x.discharge.lots.map (fun l => l.age) = s.discharge.lots.map older ∧
      ((∀ l ∈ s.discharge.lots, l.status = .committed → l.claimId ≠ none) →
        ∀ l ∈ x.discharge.lots, ∀ w, l.status = .committed → l.discharge = some w →
          1 ≤ (w - m).toNat ∧ (w - m).toNat ≤ 255) ∧
      (∀ p l r, s.discharge.progress = some p → s.discharge.lots = l :: r →
        let d := l.volume.getD 0 * p.travel / l.length.getD 1
        let v := l.volume.getD 0 - d
        let done : DoneBody := ⟨p.id, BitVec.ofNat 8 d, true, p.arrival, BitVec.ofNat 8 l.cls⟩
        x.discharge.progress = none ∧ x.seq = (s.seq.cancel .discharge).seq ∧
        x.counters.shortDischarges = min (s.counters.shortDischarges + 1) 65535 ∧
        x.port.flags.getLsbD 5 = true ∧
        (∃ k, x.discharge.lots = { l with
          status := .sealed, claimId := none, discharge := none, remainder := true, volume := some v
          length := some (l.length.getD 1 - p.travel), undersize := decide (v < (s.boundsOf l.cls).min)
          refused := false, age := older l } :: k) ∧
        (s.trunk.queue.length < 8 → s.trunk.line = .active → (∀ c, s.sync.status ≠ .excluded c) →
          ⟨done, false⟩ ∈ x.discharge.pending ∧ ∃ f ∈ x.trunk.queue, f.body = .done done)) ∧
      (∀ l r, s.discharge.progress = none → s.discharge.lots = l :: r → starts l → s.seq.lawful →
        x.discharge.progress = some ⟨l.number, l.claimId.getD 0, m + BitVec.ofNat 16 s.cfg.transit, 0⟩ ∧
        x.seq = (s.seq.request ⟨.discharge, none, 0, 0, s.cfg.dis.dischargeTrack⟩).seq ∧
        ∃ k, x.discharge.lots = { l with status := .discharging, refused := false, age := older l } :: k) ∧
      (s.discharge.progress = none → (∀ l r, s.discharge.lots = l :: r → ¬starts l) →
        x.discharge.progress = none ∧ x.seq = s.seq)) ∧
  (∀ s : State,
    let due := ∃ l ∈ s.discharge.lots, l.status = .opened ∧ s.cfg.dis.ageLimit ≤ l.age ∧
      ∃ v, l.running = some v ∧ (s.cfg.hall.bounds.getD (l.cls - 1) ⟨0, 0⟩).min ≤ v
    (due → s.sealAged = s.sealOpen .age) ∧ (¬due → s.sealAged = s)) ∧
  (∀ s : State, Untouched s s.withdrawOrphanLots ∧
    (s.trunk.queue.length + (s.table.claims.filter (fun c => c.owner == s.own)).length ≤ 8 →
      s.trunk.line = .active → (∀ c, s.sync.status ≠ .excluded c) →
      ∀ c ∈ s.table.claims, c.owner = s.own → (∀ l ∈ s.discharge.lots, l.claimId ≠ some c.id) →
        (∀ p ∈ s.discharge.pending, p.body.id ≠ c.id) →
        ∃ f ∈ s.withdrawOrphanLots.trunk.queue, f.body = .withdraw ⟨c.id⟩))

/-- The stall timer runs out: it starts again. At a discharge station with an INDEX or DISCHARGE running and no fault
in force the unit enters BELT_FAULT: flagged, no discharge in progress, no lot but a discharging one with a claim.
At a crusher that is RUNNING and feeding a jam is found: it reverses on the first two attempts and is JAMMED on
the third. Otherwise nothing more. -/
def Obligations.StallJudged : Prop :=
  ∀ s : State, s.awake = true → s.measure.stallTimer ≠ none →
    let u : State := { s.cleared with measure := { s.measure with stallTimer := some 0 }, reports := [.stall] }
    (s.cfg.role = .discharge → s.seq.runs .index = true ∨ s.seq.runs .discharge = true →
      s.discharge.beltFault = false →
      ∃ t : State, exec .stall s = .next (t.concluded s.seq) ∧ Untouched u t ∧ t.discharge.beltFault = true ∧
        t.port.flags.getLsbD 6 = true ∧ (s.discharge.lots ≠ [] → t.discharge.progress = none) ∧
        ∀ l ∈ t.discharge.lots, l.status = .discharging ∨ l.claimId = none) ∧
    (s.cfg.role = .crusher → s.crusher.mode = .running → s.seq.runs .feed = true → s.seq.lawful →
      let n := if s.crusher.recurrence.isSome then min (s.crusher.attempts + 1) 3 else 1
      ∃ t : State, exec .stall s = .next (t.concluded s.seq) ∧ Untouched u t ∧ t.crusher.attempts = n ∧
        t.crusher.recurrence = none ∧
        (n < 3 → t.crusher.mode = .reversing ∧ t.seq.runs .reverse = true) ∧
        (3 ≤ n → t.crusher.mode = .jammed ∧ t.port.flags.getLsbD 9 = true)) ∧
    (s.cfg.role = .filter ∨
        (s.cfg.role = .discharge ∧ (s.discharge.beltFault = true ∨
          (s.seq.runs .index = false ∧ s.seq.runs .discharge = false))) ∨
        (s.cfg.role = .crusher ∧ (s.crusher.mode ≠ .running ∨ s.seq.runs .feed = false)) →
      exec .stall s = .next (u.concluded s.seq))

/-! ## Field lines, the start and the shift -/

/-- At an awake discharge station a LOT_END strobe, and a class code that differs from the one standing, seal the OPEN
lot with their reason (in BELT_FAULT too: log 51), its running volume gone, and a capture of channel 0 is requested,
which an EMPTY slot accepts and any other answers BUSY; with no lot OPEN they change no lot. At an awake crusher a
BIN_SWAP of bin 1 to 7 empties the bin, clears its hold and asks for a GATE where the station may send one.
Elsewhere only the class code is taken, in a sleeping station too (the model's choice: log 8). -/
def Obligations.FieldStrobes : Prop :=
  (∀ s : State,
    let cut (why : SealReason) (x : State) : State :=
      if ∃ l ∈ x.discharge.lots, l.status = .opened then
        { x with
          discharge := { x.discharge with lots := x.discharge.lots.map (fun l =>
            if l.status = .opened then { l with status := .sealed, sealReason := some why, running := none } else l) }
          measure := { x.measure with
            capture := if x.measure.capture = .empty then .pending 0 else x.measure.capture }
          reports := x.reports ++ [if x.measure.capture = .empty then .captureAccepted else .captureBusy] }
      else x
    (∀ why, s.sealOpen why = cut why s) ∧
    (s.awake = true → s.cfg.role = .discharge →
      exec .lotEnd s = .next ((cut .lotEnd s.cleared).concluded s.seq) ∧
      ∀ code, exec (.classCodeChange code) s = .next
        ((if s.pins.classCode = code then s.cleared
          else cut .classChange { s.cleared with pins := { s.pins with classCode := code } }).concluded s.seq)) ∧
    (s.inReset = false → s.awake = false ∨ s.cfg.role ≠ .discharge →
      exec .lotEnd s = .next (s.cleared.concluded s.seq) ∧
      ∀ code, exec (.classCodeChange code) s = .next
        (({ s.cleared with pins := { s.pins with classCode := code } } : State).concluded s.seq)) ∧
    (s.awake = true → s.cfg.role = .crusher → ∀ bin : BitVec 3, 1 ≤ bin.toNat →
      let x : State := { s.cleared with crusher := { s.crusher with
        fills := s.crusher.fills.set (bin.toNat - 1) 0
        holds := s.crusher.holds &&& ~~~(BitVec.twoPow 7 (bin.toNat - 1)) } }
      exec (.binSwap bin) s = .next ((if s.trunk.line = .active ∧
          (s.sync.status = .syncing ∨ s.sync.status = .synced ∨ s.sync.status = .diverged)
        then x.request .gate .role true else x).concluded s.seq)) ∧
    (s.inReset = false → exec (.binSwap 0) s = .next (s.cleared.concluded s.seq)) ∧
    (∀ bin, s.inReset = false → s.awake = false ∨ s.cfg.role ≠ .crusher →
      exec (.binSwap bin) s = .next (s.cleared.concluded s.seq))) ∧
  (∀ (s : State) (ch : Fin 4),
    (s.measure.capture = .empty → s.requestCapture ch = { s with
      measure := { s.measure with capture := .pending ch }, reports := s.reports ++ [.captureAccepted] }) ∧
    (s.measure.capture ≠ .empty → s.requestCapture ch = { s with reports := s.reports ++ [.captureBusy] }))

/-- JAM_CLEAR at an awake crusher, and CLEAR FAULT at every role. A RUNNING crusher forgets its attempts by JAM_CLEAR
and refuses CLEAR FAULT; a JAMMED or REVERSING one is RUNNING with no attempts and no interval, its REVERSE
cancelled. CLEAR FAULT ends a BELT_FAULT unless channel 1 is ABOVE, and a filter's FAULT, and is refused with
REFUSED_STATE where there is none. -/
def Obligations.FaultsCleared : Prop :=
  ∀ s : State, s.awake = true →
    let calm : CrusherState := { s.crusher with mode := .running, attempts := 0, recurrence := none }
    let refused : Prop :=
      exec .clearFault s = .next ((s.cleared.transact 0 [] .refusedState).concluded s.seq)
    (s.cfg.role = .crusher →
      (s.crusher.mode = .running →
        exec .jamClear s = .next (({ s.cleared with crusher := calm } : State).concluded s.seq) ∧ refused) ∧
      (s.crusher.mode ≠ .running →
        ∃ t : State, exec .jamClear s = .next (t.concluded s.seq) ∧
          exec .clearFault s = .next ((t.transact 0 [] .ok).concluded s.seq) ∧
          Untouched s.cleared t ∧ t.crusher = calm ∧
          t.seq = (if s.crusher.mode = .reversing then (s.seq.cancel .reverse).seq else s.seq))) ∧
    (s.cfg.role ≠ .crusher → exec .jamClear s = .next (s.cleared.concluded s.seq)) ∧
    (s.cfg.role = .discharge →
      (s.discharge.beltFault = true → s.channelIs 1 .above = false →
        exec .clearFault s = .next ((({ s.cleared with
          discharge := { s.discharge with beltFault := false } } : State).transact 0 [] .ok).concluded s.seq)) ∧
      (s.discharge.beltFault = false ∨ s.channelIs 1 .above = true → refused)) ∧
    (s.cfg.role = .filter →
      (s.filter.mode = .fault →
        exec .clearFault s = .next ((({ s.cleared with
          filter := { s.filter with mode := .online } } : State).transact 0 [] .ok).concluded s.seq)) ∧
      (s.filter.mode ≠ .fault → refused))

/-- A change of SHIFT: out of RUN it makes the mode QUIET with no quiet windows, a discharge station's OPEN lot sealed
(in BELT_FAULT too: log 51); in QUIET it makes the mode RUN and clears the leave request; active in LEAVING it wakes
the station, at once where the leaving HELLO waits and by the wake mark where it is in flight; active in DORMANT it
starts the station, the changes that makes reported; and otherwise only the level is taken. -/
def Obligations.ShiftChanged : Prop :=
  ∀ s : State, s.inReset = false →
    let u (active : Bool) : State := { s.cleared with pins := { s.pins with shift := active } }
    let flying := ∃ f ∈ s.trunk.queue, f.leavingHello = true ∧ f.sent.isSome = true
    (s.mode.mode = .run →
      exec (.shiftChange true) s = .next ((u true).concluded s.seq) ∧
      ∃ t : State, exec (.shiftChange false) s = .next (t.concluded s.seq) ∧
        t.mode = { s.mode with mode := .quiet, quietWindows := 0 } ∧ Untouched (u false) { t with mode := s.mode } ∧
        (s.cfg.role = .discharge → t.discharge.lots = s.discharge.lots.map (fun l =>
          if l.status = .opened then { l with status := .sealed, sealReason := some .shift, running := none } else l)) ∧
        (s.cfg.role ≠ .discharge → t.discharge = s.discharge)) ∧
    (s.mode.mode = .quiet →
      exec (.shiftChange false) s = .next ((u false).concluded s.seq) ∧
      ∃ t : State, exec (.shiftChange true) s = .next (t.concluded s.seq) ∧
        t.mode = { s.mode with mode := .run, leaveRequest := false } ∧
        { t with mode := s.mode, reports := [] } = u true) ∧
    (s.mode.mode = .leaving →
      exec (.shiftChange false) s = .next ((u false).concluded s.seq) ∧
      ∃ t : State, exec (.shiftChange true) s = .next (t.concluded s.seq) ∧
        (flying → t.mode = { s.mode with wakeMark := true }) ∧
        (¬flying → t.mode = { s.mode with
          mode := .run, quietWindows := 0, leaveRequest := false, wakeMark := false } ∧
          t.trunk.queue = s.trunk.queue.filter (fun f => !f.leavingHello))) ∧
    (s.mode.mode = .dormant →
      exec (.shiftChange false) s = .next ((u false).concluded s.seq) ∧
      exec (.shiftChange true) s = .next { State.fresh .wake ⟨s.pins.classCode, true⟩ s.pending with
        reports := .modeChanged .startHold :: (if s.mode.supply = .normal then [] else [.supplyNormal]) ++
          if s.sync.status = .listening then [] else [.syncChanged .listening] }) ∧
    (s.mode.mode = .startHold → ∀ active, exec (.shiftChange active) s = .next ((u active).concluded s.seq))

/-- A crystal check in START_HOLD with the configuration GOOD and the clock not yet QUALIFIED: a count within 1 % of
80,000 raises the clock run, which at 4 qualifies the clock, starts the listening timer and gives the mode by SHIFT
(the level last held for 20 ms: log 57); any other count sets the run to 0 and the condition to CLOCK_FAULT, flagged
on its entry. -/
def Obligations.ClockChecked : Prop :=
  ∀ (s : State) (count : Nat), s.inReset = false → s.mode.mode = .startHold → s.mode.config = .good →
    s.mode.clock ≠ .qualified →
    let passes := 79200 ≤ count ∧ count ≤ 80800
    (passes → s.mode.clockRun + 1 < 4 →
      exec (.clockCheck count) s = .next
        (({ s.cleared with mode := { s.mode with clockRun := s.mode.clockRun + 1 } } : State).concluded s.seq)) ∧
    (passes → 4 ≤ s.mode.clockRun + 1 →
      ∃ t : State, exec (.clockCheck count) s = .next (t.concluded s.seq) ∧
        t.mode = { s.mode with
          clockRun := s.mode.clockRun + 1, clock := .qualified, mode := if s.pins.shift then .run else .quiet } ∧
        t.sync = { s.sync with listenTimer := some 0 } ∧
        { t with mode := s.mode, sync := s.sync, reports := [] } = s.cleared) ∧
    (¬passes →
      exec (.clockCheck count) s = .next (({ s.cleared with
        mode := { s.mode with clockRun := 0, clock := .fault }
        port := { s.port with
          flags := if s.mode.clock = .fault then s.port.flags else s.port.flags ||| 0x8000#16 } } :
            State).concluded s.seq))

/-- The configuration read of a start ends: a good image makes the configuration GOOD, with its fields and the
roster's own entry (made here: log 4); a failed read, an image of another length or with a wrong check word, and one
with a field out of range make it CONFIG_FAULT, flagged. An image of 128 bytes with its check word is good exactly
when every field of the hall section, of the common part and of the configured role's part lies in its range, and
each field of the configuration is that of its bytes, the prescaler and the stall time at a filter too (log 59), a
two-byte field high byte first (log 58). -/
def Obligations.ConfigLoaded : Prop :=
  (∀ (s : State) (image : Option (List Byte)), s.inReset = false → s.mode.mode = .startHold →
    s.mode.config = .loading →
    let bad : Prop := exec (.configLoad image) s = .next (({ s.cleared with
      mode := { s.mode with config := .fault }
      port := { s.port with flags := s.port.flags ||| 0x4000#16 } } : State).concluded s.seq)
    (∀ l c, image = some l → configOf l = some c →
      exec (.configLoad image) s = .next (({ s.cleared with
        cfg := c, mode := { s.mode with config := .good }
        roster := [⟨c.address, c.role, c.transit, c.ceiling, true, .present, 0, false⟩] } : State).concluded s.seq)) ∧
    (image = none → bad) ∧
    (∀ l, image = some l → configOf l = none → bad) ∧
    (∀ l, image = some l → l.length ≠ 128 ∨ imageHalf l 126 ≠ (crc16 (l.take 126)).toNat → bad)) ∧
  (∀ l : List Byte,
    let n (i : Nat) : Nat := (l.getD i 0).toNat
    let nn (i : Nat) : Nat := n i * 256 + n (i + 1)
    let within (low i high : Nat) : Prop := low ≤ n i ∧ n i ≤ high
    let wide (low i high : Nat) : Prop := low ≤ nn i ∧ nn i ≤ high
    let dis : DischargeParams :=
      ⟨n 55, n 56, [nn 57, nn 59, nn 61, nn 63, nn 65, nn 67], n 69, n 70, n 71, n 72⟩
    let fil : FilterParams := ⟨n 55, n 56, nn 57, nn 59, n 61, n 62, n 63, n 64⟩
    let cru : CrusherParams := ⟨[nn 55, nn 57, nn 59, nn 61, nn 63, nn 65, nn 67],
      [nn 69, nn 71, nn 73, nn 75, nn 77, nn 79, nn 81], nn 83, n 85, n 86, n 87, n 88, n 89⟩
    let channel (i : Nat) : ChannelParams := ⟨n i, nn (i + 1), nn (i + 3), n (i + 5)⟩
    let good : Prop :=
      l.length = 128 ∧ nn 126 = (crc16 (l.take 126)).toNat ∧
      n 0 ≤ 2 ∧ within 4 1 60 ∧ wide 16 2 1023 ∧ within 1 4 4 ∧ within 1 5 15 ∧
      (∀ k < 7, 1 ≤ n (6 + 2 * k) ∧ n (6 + 2 * k) ≤ n (7 + 2 * k)) ∧
      n 20 ≤ 31 ∧ within 1 21 3 ∧ n 22 ≤ 7 ∧ n 23 ≤ 7 ∧ n 26 ≤ 1 ∧ 1 ≤ n 27 ∧ n 28 ≤ 3 ∧
      (∀ k < 4, within 1 (29 + 6 * k) 16 ∧ nn (30 + 6 * k) ≤ 4095 ∧ nn (32 + 6 * k) ≤ 4095 ∧
        within 1 (34 + 6 * k) 15) ∧
      n 53 ≤ 7 ∧ within 1 54 50 ∧
      (n 21 = 1 → n 55 ≤ 7 ∧ 1 ≤ n 56 ∧ (∀ k < 6, wide 1 (57 + 2 * k) 1023) ∧ within 5 69 100) ∧
      (n 21 = 2 → n 55 ≤ 7 ∧ 1 ≤ n 56 ∧ nn 57 ≤ 4095 ∧ nn 59 ≤ 4095 ∧ within 1 62 16 ∧ within 1 64 50) ∧
      (n 21 = 3 → (∀ k < 7, 1 ≤ nn (55 + 2 * k) ∧ wide 1 (69 + 2 * k) (nn (55 + 2 * k))) ∧ wide 1 83 4095 ∧
        1 ≤ n 85 ∧ within 5 86 100)
    (good ↔ configOf l ≠ none) ∧
    ∀ c, configOf l = some c →
      c.hall = ⟨n 0, n 1, nn 2, n 4, n 5,
        [⟨n 6, n 7⟩, ⟨n 8, n 9⟩, ⟨n 10, n 11⟩, ⟨n 12, n 13⟩, ⟨n 14, n 15⟩, ⟨n 16, n 17⟩, ⟨n 18, n 19⟩],
        crc16 (l.take 20)⟩ ∧
      c.address.val = n 20 ∧ c.transit = n 22 ∧ c.ceiling = n 23 ∧ c.mask.toNat = nn 24 ∧
      c.dormancy = decide (n 26 = 1) ∧ c.dormantDelay = n 27 ∧ c.supplyThreshold = 34 + 3 * n 28 ∧
      c.channels = [channel 29, channel 35, channel 41, channel 47] ∧ c.prescaler = 2 ^ n 53 ∧ c.stallTime = n 54 ∧
      (n 21 = 1 → c.role = .discharge ∧ c.dis = dis) ∧ (n 21 = 2 → c.role = .filter ∧ c.fil = fil) ∧
      (n 21 = 3 → c.role = .crusher ∧ c.cru = cru))

/-- Every start: by a port RESET, by the logic supply settled after a fall below 1.5 V or without one (in whatever
state: log 30), and by a wake in DORMANT, each block is at its after-start values with the start's cause recorded,
the changes of mode, of a LOW supply and of the sync state reported, and response byte 0 of the port command that
caused it, the last result, recorded (log 29); while the logic supply is low the part is held in reset (its records,
the roster among them, at their after-start values already: logs 30 and 4). -/
def Obligations.StartsFresh : Prop :=
  ∀ s : State,
    let news : List Report := (if s.mode.mode = .startHold then [] else [.modeChanged .startHold]) ++
      (if s.mode.supply = .normal then [] else [.supplyNormal]) ++
      (if s.sync.status = .listening then [] else [.syncChanged .listening])
    let begun (c : StartCause) : State := { State.fresh c s.pins s.pending with reports := news }
    let answered (t : State) : State := { t with port := { t.port with sdo := [resultCode s.port.result] } }
    (s.inReset = false → exec .reset s = .next (answered (begun .portReset))) ∧
    exec (.logicSupplySettled true) s = .next (begun .powerOn) ∧
    exec (.logicSupplySettled false) s = .next (begun .supplyDip) ∧
    (s.inReset = false → s.mode.mode = .dormant → exec .wake s = .next (answered (begun .wake))) ∧
    ∃ t : State, exec .logicSupplyLow s = .next t ∧ t.inReset = true ∧ (∀ n, t.discreteOut n = false) ∧
      t.seq.out0 = 0 ∧ t.seq.out1 = 0 ∧ t.atn = false ∧ t.toneHertz = none ∧ t.trunk.queue = [] ∧
      t.table.claims = [] ∧ t.roster = [] ∧ t.discharge.lots = [] ∧ t.reports = news

/-! ## The inspection port -/

/-- Every read command clocks out the last result, a zero for its argument, and the items of R186 as they stand, and
changes nothing but the port's record of the transaction; an argument out of range gives 0x00 bytes and BAD_ARG (log
28), and no byte but 0x00 follows a response; the responses of fixed layout have fixed lengths. The items of READ
STATUS, READ ROSTER, READ CLAIM, READ PLAN, READ HALL CONDITION, READ LOT, READ CHANNEL and READ COUNTERS are
written out byte by byte: a state, condition, cause, role or kind is its position in its list, what may be absent
has a presence byte, and the items of another role are 0 (presence bytes: log 26; positions: log 27; a channel's
parameters before an image is good: log 3). -/
def Obligations.ReadsAnswer : Prop :=
  (∀ s : State, s.inReset = false →
    let answers (i : Instr) (args : Nat) (response : List Byte) (r : PortResult) : Prop :=
      exec i s = .next { s.cleared with port := { s.port with
        sdo := resultCode s.port.result :: List.replicate args 0 ++ response, result := r, copy := none } }
    answers .readStatus 0 s.statusBytes .ok ∧
    answers .readHallCondition 0 s.hall.bytes .ok ∧
    answers .readCounters 0 s.counters.bytes .ok ∧
    answers .readStartCause 0 [BitVec.ofNat 8 (causePos s.mode.startCause)] .ok ∧
    answers .peekAttention 0 (halfBytes s.port.flags) .ok ∧
    (∀ arg : Byte,
      (if arg.toNat ≤ 31 then answers (.readRoster arg) 1
          (match s.roster.find? (fun e => e.addr.val == arg.toNat) with
           | some e => 1 :: e.bytes
           | none => List.replicate 11 0) .ok
       else answers (.readRoster arg) 1 (List.replicate 11 0) .badArg) ∧
      (if arg.toNat ≤ 63 then answers (.readClaim arg) 1
          (match s.table.claims[arg.toNat]? with
           | some c => 1 :: c.portBytes
           | none => List.replicate 15 0) .ok
       else answers (.readClaim arg) 1 (List.replicate 15 0) .badArg) ∧
      (if arg.toNat ≤ 16 then answers (.readPlan arg) 1
          ((match s.plan.base with
            | some w => 1 :: halfBytes w
            | none => [0, 0, 0]) ++
           (if arg.toNat ≤ 15 then s.plan.entries.getD arg.toNat ⟨none, 0, []⟩ else s.plan.arriving).bytes) .ok
       else answers (.readPlan arg) 1 (List.replicate 7 0) .badArg) ∧
      (if arg.toNat ≤ 5 then answers (.readLot arg) 1
          (match s.discharge.lots[arg.toNat]? with
           | some l => 1 :: l.bytes
           | none => List.replicate 23 0) .ok
       else answers (.readLot arg) 1 (List.replicate 23 0) .badArg) ∧
      (if h : arg.toNat < 4 then answers (.readChannel arg) 1 (s.channelBytes ⟨arg.toNat, h⟩) .ok
       else answers (.readChannel arg) 1 (List.replicate 13 0) .badArg))) ∧
  (∀ s : State,
    let num (n : Nat) : Byte := BitVec.ofNat 8 n
    let two (n : Nat) : List Byte := [num (n / 256), num n]
    let flag (b : Bool) : Byte := if b then 1 else 0
    let at' {α : Type} [BEq α] (x : α) (l : List α) : Byte := num (l.idxOf x)
    let byte? (x : Option Byte) : List Byte := match x with
      | some b => [1, b]
      | none => [0, 0]
    let two? (x : Option Nat) : List Byte := match x with
      | some n => 1 :: two n
      | none => [0, 0, 0]
    let op? (x : Option Op) : List Byte := match x with
      | some o => [1, at' o.kind [.index, .feed, .discharge, .flush, .reverse, .safeStop], num o.level]
      | none => [0, 0, 0]
    let ofRole (r : Role) (l : List Byte) : List Byte := if s.cfg.role = r then l else l.map (fun _ => 0)
    let head := [1, 2, 3, 4].findSome? (fun k => s.trunk.queue.find? (fun f => f.cls == k))
    let hold := (s.discharge.lots.getLast?.any (fun l => !l.onTrack && l.status != .opened)) || s.seq.runs .index ||
      s.discharge.beltFault || !(s.mode.mode == .run || s.mode.mode == .quiet)
    s.statusBytes = [at' s.mode.mode [.startHold, .run, .quiet, .leaving, .dormant],
        at' s.mode.config [.loading, .good, .fault], at' s.mode.clock [.unproved, .qualified, .fault],
        at' s.mode.supply [.normal, .low]] ++
      (match s.sync.status with
        | .excluded c => [4, 1, at' c [.address, .parameters, .role]]
        | x => [at' x [.listening, .syncing, .synced, .diverged], 0, 0]) ++
      [at' s.sync.round [.idle, .asked, .opened], num s.sync.received.length, num s.sync.attempts,
        at' s.trunk.line [.active, .listenOnly], num s.trunk.queue.length] ++
      byte? (head.map (fun f => at' f.body.kind
        [.mark, .hello, .present, .claim, .withdraw, .done, .gate, .stop, .release, .ask, .row])) ++
      two s.window.number.toNat ++
      ofRole .discharge [flag s.discharge.held, flag hold, flag s.discharge.beltFault] ++
      ofRole .filter [at' s.filter.mode [.online, .claimed, .committed, .flushing, .settling, .fault],
        at' s.filter.band [.normal, .flush, .urgent, .bypass], flag s.filter.bypassOpen, flag s.filter.held] ++
      ofRole .crusher ([at' s.crusher.mode [.running, .reversing, .jammed], num s.crusher.diverter] ++
        two s.crusher.surge ++ [flag s.crusher.surgeStop, num s.crusher.attempts, num s.crusher.inbound.length] ++
        ((List.range 7).map (fun i => two (s.crusher.fills.getD i 0) ++ [flag (s.crusher.holds.getLsbD i)])).flatten) ++
      op? s.seq.running ++ op? s.seq.stack.reverse[0]? ++ op? s.seq.stack.reverse[1]? ++
      op? s.seq.stack.reverse[2]? ++ op? s.seq.deferred ∧
    (∀ e : RosterEntry, e.bytes = [num e.addr.val, at' e.role [.discharge, .filter, .crusher], num e.transit,
        num e.ceiling, flag e.digestMatch] ++
      (match e.status with
        | .present => [0, 0, 0]
        | .silent => [1, 0, 0]
        | .excluded c => [2, 1, at' c [.parameters, .role]]) ++ [num e.missed, flag e.heard]) ∧
    (∀ e : PlanEntry, e.bytes = num (e.cls.getD 0) :: two e.volume ++ [num e.placements.length] ++
      (e.placements.map (fun x => [num x.owner.val, x.id, num x.volume] ++ two x.arrival.toNat ++
        two x.discharge.toNat)).flatten) ∧
    (∀ l : Lot, l.bytes = two l.number.toNat ++
      [num l.cls, at' l.status [.opened, .sealed, .claimed, .committed, .discharging]] ++
      byte? (l.volume.map num) ++ byte? (l.running.map num) ++ two? l.length ++
      byte? (l.sealReason.map (fun r => at' r [.classChange, .lotEnd, .volumeBound, .age, .shift, .port])) ++
      [flag l.undersize] ++ byte? l.claimId ++ two? (l.discharge.map (fun w => w.toNat)) ++
      [flag l.refused, num l.age, flag l.remainder]) ∧
    (∀ ch : Fin 4,
      let c := s.measure.channels.getD ch.val ⟨none, .inBounds, 0, 0, 0⟩
      let p := s.cfg.channels.getD ch.val ⟨0, 0, 0, 0⟩
      s.channelBytes ch = two? c.last ++ two p.low ++ two p.high ++ [num p.persistence,
        at' c.status [.inBounds, .above, .below], num c.highRun, num c.lowRun, num c.returnRun,
        match s.measure.capture with
        | .empty => 0
        | .pending _ => 1
        | .filled _ _ => 2]) ∧
    (∀ e : RosterEntry, e.bytes.length = 10) ∧ (∀ c : Claim, c.portBytes.length = 14) ∧
    (∀ l : Lot, l.bytes.length = 22) ∧ s.counters.bytes.length = 16 ∧
    (∀ ch, (s.channelBytes ch).length = 13) ∧ s.statusBytes.length = 66) ∧
  (∀ (p : PortState) (n : Nat), (∀ b, p.sdo[n]? = some b → p.clocked n = b) ∧
    (p.sdo.length ≤ n → p.clocked n = 0)) ∧
  (∀ c : Claim,
    let arrival : Window := match c.status with
      | .committed w => w
      | .waiting => 0
    c.portBytes = [BitVec.ofNat 8 c.owner.val, c.id, match c.kind with | .lot => 0 | .flush => 1,
      BitVec.ofNat 8 c.cls, BitVec.ofNat 8 c.volume, BitVec.ofNat 8 c.effective, BitVec.ofNat 8 c.age,
      hiByte c.posted, loByte c.posted, if c.status = .waiting then 0 else 1, if c.remainder then 1 else 0,
      hiByte arrival, loByte arrival, BitVec.ofNat 8 c.declared]) ∧
  (∀ c : Counters,
    let hi (n : Nat) : Byte := BitVec.ofNat 8 (n / 256)
    let lo (n : Nat) : Byte := BitVec.ofNat 8 n
    c.bytes = [hi c.valid, lo c.valid, hi c.corrupt, lo c.corrupt, hi c.ownFailures, lo c.ownFailures,
      hi c.ownRefused, lo c.ownRefused, hi c.stale, lo c.stale, hi c.shortDischarges, lo c.shortDischarges,
      hi c.mixed, lo c.mixed, hi c.inboundLost, lo c.inboundLost]) ∧
  (∀ h : HallState,
    let flag (b : Bool) : Byte := if b then 1 else 0
    let cause (c : StopCause) : Byte := match c with
      | .jam => 0
      | .surgeFull => 1
      | .operator => 2
    let view : Byte := match h.gate with
      | .running => 0
      | .holding => 1
      | .jammed => 2
    h.bytes = [flag h.presence, view, flag (h.holds.getLsbD 0), flag (h.holds.getLsbD 1), flag (h.holds.getLsbD 2),
        flag (h.holds.getLsbD 3), flag (h.holds.getLsbD 4), flag (h.holds.getLsbD 5), flag (h.holds.getLsbD 6),
        hiByte h.resume, loByte h.resume, BitVec.ofNat 8 h.stops.length] ++
      (h.stops.map (fun e => [BitVec.ofNat 8 e.addr.val, cause e.cause])).flatten ++
      match h.firstCause with
      | some c => [1, cause c]
      | none => [0, 0])

/-- The attention flags over the port: the command byte of a TAKE ATTENTION copies them, its completion answers the
copy, high byte first, and clears exactly the flags in it, and PEEK ATTENTION answers the flags and clears none. A
transaction ended early discards the copy and records no result, though the last result, and what was clocked of
the copy, have gone out (the model's record of the bytes: log 29); an unknown code records BAD_ARG (no response:
log 28). -/
def Obligations.AttentionTaken : Prop :=
  ∀ s : State, s.inReset = false →
    exec .attentionCopy s = .next { s.cleared with port := { s.port with copy := some s.port.flags } } ∧
    (∀ c, s.port.copy = some c →
      exec .takeAttention s = .next { s.cleared with port := { s.port with
        flags := s.port.flags &&& ~~~c, sdo := [resultCode s.port.result, hiByte c, loByte c],
        result := .ok, copy := none } }) ∧
    exec .spiIncomplete s = .next { s.cleared with port := { s.port with
      copy := none
      sdo := resultCode s.port.result :: match s.port.copy with
        | some c => [hiByte c, loByte c]
        | none => [] } } ∧
    ∀ code, exec (.unknownCommand code) s = .next { s.cleared with port := { s.port with
      sdo := [resultCode s.port.result], result := .badArg, copy := none } } ∧
    exec .peekAttention s = .next { s.cleared with port := { s.port with
      sdo := [resultCode s.port.result, hiByte s.port.flags, loByte s.port.flags], result := .ok, copy := none } }

/-- HOLD and RELEASE HOLD outside START_HOLD and DORMANT. At a discharge station HOLD holds it and leaves no claim on a
lot that is not discharging, a lot whose CLAIM is in flight included (log 21), each own claim whose lot is not
discharging withdrawn, unless its DONE is still pending (log 46); at a filter it holds it, clears the flush request,
and takes back the claim unless the band is BYPASS or the flush runs; RELEASE HOLD only clears the flag. A crusher
refuses both for its role. -/
def Obligations.HoldAndRelease : Prop :=
  ∀ s : State, s.inReset = false → s.closed = false →
    (s.cfg.role = .discharge →
      (∃ t : State, exec .hold s = .next ((t.transact 0 [] .ok).concluded s.seq) ∧ t.discharge.held = true ∧
        (∀ l ∈ t.discharge.lots, l.status = .discharging ∨ l.claimId = none) ∧
        t.discharge.progress = s.discharge.progress ∧ t.seq = s.seq ∧ t.table = s.table ∧
        (s.trunk.queue.length + s.discharge.lots.length + (s.table.claims.filter (fun c => c.owner == s.own)).length < 8 →
          s.trunk.line = .active → (∀ c, s.sync.status ≠ .excluded c) →
          ∀ c ∈ s.table.claims, c.owner = s.own → (∀ p ∈ s.discharge.pending, p.body.id ≠ c.id) →
            (∀ l ∈ s.discharge.lots, l.claimId = some c.id → l.status ≠ .discharging) →
            ∃ f ∈ t.trunk.queue, f.body = .withdraw ⟨c.id⟩)) ∧
      exec .releaseHold s = .next ((({ s.cleared with
        discharge := { s.discharge with held := false } } : State).transact 0 [] .ok).concluded s.seq)) ∧
    (s.cfg.role = .filter →
      (∃ t : State, exec .hold s = .next ((t.transact 0 [] .ok).concluded s.seq) ∧ t.filter.held = true ∧
        t.filter.flushRequest = false ∧ t.filter.band = s.filter.band ∧ t.seq = s.seq ∧ t.table = s.table ∧
        (s.filter.band = .bypass ∨ s.filter.mode = .flushing →
          t.filter = { s.filter with held := true, flushRequest := false } ∧ t.trunk = s.trunk) ∧
        (s.filter.band ≠ .bypass → s.filter.mode ≠ .flushing → t.filter.claimId = none)) ∧
      exec .releaseHold s = .next ((({ s.cleared with
        filter := { s.filter with held := false } } : State).transact 0 [] .ok).concluded s.seq)) ∧
    (s.cfg.role = .crusher →
      exec .hold s = .next ((s.cleared.transact 0 [] .refusedRole).concluded s.seq) ∧
      exec .releaseHold s = .next ((s.cleared.transact 0 [] .refusedRole).concluded s.seq))

/-- LOT CLOSE seals a discharge station's OPEN lot with reason PORT (in BELT_FAULT too: log 51), a capture of channel 0
requested for its volume, and is refused without one; FLUSH NOW sets the flush request of a filter that is ONLINE or
CLAIMED and not held, and is refused otherwise; stations of other roles refuse both for their role. A claim posted
whose declared rank is worse than 1, and one CLAIMED whose effective rank in the own table is, is requested again at
rank 1; any other is left. A flush claim is posted, as a standing condition, when R137 holds: under the next id, at
its band's rank, with the request mark set at no worse than 1. -/
def Obligations.LotCloseAndFlushNow : Prop :=
  (∀ s : State, s.inReset = false → s.closed = false →
    let refused (i : Instr) (r : PortResult) : Prop :=
      exec i s = .next ((s.cleared.transact 0 [] r).concluded s.seq)
    (s.cfg.role = .discharge →
      ((∃ l ∈ s.discharge.lots, l.status = .opened) →
        exec .lotClose s = .next ((({ s.cleared with
          discharge := { s.discharge with lots := s.discharge.lots.map (fun l =>
            if l.status = .opened then { l with status := .sealed, sealReason := some .port, running := none } else l) }
          measure := { s.measure with
            capture := if s.measure.capture = .empty then .pending 0 else s.measure.capture }
          reports := [if s.measure.capture = .empty then .captureAccepted else .captureBusy] } :
              State).transact 0 [] .ok).concluded s.seq)) ∧
      ((∀ l ∈ s.discharge.lots, l.status ≠ .opened) → refused .lotClose .refusedState)) ∧
    (s.cfg.role ≠ .discharge → refused .lotClose .refusedRole) ∧
    (s.cfg.role = .filter →
      let may := (s.filter.mode = .online ∨ s.filter.mode = .claimed) ∧ s.filter.held = false
      let marked : State := { s.cleared with filter := { s.filter with flushRequest := true } }
      let again (id : Byte) : State :=
        ({ s.cleared with filter := { s.filter with flushRequest := true, postedRank := 1 } } : State).request
          (.claim ⟨id, 1, 7, BitVec.ofNat 8 s.cfg.fil.flushVolume, 1, false⟩) .role
      let makes (t : State) : Prop := exec .flushNow s = .next ((t.transact 0 [] .ok).concluded s.seq)
      (may →
        (s.filter.claimId = none → makes marked) ∧
        (∀ id, s.filter.claimId = some id →
          let worse := if s.filter.mode = .online then 1 < s.filter.postedRank
            else ∃ c, s.table.claims.find? (fun c => c.owner == s.own && c.id == id) = some c ∧ 1 < c.effective
          (worse → makes (again id) ∧ (again id).filter.flushRequest = true ∧
            (again id).table.claims = s.table.claims ∧ (again id).seq = s.seq) ∧
          (¬worse → makes marked))) ∧
      (¬may → refused .flushNow .refusedState)) ∧
    (s.cfg.role ≠ .filter → refused .flushNow .refusedRole)) ∧
  (∀ s : State,
    let may := s.filter.mode = .online ∧ s.filter.claimId = none ∧ s.filter.refused = false ∧
      s.filter.pending = none ∧ (s.filter.band ≠ .normal ∨ s.filter.flushRequest = true) ∧
      s.sync.status = .synced ∧ s.trunk.line = .active ∧ (s.filter.held = false ∨ s.filter.band = .bypass) ∧
      s.mode.supply = .normal ∧ (s.mode.mode = .run ∨ s.mode.mode = .quiet)
    let own := match s.filter.band with
      | .normal => 1
      | .flush => s.cfg.fil.baseRank
      | .urgent => 1
      | .bypass => 0
    let rank := if s.filter.flushRequest then min own 1 else own
    (may → s.postFlush = ({ s with
      table := { s.table with nextId := s.freshId + 1 }
      filter := { s.filter with claimId := some s.freshId, postedRank := rank } } : State).request
        (.claim ⟨s.freshId, 1, 7, BitVec.ofNat 8 s.cfg.fil.flushVolume, BitVec.ofNat 8 rank, false⟩) .role) ∧
    (¬may → s.postFlush = s)) ∧
  (∀ (s : State) (ran : Bool), s.cfg.role = .filter →
    let closes := s.filter.bypassOpen = true ∧ s.filter.cleaned = true ∧ s.filter.band = .normal
    s.settleRole ran = (if closes then
      { s with filter := { s.filter with bypassOpen := false, cleaned := false } } else s).postFlush)

/-- HALL STOP, HALL RELEASE and FORCE RELEASE outside START_HOLD and DORMANT: with the line ACTIVE, the sync state
SYNCING, SYNCED or DIVERGED and room in the queue, the frame is requested and the command is OK; where the queue
refuses the request the port is told so as of any request (R88) and the command is refused with REFUSED_STATE; on
the other line and sync states it is refused so without a request (log 48); a FORCE RELEASE of an address above 31
is a BAD_ARG. -/
def Obligations.HallCommands : Prop :=
  ∀ s : State, s.inReset = false → s.closed = false →
    let able := s.trunk.line = .active ∧
      (s.sync.status = .syncing ∨ s.sync.status = .synced ∨ s.sync.status = .diverged)
    let room (b : QBody) := ∀ why, (settleRequest s.trunk.queue (newFrame b .port false)
      (fun id => (s.ownClaim id).isSome)).fate ≠ .refused why
    let asks (i : Instr) (args : Nat) (b : QBody) : Prop :=
      (able → room b →
        exec i s = .next (((s.cleared.request b .port).transact args [] .ok).concluded s.seq)) ∧
      (able → ¬room b → exec i s = .next ((({ s.cleared with
        reports := [.fate .port b (.refused .full)] } : State).transact args [] .refusedState).concluded s.seq)) ∧
      (¬able → exec i s = .next ((s.cleared.transact args [] .refusedState).concluded s.seq))
    asks .hallStop 0 (.stop ⟨3⟩) ∧ asks .hallRelease 0 (.release ⟨BitVec.ofNat 8 s.own.val, false⟩) ∧
    ∀ arg : Byte,
      (arg.toNat ≤ 31 → asks (.forceRelease arg) 1 (.release ⟨arg, true⟩)) ∧
      (31 < arg.toNat →
        exec (.forceRelease arg) s = .next ((s.cleared.transact 1 [] .badArg).concluded s.seq))

/-- LEAVE sets the leave request in QUIET and is refused in RUN and LEAVING; WAKE in LEAVING takes the leaving HELLO
back where it waits, the mode then following SHIFT, and sets the wake mark where it is in flight; in RUN, QUIET and
START_HOLD it is refused. As a standing condition a QUIET station enters LEAVING, its leaving HELLO requested and a
crusher's FEED cancelled, when it is dormant-enabled and quiet long enough or asked to leave, SYNCED, ACTIVE, with
the supply NORMAL, no own claim, no operation but FEED, and its role unit ready; where that ceases to hold in
LEAVING a waiting HELLO is taken back and the mode is QUIET with no quiet windows, and one in flight is left to its
judgement. At a MARK in LEAVING (see MarkTaken) the leaving HELLO is requested again when none is queued and the
leaving condition holds. The SHIFT level: log 57. -/
def Obligations.LeaveAndWake : Prop :=
  (∀ s : State, s.inReset = false →
    let flying := ∃ f ∈ s.trunk.queue, f.leavingHello = true ∧ f.sent.isSome = true
    let refused (i : Instr) : Prop :=
      exec i s = .next ((s.cleared.transact 0 [] .refusedState).concluded s.seq)
    (s.mode.mode = .quiet → exec .leave s = .next ((({ s.cleared with
      mode := { s.mode with leaveRequest := true } } : State).transact 0 [] .ok).concluded s.seq)) ∧
    (s.mode.mode = .run ∨ s.mode.mode = .leaving → refused .leave) ∧
    (s.mode.mode = .leaving →
      ∃ t : State, exec .wake s = .next ((t.transact 0 [] .ok).concluded s.seq) ∧
        (flying → t.mode = { s.mode with wakeMark := true }) ∧
        (¬flying → t.mode = { s.mode with
          mode := if s.pins.shift then .run else .quiet, quietWindows := 0, leaveRequest := false
          wakeMark := false } ∧ t.trunk.queue = s.trunk.queue.filter (fun f => !f.leavingHello))) ∧
    (s.mode.mode = .run ∨ s.mode.mode = .quiet ∨ s.mode.mode = .startHold → refused .wake)) ∧
  (∀ s : State,
    let flying := ∃ f ∈ s.trunk.queue, f.leavingHello = true ∧ f.sent.isSome = true
    let ready : Prop := match s.cfg.role with
      | .discharge => s.discharge.lots = [] ∧ s.discharge.pending = []
      | .filter => s.filter.mode = .online ∧ s.filter.claimId = none ∧ s.filter.pending = none ∧
          s.filter.bypassOpen = false ∧ s.filter.band = .normal
      | .crusher => (∀ e ∈ s.roster, e.addr = s.own ∨ e.role = .crusher ∨ e.status ≠ .present) ∧
          s.crusher.inbound = [] ∧ s.crusher.surge = 0 ∧ s.crusher.mode = .running ∧
          ∀ e ∈ s.hall.stops, e.addr ≠ s.own
    let may : Prop := ((s.cfg.dormancy = true ∧ s.cfg.dormantDelay ≤ s.mode.quietWindows) ∨
        s.mode.leaveRequest = true) ∧
      s.sync.status = .synced ∧ s.trunk.line = .active ∧ s.mode.supply = .normal ∧
      (∀ c ∈ s.table.claims, c.owner ≠ s.own) ∧
      (∀ o, s.seq.running = some o ∨ o ∈ s.seq.stack ∨ s.seq.deferred = some o → o.kind = .feed) ∧ ready
    let left : State := ({ s with
      mode := { s.mode with mode := .leaving }, reports := s.reports ++ [.modeChanged .leaving] } : State).request
        (.hello ⟨s.stationInfo, true⟩) .mode
    (s.mode.mode = .quiet → may →
      (s.cfg.role ≠ .crusher → s.settleMode = left) ∧
      (s.cfg.role = .crusher → s.settleMode.seq = (s.seq.cancel .feed).seq ∧
        { s.settleMode with seq := s.seq, reports := left.reports } = left)) ∧
    (s.mode.mode = .quiet → ¬may → s.settleMode = s) ∧ (s.mode.mode = .leaving → may → s.settleMode = s) ∧
    (s.mode.mode = .leaving → ¬may → Untouched s { s.settleMode with mode := s.mode } ∧
      s.settleMode.mode = (if flying then s.mode else { s.mode with mode := .quiet, quietWindows := 0 }) ∧
      ∀ f ∈ s.settleMode.trunk.queue, f.leavingHello = true → f.sent.isSome = true ∧ f.pulled = true) ∧
    (s.mode.mode ≠ .quiet → s.mode.mode ≠ .leaving → s.settleMode = s) ∧
    (s.mode.mode = .leaving → may → (∀ f ∈ s.trunk.queue, f.leavingHello = false) →
      s.markMode = s.request (.hello ⟨s.stationInfo, true⟩) .mode) ∧
    (s.mode.mode = .leaving → ¬may ∨ (∃ f ∈ s.trunk.queue, f.leavingHello = true) → s.markMode = s))

/-- In START_HOLD and DORMANT every control command other than WAKE, RESET and TAKE ATTENTION records REFUSED_STATE
and has no effect, a FORCE RELEASE of an argument above 31 among them (the order of the two tests: log 28). -/
def Obligations.ClosedStationRefuses : Prop :=
  ∀ (s : State) (i : Instr), s.inReset = false → s.mode.mode = .startHold ∨ s.mode.mode = .dormant →
    i ∈ [Instr.hold, .releaseHold, .lotClose, .flushNow, .clearFault, .hallStop, .hallRelease, .leave] →
    exec i s = .next ((s.cleared.transact 0 [] .refusedState).concluded s.seq) ∧
    ∀ arg, exec (.forceRelease arg) s = .next ((s.cleared.transact 1 [] .refusedState).concluded s.seq)

/-! ## The flume plan -/

/-- What a build of the plan does and never does. It has 16 entries; a COMMITTED claim stands in the entry of its
arrival window, in table order; while a stop stands, no crusher serves the hall or the crusher is JAMMED nothing
else is placed. It puts no WAITING claim into an entry beyond the budget, of another class than the entry's, of a
held class, before the owner's transit, or before the resume window of a HOLDING crusher where that is 1 to 32767
after m+1; no WAITING FLUSH where its discharge window holds K; and no WAITING LOT in or before the entry of a
COMMITTED LOT of its owner, or while an older WAITING LOT of the owner (longer waited, then of lower id) is not in
an earlier entry, so an unplaced LOT stops the owner's later ones (claims that owner and id tell apart, R1). Each
step takes, of the FLUSHes and each unstopped owner's oldest LOT not yet dealt with, the first by effective rank,
windows waited (the larger), owner and id, and places it in the earliest entry that admits it; where none does it
stays unplaced, and a LOT stops its owner. -/
def Obligations.PlanKeepsLimits : Prop :=
  (∀ (p : PlanInputs) (claims : List Claim),
    let waiting := claims.filter (fun c => c.status == .waiting)
    let built := placeCommitted p claims
    let barred := p.hall.stops ≠ [] ∨ p.hall.presence = false ∨ p.hall.gate = .jammed
    let distinct := claims.Pairwise (fun a b => a.owner ≠ b.owner ∨ a.id ≠ b.id)
    let waited (c : Claim) : Nat := (p.m - c.posted).toNat
    let flushesIn (es : List PlanEntry) (w : Window) : Nat :=
      ((es.map (fun e => e.placements)).flatten.filter (fun x => x.discharge == w &&
        claims.any (fun c => c.owner == x.owner && c.id == x.id && c.kind == .flush))).length
    (buildEntries p claims).length = 16 ∧
    (barred → buildEntries p claims = built.entries) ∧
    (¬barred → buildEntries p claims = (placeWaiting p waiting.length waiting [] built).entries) ∧
    (∀ k, k < 16 →
      let arrival := p.m + BitVec.ofNat 16 (k + 1)
      let here := claims.filter (fun c => c.status == .committed arrival)
      built.entries[k]? = some ⟨here.head?.map (fun c => c.cls), (here.map (fun c => c.volume)).sum,
        here.map (fun c =>
          ⟨c.owner, c.id, c.volume, arrival, arrival - BitVec.ofNat 16 (transitOf p.roster c.owner)⟩)⟩) ∧
    (∀ a k, (a, k) ∈ built.lots ↔ k < 16 ∧ ∃ c ∈ claims, c.owner = a ∧ c.kind = .lot ∧
      c.status = .committed (p.m + BitVec.ofNat 16 (k + 1))) ∧
    (∀ j, j < 16 → built.flushes.getD j 0 = (claims.filter (fun c => c.kind == .flush &&
      (List.range 16).any (fun k => c.status == .committed (p.m + BitVec.ofNat 16 (k + 1)) &&
        p.m + BitVec.ofNat 16 (k + 1) - BitVec.ofNat 16 (transitOf p.roster c.owner) ==
          p.m + BitVec.ofNat 16 (j + 1)))).length) ∧
    (distinct → ∀ w,
      flushesIn (buildEntries p claims) w ≤ max p.flushLimit (flushesIn built.entries w)) ∧
    ∀ (k : Nat) (e e0 : PlanEntry), (buildEntries p claims)[k]? = some e → built.entries[k]? = some e0 →
      e.volume ≤ max p.budget e0.volume ∧
      ∃ added : List Placement, e.placements = e0.placements ++ added ∧
        e.volume = e0.volume + (added.map (fun x => x.volume)).sum ∧
        ∀ x ∈ added, ∃ c ∈ claims, c.status = .waiting ∧ x.owner = c.owner ∧ x.id = c.id ∧
          x.volume = c.volume ∧ x.arrival = p.m + BitVec.ofNat 16 (k + 1) ∧
          x.discharge = x.arrival - BitVec.ofNat 16 (transitOf p.roster c.owner) ∧
          e.cls = some c.cls ∧ transitOf p.roster c.owner ≤ k ∧ classHeld p.hall.holds c.cls = false ∧
          (p.hall.gate = .holding →
            let n := (p.hall.resume - (p.m + 1)).toNat
            1 ≤ n → n ≤ 32767 → n ≤ k) ∧
          (c.kind = .lot → ∀ d ∈ claims, d.owner = c.owner → d.kind = .lot →
            (∀ j, j < 16 → d.status = .committed (p.m + BitVec.ofNat 16 (j + 1)) → j < k) ∧
            (distinct → d.status = .waiting → waited c < waited d ∨ (waited c = waited d ∧ d.id.toNat < c.id.toNat) →
              ∃ j e1 y, j < k ∧ (buildEntries p claims)[j]? = some e1 ∧ y ∈ e1.placements ∧
                y.owner = d.owner ∧ y.id = d.id))) ∧
  (∀ (p : PlanInputs) (fuel : Nat) (rest : List Claim) (stopped : List Addr) (b : Build),
    rest.Pairwise (fun c d => c.owner ≠ d.owner ∨ c.id ≠ d.id) →
    let waited (c : Claim) : Nat := (p.m - c.posted).toNat
    let eligible (c : Claim) : Prop := c ∈ rest ∧ (c.kind = .lot → c.owner ∉ stopped ∧
      ∀ d ∈ rest, d.owner = c.owner → d.kind = .lot → d ≠ c →
        waited d < waited c ∨ (waited d = waited c ∧ c.id.toNat < d.id.toNat))
    let first (c : Claim) : Prop := eligible c ∧ ∀ d, eligible d → d ≠ c →
      c.effective < d.effective ∨ (c.effective = d.effective ∧ (waited d < waited c ∨ (waited d = waited c ∧
        (c.owner.val < d.owner.val ∨ (c.owner = d.owner ∧ c.id.toNat < d.id.toNat)))))
    ((∀ c, ¬eligible c) → placeWaiting p (fuel + 1) rest stopped b = b) ∧
    ((∃ c, eligible c) → ∃ c, first c) ∧
    ∀ c, first c →
      let transit := transitOf p.roster c.owner
      let left := rest.filter (fun d => !(d.owner == c.owner && d.id == c.id))
      let n := (p.hall.resume - (p.m + 1)).toNat
      let fits (k : Nat) : Prop := k < 16 ∧ transit ≤ k ∧
        (p.hall.gate = .holding → 1 ≤ n → n ≤ 32767 → n ≤ k) ∧
        (c.kind = .lot → ∀ x ∈ b.lots, x.1 = c.owner → x.2 < k) ∧
        (let e := b.entries.getD k ⟨none, 0, []⟩
         (e.cls = none ∨ e.cls = some c.cls) ∧ e.volume + c.volume ≤ p.budget) ∧
        classHeld p.hall.holds c.cls = false ∧ (c.kind = .flush → b.flushes.getD (k - transit) 0 < p.flushLimit)
      (∀ k, b.place p k c =
        let arrival := p.m + BitVec.ofNat 16 (k + 1)
        let discharge := arrival - BitVec.ofNat 16 transit
        { entries := b.entries.modify k (fun e => ⟨some (e.cls.getD c.cls), e.volume + c.volume,
            e.placements ++ [⟨c.owner, c.id, c.volume, arrival, discharge⟩]⟩)
          flushes := if c.kind = .flush then b.flushes.modify (discharge - (p.m + 1)).toNat (· + 1) else b.flushes
          lots := if c.kind = .lot then b.lots ++ [(c.owner, k)] else b.lots }) ∧
      (∀ k, fits k → (∀ j, j < k → ¬fits j) →
        placeWaiting p (fuel + 1) rest stopped b = placeWaiting p fuel left stopped (b.place p k c)) ∧
      ((∀ k, ¬fits k) → placeWaiting p (fuel + 1) rest stopped b =
        placeWaiting p fuel left (if c.kind = .lot then c.owner :: stopped else stopped) b))

/-! ## Encoding -/

/-- Every frame body, a ROW of at most 7 records among them, is read back from its bytes with its sender, whatever
its fields hold. -/
def Obligations.FrameRoundTrip : Prop :=
  ∀ (a : Addr) (b : Body), (∀ r, b = .row r → r.records.length ≤ 7) →
    frameOf false (frameBytes a b) = some (a, b)

/-! ## Invariants that every step keeps -/

/-- Every step keeps the claim table lawful, roster and stop set in address order, and the first cause with the
stop set. -/
def Obligations.RecordsStayLawful : Prop :=
  ∀ s t : State, s.recordsLawful → step s = .next t → t.recordsLawful

/-- Every step keeps each claim's owner on the roster and not EXCLUDED, and its effective rank at or above the
owner's ceiling. -/
def Obligations.RanksStayLawful : Prop :=
  ∀ s t : State, s.ranksLawful → step s = .next t → t.ranksLawful

/-- Every step keeps the outgoing queue within 8 frames, with at most one MARK, PRESENT, GATE and ROW and at most one
frame in flight, the line busy while one is. -/
def Obligations.QueueStaysLawful : Prop :=
  ∀ s t : State, s.queueLawful → step s = .next t → t.queueLawful

/-- Every step keeps the sequencer's operations in falling levels, none suspended or deferred while none runs, and
the shadow levels those of the running operation. -/
def Obligations.SequencerStaysLawful : Prop :=
  ∀ s t : State, s.seq.lawful → step s = .next t → t.seq.lawful

/-- Every step keeps the flume flap safe; and while it is safe, the flap is open only at a station that is SYNCED, in
RUN or QUIET, with the supply NORMAL and no stop in force, in the discharge window of the lot being discharged. It
rests on log 25: a sync loss by a MARK of an unknown number ends the discharge as R125 and R131 say, where R102 alone
would let it run on. -/
def Obligations.FlapStaysSafe : Prop :=
  (∀ s t : State, s.flapSafe → step s = .next t → t.flapSafe) ∧
  ∀ s : State, s.flapSafe → s.flapOpen = true →
    s.sync.status = .synced ∧ (s.mode.mode = .run ∨ s.mode.mode = .quiet) ∧ s.mode.supply = .normal ∧
    s.hall.stops = [] ∧
    ∃ p, s.discharge.progress = some p ∧ p.arrival - BitVec.ofNat 16 s.cfg.transit = s.window.number

/-- Every step leaves the annunciator at the worst condition that holds, by the table of R176 from its top down, and
silent in DORMANT and while the part is held in reset: two-tone while a stop stands or the crusher is JAMMED, steady
high while the bypass is open, steady low in FAULT or BELT_FAULT, pulsed in CONFIG_FAULT, CLOCK_FAULT or EXCLUDED, and
off otherwise; a change of the worst condition starts the new pattern at its beginning, and one that stays the worst
runs on. Two-tone is 2.4 kHz and 0.8 kHz by turns of 0.5 s and pulsed 2.4 kHz for the first 0.25 s of each
second, the phase counting ticks of 2 us within a second (which log 1 moves on). -/
def Obligations.ToneFollows : Prop :=
  let worst (s : State) : ToneCond :=
    if s.inReset = true ∨ s.mode.mode = .dormant then .off
    else if s.hall.stops ≠ [] ∨ s.crusher.mode = .jammed then .twoTone
    else if s.filter.bypassOpen = true then .steadyHigh
    else if s.filter.mode = .fault ∨ s.discharge.beltFault = true then .steadyLow
    else if s.mode.config = .fault ∨ s.mode.clock = .fault ∨ s.sync.status = .excluded .address ∨
      s.sync.status = .excluded .parameters ∨ s.sync.status = .excluded .role then .pulsed
    else .off
  (∀ s : State, s.refreshTone = if worst s = s.tone.cond then s else { s with tone := ⟨worst s, 0⟩ }) ∧
  (∀ s t : State, s.tone.cond = worst s → step s = .next t → t.tone.cond = worst t) ∧
  (∀ s : State, s.tone.phase < 500000 → s.toneHertz = match s.tone.cond with
    | .twoTone => some (if s.tone.phase < 250000 then 2400 else 800)
    | .steadyHigh => some 2400
    | .steadyLow => some 800
    | .pulsed => if s.tone.phase < 125000 then some 2400 else none
    | .off => none)

end
end

