-- ==== Sys2Proof/Laws/State.lean ====
section
/-! SUPPORT. One lemma per field for the named record updates, so that a proof reads a field of an updated state
without unfolding the update. -/

namespace Sys2Proof.Machine

variable (s : State)

/-! ## report -/

@[simp] theorem report_cfg (r : Report) : (s.report r).cfg = s.cfg := rfl
@[simp] theorem report_trunk (r : Report) : (s.report r).trunk = s.trunk := rfl
@[simp] theorem report_window (r : Report) : (s.report r).window = s.window := rfl
@[simp] theorem report_roster (r : Report) : (s.report r).roster = s.roster := rfl
@[simp] theorem report_table (r : Report) : (s.report r).table = s.table := rfl
@[simp] theorem report_plan (r : Report) : (s.report r).plan = s.plan := rfl
@[simp] theorem report_hall (r : Report) : (s.report r).hall = s.hall := rfl
@[simp] theorem report_sync (r : Report) : (s.report r).sync = s.sync := rfl
@[simp] theorem report_discharge (r : Report) : (s.report r).discharge = s.discharge := rfl
@[simp] theorem report_filter (r : Report) : (s.report r).filter = s.filter := rfl
@[simp] theorem report_crusher (r : Report) : (s.report r).crusher = s.crusher := rfl
@[simp] theorem report_measure (r : Report) : (s.report r).measure = s.measure := rfl
@[simp] theorem report_seq (r : Report) : (s.report r).seq = s.seq := rfl
@[simp] theorem report_tone (r : Report) : (s.report r).tone = s.tone := rfl
@[simp] theorem report_mode (r : Report) : (s.report r).mode = s.mode := rfl
@[simp] theorem report_port (r : Report) : (s.report r).port = s.port := rfl
@[simp] theorem report_pins (r : Report) : (s.report r).pins = s.pins := rfl
@[simp] theorem report_counters (r : Report) : (s.report r).counters = s.counters := rfl
@[simp] theorem report_inReset (r : Report) : (s.report r).inReset = s.inReset := rfl
@[simp] theorem report_pending (r : Report) : (s.report r).pending = s.pending := rfl

/-! ## raise -/

@[simp] theorem raise_cfg (f : Attn) : (s.raise f).cfg = s.cfg := rfl
@[simp] theorem raise_trunk (f : Attn) : (s.raise f).trunk = s.trunk := rfl
@[simp] theorem raise_window (f : Attn) : (s.raise f).window = s.window := rfl
@[simp] theorem raise_roster (f : Attn) : (s.raise f).roster = s.roster := rfl
@[simp] theorem raise_table (f : Attn) : (s.raise f).table = s.table := rfl
@[simp] theorem raise_plan (f : Attn) : (s.raise f).plan = s.plan := rfl
@[simp] theorem raise_hall (f : Attn) : (s.raise f).hall = s.hall := rfl
@[simp] theorem raise_sync (f : Attn) : (s.raise f).sync = s.sync := rfl
@[simp] theorem raise_discharge (f : Attn) : (s.raise f).discharge = s.discharge := rfl
@[simp] theorem raise_filter (f : Attn) : (s.raise f).filter = s.filter := rfl
@[simp] theorem raise_crusher (f : Attn) : (s.raise f).crusher = s.crusher := rfl
@[simp] theorem raise_measure (f : Attn) : (s.raise f).measure = s.measure := rfl
@[simp] theorem raise_seq (f : Attn) : (s.raise f).seq = s.seq := rfl
@[simp] theorem raise_tone (f : Attn) : (s.raise f).tone = s.tone := rfl
@[simp] theorem raise_mode (f : Attn) : (s.raise f).mode = s.mode := rfl
@[simp] theorem raise_pins (f : Attn) : (s.raise f).pins = s.pins := rfl
@[simp] theorem raise_counters (f : Attn) : (s.raise f).counters = s.counters := rfl
@[simp] theorem raise_inReset (f : Attn) : (s.raise f).inReset = s.inReset := rfl
@[simp] theorem raise_pending (f : Attn) : (s.raise f).pending = s.pending := rfl
@[simp] theorem raise_reports (f : Attn) : (s.raise f).reports = s.reports := rfl
@[simp] theorem raise_result (f : Attn) : (s.raise f).port.result = s.port.result := rfl
@[simp] theorem raise_sdo (f : Attn) : (s.raise f).port.sdo = s.port.sdo := rfl
@[simp] theorem raise_copy (f : Attn) : (s.raise f).port.copy = s.port.copy := rfl
@[simp] theorem raise_flags (f : Attn) : (s.raise f).port.flags = s.port.flags ||| f.word := rfl

/-! ## setQueue -/

@[simp] theorem setQueue_cfg (q : List QFrame) : (s.setQueue q).cfg = s.cfg := rfl
@[simp] theorem setQueue_queue (q : List QFrame) : (s.setQueue q).trunk.queue = q := rfl
@[simp] theorem setQueue_line (q : List QFrame) : (s.setQueue q).trunk.line = s.trunk.line := rfl
@[simp] theorem setQueue_busy (q : List QFrame) : (s.setQueue q).trunk.busy = s.trunk.busy := rfl
@[simp] theorem setQueue_window (q : List QFrame) : (s.setQueue q).window = s.window := rfl
@[simp] theorem setQueue_roster (q : List QFrame) : (s.setQueue q).roster = s.roster := rfl
@[simp] theorem setQueue_table (q : List QFrame) : (s.setQueue q).table = s.table := rfl
@[simp] theorem setQueue_plan (q : List QFrame) : (s.setQueue q).plan = s.plan := rfl
@[simp] theorem setQueue_hall (q : List QFrame) : (s.setQueue q).hall = s.hall := rfl
@[simp] theorem setQueue_sync (q : List QFrame) : (s.setQueue q).sync = s.sync := rfl
@[simp] theorem setQueue_discharge (q : List QFrame) : (s.setQueue q).discharge = s.discharge := rfl
@[simp] theorem setQueue_filter (q : List QFrame) : (s.setQueue q).filter = s.filter := rfl
@[simp] theorem setQueue_crusher (q : List QFrame) : (s.setQueue q).crusher = s.crusher := rfl
@[simp] theorem setQueue_measure (q : List QFrame) : (s.setQueue q).measure = s.measure := rfl
@[simp] theorem setQueue_seq (q : List QFrame) : (s.setQueue q).seq = s.seq := rfl
@[simp] theorem setQueue_tone (q : List QFrame) : (s.setQueue q).tone = s.tone := rfl
@[simp] theorem setQueue_mode (q : List QFrame) : (s.setQueue q).mode = s.mode := rfl
@[simp] theorem setQueue_port (q : List QFrame) : (s.setQueue q).port = s.port := rfl
@[simp] theorem setQueue_pins (q : List QFrame) : (s.setQueue q).pins = s.pins := rfl
@[simp] theorem setQueue_counters (q : List QFrame) : (s.setQueue q).counters = s.counters := rfl
@[simp] theorem setQueue_inReset (q : List QFrame) : (s.setQueue q).inReset = s.inReset := rfl
@[simp] theorem setQueue_pending (q : List QFrame) : (s.setQueue q).pending = s.pending := rfl

/-! ## setLots and mapLots -/

@[simp] theorem setLots_lots (l : List Lot) : (s.setLots l).discharge.lots = l := rfl
@[simp] theorem setLots_progress (l : List Lot) : (s.setLots l).discharge.progress = s.discharge.progress := rfl
@[simp] theorem setLots_held (l : List Lot) : (s.setLots l).discharge.held = s.discharge.held := rfl
@[simp] theorem setLots_beltFault (l : List Lot) : (s.setLots l).discharge.beltFault = s.discharge.beltFault := rfl
@[simp] theorem setLots_pendingDones (l : List Lot) : (s.setLots l).discharge.pending = s.discharge.pending := rfl
@[simp] theorem mapLots_lots (f : Lot → Lot) : (s.mapLots f).discharge.lots = s.discharge.lots.map f := rfl
@[simp] theorem mapLots_progress (f : Lot → Lot) : (s.mapLots f).discharge.progress = s.discharge.progress := rfl
@[simp] theorem mapLots_held (f : Lot → Lot) : (s.mapLots f).discharge.held = s.discharge.held := rfl
@[simp] theorem mapLots_cfg (f : Lot → Lot) : (s.mapLots f).cfg = s.cfg := rfl
@[simp] theorem mapLots_trunk (f : Lot → Lot) : (s.mapLots f).trunk = s.trunk := rfl
@[simp] theorem mapLots_table (f : Lot → Lot) : (s.mapLots f).table = s.table := rfl
@[simp] theorem mapLots_sync (f : Lot → Lot) : (s.mapLots f).sync = s.sync := rfl
@[simp] theorem mapLots_seq (f : Lot → Lot) : (s.mapLots f).seq = s.seq := rfl
@[simp] theorem mapLots_mode (f : Lot → Lot) : (s.mapLots f).mode = s.mode := rfl
@[simp] theorem mapLots_hall (f : Lot → Lot) : (s.mapLots f).hall = s.hall := rfl
@[simp] theorem mapLots_window (f : Lot → Lot) : (s.mapLots f).window = s.window := rfl

/-! ## mapFilter and mapCrusher -/

@[simp] theorem mapFilter_filter (f : FilterState → FilterState) : (s.mapFilter f).filter = f s.filter := rfl
@[simp] theorem mapFilter_cfg (f : FilterState → FilterState) : (s.mapFilter f).cfg = s.cfg := rfl
@[simp] theorem mapFilter_trunk (f : FilterState → FilterState) : (s.mapFilter f).trunk = s.trunk := rfl
@[simp] theorem mapFilter_table (f : FilterState → FilterState) : (s.mapFilter f).table = s.table := rfl
@[simp] theorem mapFilter_sync (f : FilterState → FilterState) : (s.mapFilter f).sync = s.sync := rfl
@[simp] theorem mapFilter_seq (f : FilterState → FilterState) : (s.mapFilter f).seq = s.seq := rfl
@[simp] theorem mapFilter_mode (f : FilterState → FilterState) : (s.mapFilter f).mode = s.mode := rfl
@[simp] theorem mapFilter_discharge (f : FilterState → FilterState) : (s.mapFilter f).discharge = s.discharge := rfl
@[simp] theorem mapCrusher_crusher (f : CrusherState → CrusherState) : (s.mapCrusher f).crusher = f s.crusher := rfl
@[simp] theorem mapCrusher_cfg (f : CrusherState → CrusherState) : (s.mapCrusher f).cfg = s.cfg := rfl
@[simp] theorem mapCrusher_trunk (f : CrusherState → CrusherState) : (s.mapCrusher f).trunk = s.trunk := rfl
@[simp] theorem mapCrusher_table (f : CrusherState → CrusherState) : (s.mapCrusher f).table = s.table := rfl
@[simp] theorem mapCrusher_sync (f : CrusherState → CrusherState) : (s.mapCrusher f).sync = s.sync := rfl
@[simp] theorem mapCrusher_seq (f : CrusherState → CrusherState) : (s.mapCrusher f).seq = s.seq := rfl
@[simp] theorem mapCrusher_mode (f : CrusherState → CrusherState) : (s.mapCrusher f).mode = s.mode := rfl
@[simp] theorem mapCrusher_discharge (f : CrusherState → CrusherState) :
    (s.mapCrusher f).discharge = s.discharge := rfl

/-! ## The claim records, the hall condition and the roster -/

@[simp] theorem setClaims_claims (l : List Claim) : (s.setClaims l).table.claims = l := rfl
@[simp] theorem setClaims_nextId (l : List Claim) : (s.setClaims l).table.nextId = s.table.nextId := rfl
@[simp] theorem setClaims_cfg (l : List Claim) : (s.setClaims l).cfg = s.cfg := rfl
@[simp] theorem setClaims_trunk (l : List Claim) : (s.setClaims l).trunk = s.trunk := rfl
@[simp] theorem setClaims_roster (l : List Claim) : (s.setClaims l).roster = s.roster := rfl
@[simp] theorem setClaims_hall (l : List Claim) : (s.setClaims l).hall = s.hall := rfl
@[simp] theorem setClaims_seq (l : List Claim) : (s.setClaims l).seq = s.seq := rfl
@[simp] theorem setClaims_discharge (l : List Claim) : (s.setClaims l).discharge = s.discharge := rfl
@[simp] theorem setHall_hall (h : HallState) : (s.setHall h).hall = h := rfl
@[simp] theorem setHall_cfg (h : HallState) : (s.setHall h).cfg = s.cfg := rfl
@[simp] theorem setHall_trunk (h : HallState) : (s.setHall h).trunk = s.trunk := rfl
@[simp] theorem setHall_roster (h : HallState) : (s.setHall h).roster = s.roster := rfl
@[simp] theorem setHall_table (h : HallState) : (s.setHall h).table = s.table := rfl
@[simp] theorem setHall_seq (h : HallState) : (s.setHall h).seq = s.seq := rfl
@[simp] theorem setHall_discharge (h : HallState) : (s.setHall h).discharge = s.discharge := rfl
@[simp] theorem setRoster_roster (l : List RosterEntry) : (s.setRoster l).roster = l := rfl
@[simp] theorem setRoster_cfg (l : List RosterEntry) : (s.setRoster l).cfg = s.cfg := rfl
@[simp] theorem setRoster_trunk (l : List RosterEntry) : (s.setRoster l).trunk = s.trunk := rfl
@[simp] theorem setRoster_table (l : List RosterEntry) : (s.setRoster l).table = s.table := rfl
@[simp] theorem setRoster_hall (l : List RosterEntry) : (s.setRoster l).hall = s.hall := rfl
@[simp] theorem setRoster_seq (l : List RosterEntry) : (s.setRoster l).seq = s.seq := rfl
@[simp] theorem setRoster_discharge (l : List RosterEntry) : (s.setRoster l).discharge = s.discharge := rfl

/-! ## The sync, mode and trunk records -/

@[simp] theorem mapSync_sync (f : SyncState → SyncState) : (s.mapSync f).sync = f s.sync := rfl
@[simp] theorem mapSync_cfg (f : SyncState → SyncState) : (s.mapSync f).cfg = s.cfg := rfl
@[simp] theorem mapSync_trunk (f : SyncState → SyncState) : (s.mapSync f).trunk = s.trunk := rfl
@[simp] theorem mapSync_table (f : SyncState → SyncState) : (s.mapSync f).table = s.table := rfl
@[simp] theorem mapSync_roster (f : SyncState → SyncState) : (s.mapSync f).roster = s.roster := rfl
@[simp] theorem mapSync_hall (f : SyncState → SyncState) : (s.mapSync f).hall = s.hall := rfl
@[simp] theorem mapSync_seq (f : SyncState → SyncState) : (s.mapSync f).seq = s.seq := rfl
@[simp] theorem mapSync_mode (f : SyncState → SyncState) : (s.mapSync f).mode = s.mode := rfl
@[simp] theorem mapSync_discharge (f : SyncState → SyncState) : (s.mapSync f).discharge = s.discharge := rfl
@[simp] theorem mapMode_mode (f : ModeState → ModeState) : (s.mapMode f).mode = f s.mode := rfl
@[simp] theorem mapMode_cfg (f : ModeState → ModeState) : (s.mapMode f).cfg = s.cfg := rfl
@[simp] theorem mapMode_trunk (f : ModeState → ModeState) : (s.mapMode f).trunk = s.trunk := rfl
@[simp] theorem mapMode_table (f : ModeState → ModeState) : (s.mapMode f).table = s.table := rfl
@[simp] theorem mapMode_roster (f : ModeState → ModeState) : (s.mapMode f).roster = s.roster := rfl
@[simp] theorem mapMode_hall (f : ModeState → ModeState) : (s.mapMode f).hall = s.hall := rfl
@[simp] theorem mapMode_sync (f : ModeState → ModeState) : (s.mapMode f).sync = s.sync := rfl
@[simp] theorem mapMode_seq (f : ModeState → ModeState) : (s.mapMode f).seq = s.seq := rfl
@[simp] theorem mapMode_discharge (f : ModeState → ModeState) : (s.mapMode f).discharge = s.discharge := rfl
@[simp] theorem mapTrunk_trunk (f : TrunkState → TrunkState) : (s.mapTrunk f).trunk = f s.trunk := rfl
@[simp] theorem mapTrunk_cfg (f : TrunkState → TrunkState) : (s.mapTrunk f).cfg = s.cfg := rfl
@[simp] theorem mapTrunk_table (f : TrunkState → TrunkState) : (s.mapTrunk f).table = s.table := rfl
@[simp] theorem mapTrunk_roster (f : TrunkState → TrunkState) : (s.mapTrunk f).roster = s.roster := rfl
@[simp] theorem mapTrunk_hall (f : TrunkState → TrunkState) : (s.mapTrunk f).hall = s.hall := rfl
@[simp] theorem mapTrunk_sync (f : TrunkState → TrunkState) : (s.mapTrunk f).sync = s.sync := rfl
@[simp] theorem mapTrunk_mode (f : TrunkState → TrunkState) : (s.mapTrunk f).mode = s.mode := rfl
@[simp] theorem mapTrunk_seq (f : TrunkState → TrunkState) : (s.mapTrunk f).seq = s.seq := rfl
@[simp] theorem mapTrunk_discharge (f : TrunkState → TrunkState) : (s.mapTrunk f).discharge = s.discharge := rfl

/-! ## The sequencer, the port and a start -/

@[simp] theorem takeSeq_seq (r : SeqResult) : (s.takeSeq r).seq = r.seq := rfl
@[simp] theorem takeSeq_reports (r : SeqResult) : (s.takeSeq r).reports = s.reports ++ r.reports := rfl
@[simp] theorem takeSeq_cfg (r : SeqResult) : (s.takeSeq r).cfg = s.cfg := rfl
@[simp] theorem takeSeq_trunk (r : SeqResult) : (s.takeSeq r).trunk = s.trunk := rfl
@[simp] theorem takeSeq_table (r : SeqResult) : (s.takeSeq r).table = s.table := rfl
@[simp] theorem takeSeq_sync (r : SeqResult) : (s.takeSeq r).sync = s.sync := rfl
@[simp] theorem takeSeq_mode (r : SeqResult) : (s.takeSeq r).mode = s.mode := rfl
@[simp] theorem takeSeq_hall (r : SeqResult) : (s.takeSeq r).hall = s.hall := rfl
@[simp] theorem takeSeq_discharge (r : SeqResult) : (s.takeSeq r).discharge = s.discharge := rfl
@[simp] theorem takeSeq_filter (r : SeqResult) : (s.takeSeq r).filter = s.filter := rfl
@[simp] theorem transact_flags (n : Nat) (b : List Byte) (r : PortResult) :
    (s.transact n b r).port.flags = s.port.flags := rfl
@[simp] theorem transact_result (n : Nat) (b : List Byte) (r : PortResult) :
    (s.transact n b r).port.result = r := rfl
@[simp] theorem transact_sdo (n : Nat) (b : List Byte) (r : PortResult) :
    (s.transact n b r).port.sdo = resultCode s.port.result :: List.replicate n 0 ++ b := rfl
@[simp] theorem transact_copy (n : Nat) (b : List Byte) (r : PortResult) :
    (s.transact n b r).port.copy = none := rfl
@[simp] theorem start_pins (c : StartCause) : (s.start c).pins = s.pins := rfl
@[simp] theorem start_pending (c : StartCause) : (s.start c).pending = s.pending := rfl
@[simp] theorem start_startCause (c : StartCause) : (s.start c).mode.startCause = c := rfl
@[simp] theorem start_mode (c : StartCause) : (s.start c).mode.mode = .startHold := rfl
@[simp] theorem start_claims (c : StartCause) : (s.start c).table.claims = [] := rfl
@[simp] theorem start_queue (c : StartCause) : (s.start c).trunk.queue = [] := rfl

end Sys2Proof.Machine
end

