-- ==== Sys2Proof/Laws/Untouched.lean ====
section
/-! SUPPORT. What the shared operations over requests, the role units and the sequencer leave alone: one lemma per
operation, each saying `Untouched s (op s)`. A proof that needs a field after such an operation cites these
and never unfolds it. -/

namespace Sys2Proof.Machine

theorem Untouched.refl (s : State) : Untouched s s where
  cfg := rfl
  trunk := rfl
  window := rfl
  roster := rfl
  claims := rfl
  plan := rfl
  hall := rfl
  sync := rfl
  lotsHeld := rfl
  flushHeld := rfl
  band := rfl
  crusher := rfl
  measure := rfl
  drives := ⟨rfl, rfl, rfl⟩
  tone := rfl
  mode := rfl
  port := rfl
  flags := BitVec.and_self
  pins := rfl
  counters := rfl
  inReset := rfl
  pending := rfl

theorem Untouched.trans {a b c : State} (h : Untouched a b) (k : Untouched b c) : Untouched a c where
  cfg := k.cfg.trans h.cfg
  trunk := by rw [← h.trunk, ← k.trunk]
  window := k.window.trans h.window
  roster := k.roster.trans h.roster
  claims := k.claims.trans h.claims
  plan := k.plan.trans h.plan
  hall := k.hall.trans h.hall
  sync := by rw [← h.sync, ← k.sync]
  lotsHeld := k.lotsHeld.trans h.lotsHeld
  flushHeld := k.flushHeld.trans h.flushHeld
  band := k.band.trans h.band
  crusher := by rw [← h.crusher, ← k.crusher]
  measure := by rw [← h.measure, ← k.measure]
  drives := ⟨k.drives.1.trans h.drives.1, k.drives.2.1.trans h.drives.2.1, k.drives.2.2.trans h.drives.2.2⟩
  tone := k.tone.trans h.tone
  mode := k.mode.trans h.mode
  port := by rw [← h.port, ← k.port]
  flags := by
    have h1 := h.flags
    have h2 := k.flags
    rw [← h1, BitVec.and_assoc, h2]
  pins := k.pins.trans h.pins
  counters := by rw [← h.counters, ← k.counters]
  inReset := k.inReset.trans h.inReset
  pending := k.pending.trans h.pending

/-- Composition from the last operation backward. -/
theorem Untouched.after {a b c : State} (k : Untouched b c) (h : Untouched a b) : Untouched a c := h.trans k

theorem untouched_foldl {α : Type} (f : State → α → State) (hf : ∀ s x, Untouched s (f s x)) (l : List α)
    (s : State) : Untouched s (l.foldl f s) := by
  induction l generalizing s with
  | nil => exact .refl s
  | cons x r ih => exact (hf s x).trans (ih _)

/-! ## Fields that follow -/

theorem Untouched.own_eq {s t : State} (h : Untouched s t) : t.own = s.own := by
  unfold State.own; rw [h.cfg]

theorem Untouched.line_eq {s t : State} (h : Untouched s t) : t.trunk.line = s.trunk.line := by
  rw [← h.trunk]

theorem Untouched.busy_eq {s t : State} (h : Untouched s t) : t.trunk.busy = s.trunk.busy := by
  rw [← h.trunk]

theorem Untouched.status_eq {s t : State} (h : Untouched s t) : t.sync.status = s.sync.status := by
  rw [← h.sync]

theorem Untouched.result_eq {s t : State} (h : Untouched s t) : t.port.result = s.port.result := by
  rw [← h.port]

theorem Untouched.surge_eq {s t : State} (h : Untouched s t) : t.crusher.surge = s.crusher.surge := by
  rw [← h.crusher]

theorem Untouched.awake_eq {s t : State} (h : Untouched s t) : t.awake = s.awake := by
  unfold State.awake; rw [h.mode, h.inReset]

/-! ## Primitive updates -/

section
variable (s : State)

theorem untouched_report (r : Report) : Untouched s (s.report r) := { Untouched.refl s with }

theorem untouched_raise (f : Attn) : Untouched s (s.raise f) :=
  { Untouched.refl s with flags := by ext i; simp +contextual }

theorem untouched_setQueue (q : List QFrame) : Untouched s (s.setQueue q) := { Untouched.refl s with }

theorem untouched_mapLots (f : Lot → Lot) : Untouched s (s.mapLots f) := { Untouched.refl s with }

theorem untouched_setDischarge (d : DischargeState) (h : d.held = s.discharge.held) :
    Untouched s { s with discharge := d } := { Untouched.refl s with lotsHeld := h }

theorem untouched_setLots (l : List Lot) : Untouched s (s.setLots l) := { Untouched.refl s with }

theorem untouched_mapFilter (f : FilterState → FilterState)
    (h : (f s.filter).held = s.filter.held ∧ (f s.filter).band = s.filter.band) :
    Untouched s (s.mapFilter f) :=
  { Untouched.refl s with flushHeld := h.1, band := h.2 }

theorem untouched_countShort : Untouched s s.countShort := { Untouched.refl s with }

theorem untouched_requestCapture (ch : Fin 4) : Untouched s (s.requestCapture ch) := by
  unfold State.requestCapture
  split
  · exact { Untouched.refl s with }
  · exact untouched_report s _

theorem untouched_issued (id : Byte) : Untouched s (s.issued id) := { Untouched.refl s with }

theorem untouched_takeSeq (r : SeqResult)
    (h : r.seq.out0 = s.seq.out0 ∧ r.seq.out1 = s.seq.out1 ∧ r.seq.phase = s.seq.phase) :
    Untouched s (s.takeSeq r) :=
  { Untouched.refl s with drives := h }

/-! ## The sequencer keeps its outputs -/

theorem write_outs (q : SeqState) :
    q.write.out0 = q.out0 ∧ q.write.out1 = q.out1 ∧ q.write.phase = q.phase := by
  unfold SeqState.write; split <;> exact ⟨rfl, rfl, rfl⟩

theorem request_outs (q : SeqState) (o : Op) :
    (q.request o).seq.out0 = q.out0 ∧ (q.request o).seq.out1 = q.out1 ∧ (q.request o).seq.phase = q.phase := by
  unfold SeqState.request
  split
  · exact write_outs _
  · split
    · exact write_outs _
    · split
      · exact ⟨rfl, rfl, rfl⟩
      · split <;> exact ⟨rfl, rfl, rfl⟩

theorem chooseNext_outs (q : SeqState) :
    q.chooseNext.seq.out0 = q.out0 ∧ q.chooseNext.seq.out1 = q.out1 ∧ q.chooseNext.seq.phase = q.phase := by
  unfold SeqState.chooseNext
  split
  · exact write_outs _
  · exact write_outs _
  · exact write_outs _
  · split <;> exact write_outs _

theorem endRunning_outs (q : SeqState) (r : OpReport) :
    (q.endRunning r).seq.out0 = q.out0 ∧ (q.endRunning r).seq.out1 = q.out1
      ∧ (q.endRunning r).seq.phase = q.phase := by
  unfold SeqState.endRunning
  split
  · exact ⟨rfl, rfl, rfl⟩
  · exact chooseNext_outs _

theorem cancel_outs (q : SeqState) (k : OpKind) :
    (q.cancel k).seq.out0 = q.out0 ∧ (q.cancel k).seq.out1 = q.out1 ∧ (q.cancel k).seq.phase = q.phase := by
  unfold SeqState.cancel
  split
  · exact endRunning_outs q _
  · split
    · exact ⟨rfl, rfl, rfl⟩
    · split
      · split <;> exact ⟨rfl, rfl, rfl⟩
      · exact ⟨rfl, rfl, rfl⟩

theorem untouched_cancelOp (k : OpKind) : Untouched s (s.cancelOp k) := untouched_takeSeq s _ (cancel_outs _ k)

theorem untouched_completeOp (k : OpKind) : Untouched s (s.completeOp k) := by
  unfold State.completeOp
  split
  · exact untouched_takeSeq s _ (endRunning_outs _ _)
  · exact .refl s

/-! ## Fates and requests -/

theorem untouched_claimFate (id : Byte) (f : Fate) : Untouched s (s.claimFate id f) := by
  unfold State.claimFate
  split
  · exact { Untouched.refl s with }
  · have h : (s.filter.claimFate id f).held = s.filter.held ∧ (s.filter.claimFate id f).band = s.filter.band := by
      unfold FilterState.claimFate
      split
      · split <;> exact ⟨rfl, rfl⟩
      · exact ⟨rfl, rfl⟩
    exact { Untouched.refl s with flushHeld := h.1, band := h.2 }
  · exact .refl s

theorem untouched_doneFate (b : DoneBody) (f : Fate) : Untouched s (s.doneFate b f) := by
  unfold State.doneFate
  split
  · exact { Untouched.refl s with }
  · have h : (s.filter.doneFate b f).held = s.filter.held ∧ (s.filter.doneFate b f).band = s.filter.band := by
      unfold FilterState.doneFate
      split
      · split <;> exact ⟨rfl, rfl⟩
      · exact ⟨rfl, rfl⟩
    exact { Untouched.refl s with flushHeld := h.1, band := h.2 }
  · exact .refl s

theorem untouched_askFate (f : Fate) : Untouched s (s.askFate f) := { Untouched.refl s with }

/-- Reporting a fate changes only what the requesting block keeps of its request. -/
theorem untouched_deliver (who : Block) (b : QBody) (f : Fate) : Untouched s (s.deliver who b f) := by
  unfold State.deliver
  simp only
  split
  · exact (untouched_report s _).trans (untouched_claimFate _ _ _)
  · exact (untouched_report s _).trans (untouched_doneFate _ _ _)
  · exact (untouched_report s _).trans (untouched_askFate _ _)
  · exact untouched_report s _

theorem untouched_deliverAll (l : List (Block × QBody × Fate)) : Untouched s (s.deliverAll l) := by
  unfold State.deliverAll
  exact untouched_foldl _ (fun t x => untouched_deliver t x.1 x.2.1 x.2.2) l s

/-- A request changes the queue and what the requesting blocks keep of their requests. -/
theorem untouched_request (b : QBody) (who : Block) (urgent : Bool) : Untouched s (s.request b who urgent) :=
  ((untouched_setQueue s _).trans (untouched_deliverAll _ _)).trans (untouched_deliver _ _ _ _)

theorem untouched_pull (p : QFrame → Bool) : Untouched s (s.pull p) :=
  (untouched_setQueue s _).trans (untouched_deliverAll _ _)

theorem untouched_pullWaiting (p : QFrame → Bool) : Untouched s (s.pullWaiting p) := untouched_pull s _

theorem untouched_dropAll (why : DropReason) : Untouched s (s.dropAll why) :=
  (untouched_setQueue s _).trans (untouched_deliverAll _ _)

/-! ## Lots and discharges -/

theorem untouched_sealOpen (why : SealReason) : Untouched s (s.sealOpen why) := by
  unfold State.sealOpen
  split
  · exact (untouched_mapLots s _).trans (untouched_requestCapture _ _)
  · exact .refl s

theorem untouched_sealAged : Untouched s s.sealAged := by
  unfold State.sealAged
  split
  · exact untouched_sealOpen s _
  · exact .refl s

theorem untouched_requestDone (b : DoneBody) : Untouched s (s.requestDone b) :=
  (untouched_request _ _ _ _).after (untouched_setDischarge s _ rfl)

/-- A discharge that ends short touches the role unit, the sequencer and the queue only. -/
theorem untouched_endDischarge : Untouched s s.endDischarge := by
  unfold State.endDischarge
  split
  · refine (untouched_requestDone _ _).after ((untouched_raise _ _).after ((untouched_countShort _).after ?_))
    exact (untouched_setDischarge _ _ (by exact rfl)).after (untouched_cancelOp s _)
  · exact .refl s

theorem untouched_withdrawLot (id : Byte) : Untouched s (s.withdrawLot id) :=
  (untouched_mapLots s _).trans (untouched_request _ _ _ _)

theorem untouched_withdrawLots (l : List Byte) : Untouched s (s.withdrawLots l) :=
  untouched_foldl _ untouched_withdrawLot l s

theorem untouched_withdrawOrphanLots : Untouched s s.withdrawOrphanLots := untouched_withdrawLots s _

theorem untouched_lotRemoved (id : Byte) (why : RemovalReason) : Untouched s (s.lotRemoved id why) := by
  unfold State.lotRemoved
  split
  · split
    · exact .refl s
    · exact untouched_endDischarge s
  · split
    · exact .refl s
    · exact untouched_mapLots s _

/-! ## Flushes -/

theorem untouched_withdrawFlush : Untouched s s.withdrawFlush := by
  unfold State.withdrawFlush
  split
  · split
    · exact .refl s
    · exact (untouched_mapFilter s _ ⟨rfl, rfl⟩).trans (untouched_request _ _ _ _)
  · exact .refl s

theorem untouched_requestFlushDone (b : DoneBody) : Untouched s (s.requestFlushDone b) :=
  (untouched_mapFilter s _ ⟨rfl, rfl⟩).trans (untouched_request _ _ _ _)

/-- A flush that ends short touches the role unit, the sequencer and the queue only. -/
theorem untouched_endFlush (next : FilterMode) (n : Nat) : Untouched s (s.endFlush next n) := by
  unfold State.endFlush
  split
  · exact ((untouched_cancelOp s .flush).trans (untouched_mapFilter _ _ ⟨rfl, rfl⟩)).trans
      ((untouched_countShort _).trans (untouched_requestFlushDone _ _))
  · exact .refl s

theorem untouched_withdrawOrphanFlushes : Untouched s s.withdrawOrphanFlushes :=
  untouched_foldl _ (fun s _ => untouched_request s _ _ _) _ s

theorem untouched_flushRemoved (id : Byte) (why : RemovalReason) : Untouched s (s.flushRemoved id why) := by
  unfold State.flushRemoved
  split
  · split
    · exact untouched_endFlush s _ _
    · exact untouched_mapFilter s _ ⟨rfl, rfl⟩
  · exact .refl s

theorem untouched_rerank (rank : Nat) : Untouched s (s.rerank rank) := by
  unfold State.rerank
  split
  · split
    · exact (untouched_mapFilter s _ ⟨rfl, rfl⟩).trans (untouched_request _ _ _ _)
    · exact .refl s
  · exact .refl s

/-! ## The crusher -/

theorem untouched_mapCrusher_mode (f : CrusherState → CrusherState)
    (h : { f s.crusher with mode := s.crusher.mode, attempts := s.crusher.attempts,
                            recurrence := s.crusher.recurrence } = s.crusher) :
    Untouched s (s.mapCrusher f) := { Untouched.refl s with crusher := h }

theorem untouched_requestGate : Untouched s s.requestGate := by
  unfold State.requestGate
  split
  · exact untouched_request s _ _ _
  · exact .refl s

theorem untouched_compareStop : Untouched s s.compareStop := by
  unfold State.compareStop
  dsimp only
  split
  · split
    · split
      · exact untouched_pullWaiting s _
      · exact (untouched_pullWaiting s _).trans (untouched_request _ _ _ _)
    · exact .refl s
  · exact .refl s

theorem untouched_tellHall : Untouched s s.tellHall := (untouched_requestGate s).trans (untouched_compareStop _)

theorem untouched_reverseEnded : Untouched s s.reverseEnded :=
  (untouched_mapCrusher_mode s _ rfl).trans (untouched_tellHall _)

/-- An operation requested, with what its owner does when another of its operations is abandoned for it. -/
theorem untouched_requestOp (o : Op) : Untouched s (s.requestOp o) := by
  unfold State.requestOp
  have h := untouched_takeSeq s (s.seq.request o) (request_outs _ o)
  dsimp only
  split
  · exact h.trans (untouched_endDischarge _)
  · exact h.trans (untouched_reverseEnded _)
  · exact h.trans (untouched_endFlush _ _ _)
  · exact h

theorem untouched_jam : Untouched s s.jam := by
  unfold State.jam
  split
  · generalize (if s.crusher.recurrence.isSome then min (s.crusher.attempts + 1) 3 else 1) = n
    dsimp only
    split
    · exact (untouched_tellHall _).after ((untouched_requestOp _ _).after
        ((untouched_mapCrusher_mode _ _ rfl).after (untouched_mapCrusher_mode s _ rfl)))
    · exact (untouched_tellHall _).after ((untouched_raise _ _).after ((untouched_mapCrusher_mode _ _ rfl).after
        ((untouched_cancelOp _ _).after (untouched_mapCrusher_mode s _ rfl))))
  · exact .refl s

theorem untouched_finishReverse : Untouched s s.finishReverse := by
  unfold State.finishReverse
  split
  · exact (untouched_completeOp s _).trans (untouched_reverseEnded _)
  · exact .refl s

theorem untouched_clearJam : Untouched s s.clearJam := by
  unfold State.clearJam
  dsimp only
  split
  · exact (untouched_mapCrusher_mode s _ rfl).trans (untouched_tellHall _)
  · exact ((untouched_cancelOp s _).trans (untouched_mapCrusher_mode _ _ rfl)).trans (untouched_tellHall _)
  · exact untouched_mapCrusher_mode s _ rfl

/-! ## Completions and posts -/

theorem untouched_finishIndex : Untouched s s.finishIndex := by
  unfold State.finishIndex
  split
  · exact (untouched_completeOp s _).trans (untouched_mapLots _ _)
  · exact .refl s

theorem untouched_completeDischarge : Untouched s s.completeDischarge := by
  unfold State.completeDischarge
  split
  · exact (untouched_requestDone _ _).after ((untouched_setDischarge _ _ (by exact rfl)).after (untouched_completeOp s _))
  · exact .refl s

theorem untouched_countTravel : Untouched s s.countTravel := by
  unfold State.countTravel
  split
  · exact untouched_mapLots s _
  · split
    · split
      · dsimp only
        split
        · exact (untouched_completeDischarge _).after (untouched_setDischarge s _ rfl)
        · exact untouched_setDischarge s _ rfl
      · exact .refl s
    · exact .refl s

theorem closeBypass_kept (u : FilterState) : u.closeBypass.held = u.held ∧ u.closeBypass.band = u.band := by
  unfold FilterState.closeBypass
  split <;> exact ⟨rfl, rfl⟩

theorem untouched_finishFlush : Untouched s s.finishFlush := by
  unfold State.finishFlush
  split
  · split
    · exact (untouched_requestFlushDone _ _).after ((untouched_mapFilter _ _ (by exact closeBypass_kept _)).after
        (untouched_completeOp s _))
    · exact .refl s
  · exact .refl s

theorem untouched_finishOp (k : OpKind) : Untouched s (s.finishOp k) := by
  unfold State.finishOp
  split
  · exact untouched_finishIndex s
  · exact untouched_finishFlush s
  · exact untouched_finishReverse s
  · exact .refl s

theorem untouched_pumpFault : Untouched s s.pumpFault := by
  unfold State.pumpFault
  dsimp only
  refine (untouched_raise _ _).after ((untouched_foldl _ (fun s _ => untouched_request s _ _ _) _ _).after ?_)
  exact (untouched_withdrawOrphanFlushes _).after ((untouched_mapFilter _ _ ⟨rfl, rfl⟩).after
    (untouched_endFlush s _ _))

theorem untouched_startDischarge (m : Window) : Untouched s (s.startDischarge m) := by
  unfold State.startDischarge
  split
  · exact (untouched_requestOp _ _).after (untouched_setDischarge s _ rfl)
  · exact .refl s

theorem untouched_startFlush (m : Window) : Untouched s (s.startFlush m) :=
  (untouched_mapFilter s _ ⟨rfl, rfl⟩).trans (untouched_requestOp _ _)

theorem untouched_enterBeltFault : Untouched s s.enterBeltFault := by
  unfold State.enterBeltFault
  split
  · exact .refl s
  · exact (untouched_raise _ _).after ((untouched_withdrawLots _ _).after ((untouched_cancelOp _ _).after
      ((untouched_endDischarge _).after (untouched_setDischarge s _ rfl))))

theorem untouched_postLot : Untouched s s.postLot := by
  unfold State.postLot
  split
  · split
    · exact ((untouched_issued s _).trans (untouched_setLots _ _)).trans (untouched_request _ _ _ _)
    · exact .refl s
  · exact .refl s

theorem untouched_postFlush : Untouched s s.postFlush := by
  unfold State.postFlush
  split
  · exact ((untouched_issued s _).trans (untouched_mapFilter _ _ ⟨rfl, rfl⟩)).trans (untouched_request _ _ _ _)
  · exact .refl s

/-! ## Reports to the role unit -/

theorem untouched_roleRemoved (id : Byte) (why : RemovalReason) : Untouched s (s.roleRemoved id why) := by
  unfold State.roleRemoved
  dsimp only
  split
  · exact (untouched_report s _).trans (untouched_lotRemoved _ _ _)
  · exact (untouched_report s _).trans (untouched_flushRemoved _ _ _)
  · exact untouched_report s _

theorem untouched_roleAdmitted (id : Byte) : Untouched s (s.roleAdmitted id) := by
  unfold State.roleAdmitted
  dsimp only
  split
  · exact (untouched_report s _).trans (untouched_mapLots _ _)
  · exact (untouched_report s _).trans (untouched_mapFilter _ _ (by split <;> exact ⟨rfl, rfl⟩))
  · exact untouched_report s _

theorem untouched_roleRefused (id : Byte) (c : RefusalCause) : Untouched s (s.roleRefused id c) := by
  unfold State.roleRefused
  dsimp only
  split
  · exact (untouched_report s _).trans (untouched_mapLots _ _)
  · exact (untouched_report s _).trans (untouched_mapFilter _ _ (by split <;> exact ⟨rfl, rfl⟩))
  · exact untouched_report s _

theorem untouched_roleCommitted (id : Byte) (w : Window) : Untouched s (s.roleCommitted id w) := by
  unfold State.roleCommitted
  dsimp only
  split
  · exact (untouched_report s _).trans (untouched_mapLots _ _)
  · exact (untouched_report s _).trans (untouched_mapFilter _ _ (by split <;> exact ⟨rfl, rfl⟩))
  · exact untouched_report s _

theorem untouched_withdrawCommitted : Untouched s s.withdrawCommitted := by
  unfold State.withdrawCommitted
  split
  · exact untouched_withdrawLots s _
  · have h : Untouched s (if s.flushUnbegun then s.withdrawFlush else s) := by
      split
      · exact untouched_withdrawFlush s
      · exact .refl s
    refine h.trans (untouched_foldl _ (fun s id => ?_) _ _)
    split
    · exact .refl s
    · exact untouched_request s _ _ _
  · exact .refl s

theorem untouched_roleSyncLost : Untouched s s.roleSyncLost := by
  unfold State.roleSyncLost
  dsimp only
  split
  · exact ((untouched_report s _).trans (untouched_endDischarge _)).trans (untouched_withdrawCommitted _)
  · exact (untouched_report s _).trans (untouched_withdrawCommitted _)
  · exact untouched_report s _

theorem untouched_roleExcluded : Untouched s s.roleExcluded := by
  unfold State.roleExcluded
  dsimp only
  split
  · exact (untouched_report s _).trans (untouched_mapLots _ _)
  · refine (untouched_mapFilter _ _ ?_).after (untouched_report s _)
    generalize (s.report .excluded).filter = u
    cases u.mode <;> exact ⟨rfl, rfl⟩
  · exact untouched_report s _

theorem untouched_roleSyncGained : Untouched s s.roleSyncGained := by
  unfold State.roleSyncGained
  dsimp only
  split
  · exact (untouched_report s _).trans (untouched_tellHall _)
  · exact untouched_report s _

theorem untouched_roleLineActive : Untouched s s.roleLineActive := by
  unfold State.roleLineActive
  dsimp only
  split
  · exact (untouched_report s _).trans (untouched_tellHall _)
  · exact untouched_report s _

theorem untouched_roleStopTaken (a : Addr) (c : StopCause) : Untouched s (s.roleStopTaken a c) := by
  unfold State.roleStopTaken
  dsimp only
  split
  · exact ((untouched_report s _).trans (untouched_endDischarge _)).trans (untouched_withdrawCommitted _)
  · exact ((untouched_report s _).trans (untouched_endFlush _ _ _)).trans (untouched_withdrawCommitted _)
  · exact untouched_report s _

theorem untouched_roleSupplyLow : Untouched s s.roleSupplyLow := by
  unfold State.roleSupplyLow
  dsimp only
  split
  · exact ((untouched_report s _).trans (untouched_endDischarge _)).trans (untouched_withdrawLots _ _)
  · exact ((untouched_report s _).trans (untouched_endFlush _ _ _)).trans (untouched_withdrawFlush _)
  · exact untouched_report s _

/-! ## The standing conditions of the role units -/

theorem untouched_keepSealOrder (n : Nat) : Untouched s (State.keepSealOrder n s) := by
  induction n generalizing s with
  | zero => exact .refl s
  | succ n ih =>
    unfold State.keepSealOrder
    split
    · exact (untouched_withdrawLot s _).trans (ih _)
    · exact .refl s

theorem untouched_openLot : Untouched s s.openLot := by
  unfold State.openLot
  split
  · exact (untouched_requestCapture _ _).after (untouched_setDischarge s _ rfl)
  · exact .refl s

theorem untouched_requestIndex : Untouched s s.requestIndex := by
  unfold State.requestIndex
  split
  · exact untouched_requestOp s _
  · exact .refl s

theorem untouched_settleDischarge : Untouched s s.settleDischarge :=
  (((untouched_keepSealOrder s 6).trans (untouched_openLot _)).trans (untouched_requestIndex _)).trans
    (untouched_postLot _)

theorem untouched_settleCrusher (ran : Bool) : Untouched s (State.settleCrusher ran s) := by
  unfold State.settleCrusher
  have h : Untouched s (if s.mayFeed then s.requestOp (feedOp s.feedLevel) else s) := by
    split
    · exact untouched_requestOp s _
    · exact .refl s
  generalize (if s.mayFeed then s.requestOp (feedOp s.feedLevel) else s) = t at h ⊢
  dsimp only
  split
  · exact h.trans (untouched_jam _)
  · exact h

/-- The standing conditions of a role unit touch the role unit, the sequencer and the queue only. -/
theorem untouched_settleRole (ran : Bool) : Untouched s (State.settleRole ran s) := by
  unfold State.settleRole
  split
  · exact untouched_settleDischarge s
  · exact (untouched_mapFilter s _ (closeBypass_kept _)).trans (untouched_postFlush _)
  · exact untouched_settleCrusher s ran

theorem untouched_completeSpent (n : Nat) (k : Option OpKind) : Untouched s (State.completeSpent n k s) := by
  induction n generalizing s k with
  | zero => exact .refl s
  | succ n ih =>
    unfold State.completeSpent
    split
    · split
      · exact (untouched_finishOp s _).trans (ih _ _)
      · exact .refl s
    · exact .refl s

end

end Sys2Proof.Machine
end

