-- ==== Sys2Proof/Laws/Events.lean ====
section
/-! SUPPORT. What an event, a quiet event, a control command and the arrival of a frame come to: the spec lemmas that
a statement about a command cites instead of unfolding them. -/

namespace Sys2Proof.Machine

theorem notReset_of_awake {s : State} (h : s.awake = true) : s.inReset = false := by
  cases hr : s.inReset
  · rfl
  · simp [State.awake, hr] at h

theorem open_of_awake {s : State} (h : s.awake = true) : s.closed = false := by
  cases hm : s.mode.mode <;> simp_all [State.awake, State.closed]

theorem awake_of_listens {s : State} (h : s.listens = true) : s.awake = true := by
  simp only [State.listens, Bool.and_eq_true] at h
  exact h.1

/-- Outside reset an event applies its own effect to the cleared state and concludes. -/
theorem event_of_running (f : State → State) {s : State} (h : s.inReset = false) :
    s.event f = (f s.cleared).concluded s.seq := by
  simp [State.event, State.concluded, State.cleared, h]

/-- In reset nothing happens. -/
theorem event_in_reset (f : State → State) {s : State} (h : s.inReset = true) : s.event f = s.cleared := by
  simp [State.event, State.cleared, h]

/-- Outside reset a quiet event applies its own effect to the cleared state. -/
theorem quiet_of_running (f : State → State) {s : State} (h : s.inReset = false) : s.quiet f = f s.cleared := by
  simp [State.quiet, State.cleared, h]

theorem quiet_in_reset (f : State → State) {s : State} (h : s.inReset = true) : s.quiet f = s.cleared := by
  simp [State.quiet, State.cleared, h]

/-- A control command taken outside START_HOLD and DORMANT. -/
theorem command_of_open (args : Nat) (f : State → State × PortResult) {s : State} (h : s.inReset = false)
    (hc : s.closed = false) :
    s.command args f = ((f s.cleared).1.transact args [] (f s.cleared).2).concluded s.seq := by
  have hc' : s.cleared.closed = false := hc
  simp [State.command, event_of_running _ h, hc']

/-- A control command refused in START_HOLD and DORMANT. -/
theorem command_of_closed (args : Nat) (f : State → State × PortResult) {s : State} (h : s.inReset = false)
    (hc : s.closed = true) :
    s.command args f = (s.cleared.transact args [] .refusedState).concluded s.seq := by
  have hc' : s.cleared.closed = true := hc
  simp [State.command, event_of_running _ h, hc']

/-- A good listen-back leaves the configuration alone. -/
theorem ownGood_own (s : State) (g : QFrame) : (s.ownGood g).own = s.own := by
  unfold State.ownGood
  dsimp only
  have hg : ∀ t : State, (if g.followUp then t.requestGate else t).own = t.own := by
    intro t
    split
    · exact (untouched_requestGate t).own_eq
    · rfl
  rw [hg, (untouched_pullWaiting _ _).own_eq]
  change (State.deliver _ _ _ _).own = _
  rw [(untouched_deliver _ _ _ _).own_eq]
  rfl

/-- The blocks take a frame that arrives, in either form. -/
theorem takeFrame_of_arrival {α : Type} {kind : FrameKind} {informs : Bool} {bodyOf : Body → Option α}
    (take : Bool → Addr → α → State → State) {rx : Rx α} {s h : State} {own : Bool} {a : Addr} {b : α}
    (ha : s.arrival kind informs bodyOf rx = some (own, a, b, h)) :
    s.awake = true ∧ takeFrame kind informs bodyOf take rx s = take own a b h := by
  cases rx with
  | peer c d =>
    simp only [State.arrival] at ha
    split at ha
    · rename_i hl
      obtain ⟨rfl, rfl, rfl, rfl⟩ : false = own ∧ c = a ∧ d = b ∧ s.hearFrame c informs = h := by simpa using ha
      exact ⟨awake_of_listens hl, by simp [takeFrame, State.fromPeer, hl]⟩
    · cases ha
  | own =>
    simp only [State.arrival] at ha
    split at ha
    · rename_i g body hs
      split at ha
      · rename_i hw
        refine ⟨hw, ?_⟩
        cases hb : bodyOf body with
        | none => simp [hb] at ha
        | some x =>
          have hown := ownGood_own s g
          obtain ⟨rfl, rfl, rfl, rfl⟩ : true = own ∧ s.own = a ∧ x = b ∧ s.ownGood g = h := by
            simpa [hb] using ha
          simp [takeFrame, State.fromOwn, hs, hw, hb, hown]
      · cases ha
    · cases ha

end Sys2Proof.Machine
end

