-- ==== Sys2Proof/Tests/Slice0.lean ====
section
/-! SUPPORT. The author's own tests: ill-formed terms, the worked examples of the spec (whose expected values are
the spec's own), and for every statement with hypotheses a named witness that meets them. -/

namespace Sys2Proof.Tests

open Sys2Proof Sys2Proof.Machine

set_option Elab.async false

/-! ## Small stations -/

/-- A configuration of the role and address given, its fields within the ranges of R191. -/
def cfgOf (role : Role) (own : Addr) : Config where
  hall := ⟨1, 16, 100, 1, 4, List.replicate 6 ⟨20, 80⟩ ++ [⟨20, 60⟩], 0x1234⟩
  address := own
  role := role
  transit := if role = .discharge then 2 else if role = .filter then 1 else 0
  ceiling := 0
  mask := 0
  dormancy := true
  dormantDelay := 2
  supplyThreshold := 40
  channels := List.replicate 4 ⟨1, 100, 3400, 2⟩
  prescaler := 2
  stallTime := 10
  dis := ⟨3, 50, List.replicate 6 8, 20, 100, 80, 200⟩
  fil := ⟨4, 40, 1800, 2600, 100, 12, 150, 10⟩
  cru := ⟨List.replicate 7 700, List.replicate 7 600, 100, 25, 30, 180, 120, 96⟩

def cfg3 : Config := cfgOf .discharge 3
def cfg9 : Config := cfgOf .filter 9
def cfg20 : Config := cfgOf .crusher 20

/-- A roster of a discharge station 3, a discharge station 5, an EXCLUDED filter 7, a filter 9 and a crusher
20. -/
def roster5 : List RosterEntry :=
  [⟨3, .discharge, 2, 0, true, .present, 0, true⟩, ⟨5, .discharge, 2, 2, true, .present, 0, true⟩,
   ⟨7, .filter, 1, 0, false, .excluded .parameters, 0, true⟩, ⟨9, .filter, 1, 0, true, .present, 0, true⟩,
   ⟨20, .crusher, 0, 0, true, .present, 0, true⟩]

/-- A station that runs: SYNCED in RUN, in window 100, on a resting line after a frame of station 5. -/
def station (c : Config) : State :=
  { State.fresh .powerOn ⟨0, true⟩ [] with
    cfg := c
    roster := roster5
    hall := ⟨true, .running, 0, 100, [], none⟩
    window := ⟨100, some 7, 0, true, []⟩
    trunk := { (State.fresh .powerOn ⟨0, true⟩ []).trunk with lastSender := some 5, cycle := some ⟨none, 0⟩ }
    sync := ⟨.synced, none, .idle, [], 0, 0, false⟩
    mode := ⟨.run, .powerOn, .good, .qualified, 4, .normal, 0, 0, false, false⟩ }

def dis : State := station cfg3
def fil : State := station cfg9
def cru : State := station cfg20

def withQueue (s : State) (q : List QFrame) : State := { s with trunk := { s.trunk with queue := q } }
def inSync (s : State) (x : SyncStatus) : State := { s with sync := { s.sync with status := x } }
def inMode (s : State) (m : StationMode) : State := { s with mode := { s.mode with mode := m } }
def holding (s : State) (l : List Claim) : State := { s with table := { s.table with claims := l } }

/-- The line state and cycle of a station, changed. -/
def onLine (s : State) (f : TrunkState → TrunkState) : State := { s with trunk := f s.trunk }

/-- A frame in flight with the body given. -/
def flying (q : QBody) (b : Body) : QFrame := ⟨q, .role, false, some b, false, false⟩

/-- A station's own frame is in flight. -/
def sends (s : State) (q : QBody) (b : Body) : State :=
  { s with trunk := { s.trunk with queue := [flying q b], busy := true } }

/-- A WAITING LOT claim of class 2 and volume 40, and the same COMMITTED. -/
def lot (a : Addr) (id : Byte) : Claim := ⟨a, id, .lot, 2, 40, 3, 3, 100, 0, .waiting, false⟩
def lotTo (a : Addr) (id : Byte) (w : Window) : Claim := { lot a id with status := .committed w }
def flushOf (a : Addr) (id : Byte) : Claim := { lot a id with kind := .flush, cls := 7 }

/-- A station whose sequencer runs the operation given. -/
def running (s : State) (o : Op) : State :=
  { s with seq := { s.seq with running := some o, shadow0 := o.drv0, shadow1 := o.drv1 } }

/-- The crusher with FEED running. -/
def feeding : State := running cru (feedOp 180)

/-- A lot of length 800 being discharged in window 100. -/
def dischargingLot : Lot :=
  { Lot.fresh 1 2 with status := .discharging, volume := some 50, length := some 800, onTrack := true
                       claimId := some 40, discharge := some 100 }

/-- What a command leaves, `s` itself where it leaves none. -/
def after (i : Instr) (s : State) : State :=
  match exec i s with
  | .next t => t
  | _ => s

def afterAll (l : List Instr) (s : State) : State := l.foldl (fun s i => after i s) s

/-! ## Ill-formed terms -/

def rec0 (id : Byte) : RowRecord := ⟨id, false, 2, false, false, 40, 3, 0, 0, 0⟩
def info0 : StationInfo := ⟨1, 2, 0, 0x1234⟩

theorem test_refuses_long_row :
    (Instr.row (.peer 5 ⟨info0, 100, List.replicate 8 (rec0 1)⟩)).wellFormed = false := by decide +kernel
theorem test_refuses_falling_ids :
    (Instr.row (.peer 5 ⟨info0, 100, [rec0 2, rec0 1]⟩)).wellFormed = false := by decide +kernel
theorem test_refuses_short_image :
    (Instr.configLoad (some (List.replicate 127 0))).wellFormed = false := by decide +kernel
theorem test_refuses_known_code : (Instr.unknownCommand 0x19).wellFormed = false := by decide +kernel


/-! ## The spec's worked examples -/

/-- The check value of CRC-16 with the polynomial, start and order of section 0 for the nine digits. -/
theorem test_crc_digits :
    crc16 [0x31, 0x32, 0x33, 0x34, 0x35, 0x36, 0x37, 0x38, 0x39] = 0x29B1#16 := by decide +kernel

/-- Chapter 2, "Worked example: a plan over two MARKs": the roster and the claims before the MARK of 300. -/
def planRoster : List RosterEntry :=
  [⟨2, .discharge, 3, 1, true, .present, 0, true⟩, ⟨5, .discharge, 2, 2, true, .present, 0, true⟩,
   ⟨11, .filter, 1, 0, true, .present, 0, true⟩, ⟨14, .filter, 1, 0, true, .present, 0, true⟩,
   ⟨20, .crusher, 0, 0, true, .present, 0, true⟩]

def planClaims : List Claim :=
  [⟨2, 12, .lot, 3, 70, 3, 3, 295, 3, .committed 303, false⟩, ⟨2, 13, .lot, 1, 45, 3, 3, 297, 2, .waiting, false⟩,
   ⟨2, 14, .lot, 3, 30, 3, 3, 299, 0, .waiting, false⟩, ⟨5, 40, .lot, 1, 60, 2, 2, 298, 1, .waiting, false⟩,
   ⟨5, 41, .lot, 1, 50, 2, 2, 299, 0, .waiting, false⟩, ⟨11, 3, .flush, 7, 40, 1, 1, 298, 1, .waiting, false⟩,
   ⟨14, 8, .flush, 7, 35, 1, 1, 299, 0, .waiting, false⟩]

def planIn : PlanInputs := ⟨300, 100, 1, planRoster, ⟨true, .running, 0, 300, [], none⟩⟩

theorem test_plan_example :
    (buildEntries planIn planClaims).map (fun e => (e.cls, e.volume, e.placements.map (fun x => (x.owner.val, x.id)))) =
      [(none, 0, []), (some 7, 40, [(11, 3)]), (some 3, 70, [(2, 12)]), (some 7, 35, [(14, 8)]),
       (some 1, 60, [(5, 40)]), (some 1, 95, [(5, 41), (2, 13)]), (some 3, 30, [(2, 14)])] ++
      List.replicate 9 (none, 0, []) := by decide +kernel

theorem test_plan_discharge_windows :
    (placementsOf (buildEntries planIn planClaims)).map (fun x => x.discharge) =
      [301, 300, 303, 303, 304, 303, 304] := by decide +kernel

theorem test_plan_commits :
    commitsOf planClaims (buildEntries planIn planClaims) 300 = [(11, 3, 302)] := by decide +kernel

/-- Chapter 1's example: station 4 admits its CLAIM 17, and the MARK of 701 commits it to 704 while the held flush
of station 9 ages from 0 to 1. -/
def claimRoster : List RosterEntry :=
  [⟨4, .discharge, 2, 2, true, .present, 0, true⟩, ⟨9, .filter, 1, 0, true, .present, 0, true⟩,
   ⟨20, .crusher, 0, 0, true, .present, 0, true⟩]

def hall700 : State :=
  { station (cfgOf .discharge 4) with
    cfg := { cfgOf .discharge 4 with
      hall := ⟨1, 16, 100, 1, 3, List.replicate 6 ⟨10, 80⟩ ++ [⟨20, 60⟩], 0x1234⟩ }
    roster := claimRoster
    window := ⟨700, some 7, 0, true, []⟩
    hall := ⟨true, .running, 64, 700, [], none⟩ }

def claims701 : List Claim :=
  (afterAll [.claim (.peer 9 ⟨5, 1, 7, 30, 3, false⟩), .claim (.peer 9 ⟨5, 1, 7, 30, 1, false⟩),
    .claim (.peer 12 ⟨1, 0, 3, 30, 3, false⟩)]
    (after (.claim .own) (sends hall700 (.claim ⟨17, 0, 2, 40, 3, false⟩) (.claim ⟨17, 0, 2, 40, 3, false⟩)))
      ).table.claims

theorem test_claims_of_700 : claims701 =
    [⟨4, 17, .lot, 2, 40, 3, 3, 700, 0, .waiting, false⟩, ⟨9, 5, .flush, 7, 30, 1, 1, 700, 0, .waiting, false⟩] := by
  decide +kernel

theorem test_unknown_owner_asked :
    (after (.claim (.peer 12 ⟨1, 0, 3, 30, 3, false⟩)) hall700).trunk.queue.map (fun f => f.body) =
      [.ask ⟨12, 1⟩] := by decide +kernel

theorem test_mark_of_701 :
    (after (.mark (.peer 20 ⟨701, 0, 2⟩)) (holding hall700 claims701)).table.claims =
    [⟨4, 17, .lot, 2, 40, 3, 3, 700, 0, .committed 704, false⟩,
     ⟨9, 5, .flush, 7, 30, 1, 1, 700, 1, .waiting, false⟩] := by decide +kernel

theorem test_mark_of_703_ages :
    (after (.mark (.peer 20 ⟨703, 0, 1⟩)) (holding hall700
      [⟨9, 5, .flush, 7, 30, 1, 1, 700, 2, .waiting, false⟩])).table.claims =
    [⟨9, 5, .flush, 7, 30, 1, 0, 700, 0, .waiting, false⟩] := by decide +kernel

theorem test_mark_of_705_is_stale :
    (after (.mark (.peer 20 ⟨705, 0, 1⟩)) (holding hall700
      [⟨4, 17, .lot, 2, 40, 3, 3, 700, 0, .committed 704, false⟩])).table.claims = [] := by decide +kernel

/-- R75: after last-sender 5, station 6 owns slot 0 and station 5 slot 31. -/
theorem test_access_slots : accessSlot 6 (some 5) = 0 ∧ accessSlot 5 (some 5) = 31 ∧ accessSlot 5 none = 5 := by
  decide

/-- Chapter 6: an average of 1620 at class factor 8 is a volume of 51. -/
theorem test_volume_of_1620 : dis.convert 2 1620 = 51 := by decide +kernel

/-- Chapter 6's short discharge: 560 of 800 travelled of volume 50 gives 35, and leaves 15 on a length of 240. -/
theorem test_short_discharge :
    dischargedVolume 50 560 800 = 35 ∧
    (let l := ({ Lot.fresh 120 2 with volume := some 50, length := some 800, status := .discharging } : Lot).remainderOf
        560 20
     (l.volume, l.length, l.remainder, l.undersize, l.status) =
       (some 15, some 240, true, true, LotStatus.sealed)) := by decide +kernel

/-- R135's example: URGENT stays at 2550, falls to FLUSH at 2450 and to NORMAL at 1650. -/
theorem test_bands :
    bandAfter cfg9.fil .urgent 2550 = .urgent ∧ bandAfter cfg9.fil .urgent 2450 = .flush ∧
    bandAfter cfg9.fil .flush 1650 = .normal := by decide +kernel

/-- R174: a level of 100 is active for 100 of 256 steps. -/
theorem test_level_100 : activeSteps 100 = 100 := by decide +kernel

/-- R184: at 20.0 V, 2730 is below and 2731 is not; for the return, 2798 is below 20.5 V and 2799 is not. -/
theorem test_supply_levels :
    belowLevel 2730 40 = true ∧ belowLevel 2731 40 = false ∧ belowLevel 2798 41 = true ∧
    belowLevel 2799 41 = false := by decide

/-- Chapter 8's jam: in window 611 a jam found while FEED runs makes the crusher reverse, and its GATE says HOLDING
with resume window 612. -/
def cru611 : State :=
  { cru with window := ⟨611, some 7, 0, true, []⟩, crusher := { cru.crusher with diverter := 2, current := ⟨2, true⟩ } }

theorem test_jam_holds :
    (afterAll [.driveCycleStart, .channelAverage 0 ⟨3500, 3500, 3500, 3500⟩, .channelAverage 0 ⟨3500, 3500, 3500, 3500⟩]
      cru611).gateBody = ⟨1, 0, 612⟩ := by decide +kernel

/-- R190, R73: chapter 1's CLAIM of station 4, and a HELLO of a DISCHARGE station 5 of transit 2 and ceiling 2,
written out byte by byte; the check words were computed outside the model. -/
theorem test_claim_frame :
    frameBytes 4 (.claim ⟨17, 0, 2, 40, 3, false⟩) =
      [0xB5, 0x04, 0x04, 0x06, 17, 0, 2, 40, 3, 0, 0xE2, 0xAD] := by decide +kernel

theorem test_hello_frame :
    frameOf false [0xB5, 0x02, 0x05, 0x04, 0x52, 0x12, 0x34, 0, 0x27, 0x2B] =
      some (5, .hello ⟨⟨1, 2, 2, 0x1234⟩, false⟩) := by decide +kernel

/-- R185: the first byte a command clocks out is the result of the one before; R186: POWER_ON is cause 0. -/
theorem test_port_answers :
    (after .readStartCause { dis with port := { dis.port with result := .badArg } }).port.sdo = [3, 0] := by
  decide +kernel

theorem test_no_word_spells_a_command (n w : Nat) : decodeTableWord n w = none := rfl

/-! ## Witnesses: what meets the hypotheses of a statement

Each theorem shows, for the statement it names, concrete states and operands that meet the hypotheses of its clauses,
at boundary values where a clause has a range. -/

/-- The frame arrives, and what it leaves meets `P`. -/
def Meets {α : Type} (s : State) (k : FrameKind) (informs : Bool) (f : Body → Option α) (rx : Rx α) (own : Bool)
    (a : Addr) (b : α) (P : State → Prop) : Prop :=
  ∃ h, s.cleared.arrival k informs f rx = some (own, a, b, h) ∧ P h

theorem of_peer {α : Type} {s : State} {k : FrameKind} {informs : Bool} {f : Body → Option α} {a : Addr} {b : α}
    {P : State → Prop} (hl : s.cleared.listens = true) (hp : P (s.cleared.hearFrame a informs)) :
    Meets s k informs f (.peer a b) false a b P := ⟨_, by simp [State.arrival, hl], hp⟩

theorem of_own {α : Type} {s : State} {k : FrameKind} {informs : Bool} {f : Body → Option α} {g : QFrame} {body : Body}
    {b : α} {P : State → Prop} (hs : sentFrame s.cleared.trunk.queue k = some (g, body)) (hb : f body = some b)
    (ha : s.cleared.awake = true) (hp : P (s.cleared.ownGood g)) :
    Meets s k informs f .own true s.cleared.own b P := ⟨_, by simp [State.arrival, hs, ha, hb], hp⟩

theorem not_excluded {x : SyncStatus} (h : x.isExcluded = false) : ∀ c, x ≠ .excluded c := by
  rintro c rfl
  simp [SyncStatus.isExcluded] at h

theorem witness_IdleStepIsTick :
    dis.pending = [] ∧ dis.awake = true ∧ State.reset.pending = [] ∧ State.reset.awake = false := by
  decide +kernel

/-- A SEALED lot with a volume, its number and age given. -/
def sealedLot (number : BitVec 16) : Lot := { Lot.fresh number 2 with status := .sealed, volume := some 40 }

/-- Station 3 with the lots given. -/
def keeping (l : List Lot) : State := { dis with discharge := { dis.discharge with lots := l } }

/-- The OPEN lot's class is set, and SHIFT and mode let a lot open. -/
def opening : State := { dis with pins := ⟨6, true⟩ }

theorem witness_ConcludingKeepsRecords :
    State.reset.awake = false ∧ dis.awake = true ∧ dis.seq.running = none ∧ dis.cfg.role = .discharge ∧
    (∀ l ∈ [dischargingLot, sealedLot 2], l.status = .committed → l.claimId ≠ none) ∧
    (opening.discharge.lots.getLast? = none ∧ opening.mode.mode = .run ∧ opening.discharge.beltFault = false ∧
      opening.seq.runs .index = false ∧ 6 ≤ opening.pins.classCode.toNat) ∧ dis.pins.classCode.toNat = 0 ∧
    ((keeping [sealedLot 1]).discharge.lots.getLast? = some (sealedLot 1) ∧ (sealedLot 1).onTrack = false ∧
      (sealedLot 1).volume ≠ none ∧ (keeping [sealedLot 1]).seq.holdsOp .index = false) ∧
    ((holding dis [lot 3 (dis.table.nextId)]).table.claims.any
      (fun c => c.owner == dis.own && c.id == dis.table.nextId) = true) ∧
    ((keeping [dischargingLot, sealedLot 2]).discharge.lots = [dischargingLot] ++ sealedLot 2 :: [] ∧
      dischargingLot.status = .discharging ∧ (sealedLot 2).claimId = none ∧ (sealedLot 2).refused = false ∧
      dis.sync.status = .synced ∧ dis.trunk.line = .active ∧ dis.discharge.held = false) ∧
    (cru.cfg.role = .crusher ∧ cru.crusher.mode = .running ∧ cru.mode.mode = .run ∧ cru.seq.holdsOp .feed = false) ∧
    feeding.seq.holdsOp .feed = true := by decide +kernel

theorem witness_ConcludingKeepsOrder : ¬∃ (i j : Nat) (l k : Lot), dis.discharge.lots[i]? = some l ∧
    dis.discharge.lots[j]? = some k ∧ j < i ∧ l.status = .committed := by
  rintro ⟨i, j, l, k, hl, -⟩
  have h : dis.discharge.lots = [] := by decide +kernel
  rw [h] at hl
  simp at hl

theorem witness_PeerFrameHeard :
    (12 : Addr) ≠ dis.own ∧ dis.sync.status = .synced ∧ dis.trunk.line = .active ∧ entryOf dis.roster 12 = none ∧
    12 ∉ dis.window.asked ∧ (5 : Addr) ≠ dis.own ∧ entryOf dis.roster 5 ≠ none ∧ dis.trunk.cycle ≠ none ∧
    (State.fresh .powerOn ⟨0, true⟩ []).trunk.cycle = none := by decide +kernel

theorem witness_OwnAddressHeard :
    (inSync dis .listening).sync.status = .listening ∧ dis.sync.status = .synced ∧
    ∃ c, (inSync dis (.excluded .role)).sync.status = .excluded c := ⟨rfl, rfl, .role, rfl⟩

theorem witness_OwnFrameGood :
    sentFrame (sends dis .present (.present ⟨⟩)).trunk.queue .present =
      some (flying .present (.present ⟨⟩), .present ⟨⟩) ∧
    (flying .present (.present ⟨⟩)).followUp = false := by decide +kernel

/-! ### Frames taken -/

def mark101 : MarkBody := ⟨101, dis.digest, 0⟩

def inConfinement (marks : Nat) : State :=
  { dis with trunk := { dis.trunk with line := .listenOnly, confMarks := marks } }

theorem witness_MarkTaken :
    Meets dis .mark false Body.asMark (.peer 5 mark101) false 5 mark101 (fun h => h.senderExcluded 5 = false) ∧
    Meets dis .mark false Body.asMark (.peer 7 mark101) false 7 mark101 (fun h => h.senderExcluded 7 = true) ∧
    Meets (sends dis .mark (.mark mark101)) .mark false Body.asMark .own true 3 mark101
      (fun h => h.senderExcluded 3 = false) ∧
    Meets (inConfinement 2) .mark false Body.asMark (.peer 5 mark101) false 5 mark101
      (fun h => h.trunk.line = .listenOnly ∧ h.trunk.confMarks + 1 < 4) ∧
    Meets (inConfinement 3) .mark false Body.asMark (.peer 5 mark101) false 5 mark101
      (fun h => h.trunk.line = .listenOnly ∧ ¬h.trunk.confMarks + 1 < 4) :=
  ⟨of_peer (by decide +kernel) (by decide +kernel), of_peer (by decide +kernel) (by decide +kernel),
   of_own (g := flying .mark (.mark mark101)) (body := .mark mark101) (by decide +kernel) (by decide +kernel)
     (by decide +kernel) (by decide +kernel),
   of_peer (by decide +kernel) (by decide +kernel), of_peer (by decide +kernel) (by decide +kernel)⟩

/-- The MARK of 101 places a WAITING claim of station 3, whose transit is 2, in window 104: discharge window m+1. -/
theorem witness_MarkTaken_commits :
    placementsOf (buildEntries ⟨101, 100, 1, roster5, dis.hall⟩ [lot 3 1]) = [⟨3, 1, 40, 104, 102⟩] ∧
    (lot 3 1).status = .waiting ∧ dis.own = 3 := by decide +kernel

def flushing : State :=
  running { fil with filter := { fil.filter with
    mode := .flushing, claimId := some 4, progress := some ⟨4, 101, false⟩ } } fil.flushOp
/-- Station 9 at a MARK: its flush unit in the state given. -/
def flusher (m : FilterMode) (w : Option Window) : State :=
  { fil with filter := { fil.filter with mode := m, claimId := some 4, discharge := w } }
/-- Station 3 discharging its head lot, `n` of it done. -/
def dischargingAt (n : Nat) : State :=
  let s := running { dis with
    discharge := { dis.discharge with lots := [dischargingLot], progress := some ⟨1, 40, 102, n⟩ } } dis.dischargeOp
  { s with measure := { s.measure with prescale := 1, stallTimer := some 9 } }

/-- A MARK of 101 that agrees with a station. -/
def markOf (s : State) : MarkBody := ⟨101, s.digest, s.claimCount⟩

/-- A COMMITTED flush claim of station 9 under id 4. -/
def flushTo (w : Window) : Claim := { flushOf 9 4 with status := .committed w }

/-- Station 3, its lot CLAIMED under id 1, which the MARK of 101 commits, and its discharge of id 40 under way, whose
claim the MARK finds stale; and stations whose flush is CLAIMED, and under way. -/
def claimedLot : State := holding (keeping [{ sealedLot 2 with status := .claimed, claimId := some 1 }]) [lot 3 1]
def overrun : State := holding (dischargingAt 500) [lotTo 3 40 100]
def claimedFlush : State := holding (flusher .claimed none) [flushTo 104]
def overrunFlush : State := holding flushing [flushTo 100]

abbrev keepsSync (h : State) (b : MarkBody) : Prop :=
  (h.markRecords false 5 b).sync.status = .diverged → h.sync.status = .diverged

abbrev hasQueueRoom (h : State) : Prop :=
  h.trunk.queue.length ≤ 4 ∧ h.trunk.line = .active ∧ h.sync.status.isExcluded = false

theorem witness_MarkTaken_roles :
    Meets claimedLot .mark false Body.asMark (.peer 5 (markOf claimedLot)) false 5 (markOf claimedLot)
      (fun h => h.senderExcluded 5 = false ∧ h.cfg.role = .discharge ∧ keepsSync h (markOf claimedLot) ∧
        h.discharge.progress = none) ∧
    Meets overrun .mark false Body.asMark (.peer 5 (markOf overrun)) false 5 (markOf overrun)
      (fun h => h.senderExcluded 5 = false ∧ h.cfg.role = .discharge ∧ keepsSync h (markOf overrun) ∧
        h.discharge.progress = some ⟨1, 40, 102, 500⟩ ∧ h.discharge.lots = dischargingLot :: [] ∧
        dischargingLot.status = .discharging ∧ h.table.claims = [lotTo 3 40 100] ∧
        256 ≤ ((100 : Window) - 101).toNat ∧ hasQueueRoom h) ∧
    Meets claimedFlush .mark false Body.asMark (.peer 5 (markOf claimedFlush)) false 5 (markOf claimedFlush)
      (fun h => h.senderExcluded 5 = false ∧ h.cfg.role = .filter ∧ keepsSync h (markOf claimedFlush) ∧
        h.filter.mode ≠ .flushing) ∧
    Meets overrunFlush .mark false Body.asMark (.peer 5 (markOf overrunFlush)) false 5 (markOf overrunFlush)
      (fun h => h.senderExcluded 5 = false ∧ h.cfg.role = .filter ∧ keepsSync h (markOf overrunFlush) ∧
        h.filter.progress = some ⟨4, 101, false⟩ ∧ h.filter.mode = .flushing ∧ h.filter.claimId = some 4 ∧
        h.table.claims = [flushTo 100] ∧ hasQueueRoom h) ∧
    Meets cru .mark false Body.asMark (.peer 5 mark101) false 5 mark101
      (fun h => h.senderExcluded 5 = false ∧ h.cfg.role = .crusher) :=
  ⟨of_peer (by decide +kernel) (by decide +kernel), of_peer (by decide +kernel) (by decide +kernel),
   of_peer (by decide +kernel) (by decide +kernel), of_peer (by decide +kernel) (by decide +kernel),
   of_peer (by decide +kernel) (by decide +kernel)⟩

/-- The lot and the flush of a claim that the MARK commits or finds stale (R17, R19, R119, R138). -/
theorem test_mark_moves_lots :
    ((claimedLot.markRecords false 5 (markOf claimedLot)).discharge.lots.map (fun l => (l.status, l.discharge)) =
      [(.committed, some 102)]) ∧
    ((overrunFlush.markRecords false 5 (markOf overrunFlush)).filter.mode = .settling) := by decide +kernel

/-- A lot COMMITTED to window 102 under id 40, and the claim that stands behind it. -/
def awaited : State := holding (keeping [{ dischargingLot with status := .committed, discharge := some 102 }]) [lotTo 3 40 104]

theorem witness_MarkCompared_lost :
    Meets awaited .mark false Body.asMark (.peer 5 ⟨101, 0, 9⟩) false 5 ⟨101, 0, 9⟩
      (fun h => h.senderExcluded 5 = false ∧ h.sync.status = .synced ∧ (9 : Byte) ≠ BitVec.ofNat 8 h.table.claims.length ∧
        h.cfg.role = .discharge ∧ h.discharge.lots ≠ [] ∧ h.discharge.pending = [] ∧ h.discharge.progress = none ∧
        h.table.claims = [lotTo 3 40 104] ∧ h.trunk.queue = [] ∧ h.trunk.line = .active) ∧
    Meets claimedFlush .mark false Body.asMark (.peer 5 ⟨101, 0, 9⟩) false 5 ⟨101, 0, 9⟩
      (fun h => h.senderExcluded 5 = false ∧ h.sync.status = .synced ∧ (9 : Byte) ≠ BitVec.ofNat 8 h.table.claims.length ∧
        h.cfg.role = .filter ∧ h.filter.mode ≠ .flushing ∧ h.filter.pending = none ∧ h.filter.claimId = some 4 ∧
        h.table.claims = [flushTo 104] ∧ h.trunk.queue = [] ∧ h.trunk.line = .active) ∧
    Meets (holding flushing [flushTo 101]) .mark false Body.asMark (.peer 5 ⟨101, 0, 9⟩) false 5 ⟨101, 0, 9⟩
      (fun h => h.senderExcluded 5 = false ∧ h.sync.status = .synced ∧ (9 : Byte) ≠ BitVec.ofNat 8 h.table.claims.length ∧
        h.cfg.role = .filter ∧ h.filter.mode = .flushing ∧ h.table.claims = [flushTo 101] ∧ h.filter.claimId = some 4 ∧
        ¬256 ≤ ((101 : Window) - 101).toNat) :=
  ⟨of_peer (by decide +kernel) (by decide +kernel), of_peer (by decide +kernel) (by decide +kernel),
   of_peer (by decide +kernel) (by decide +kernel)⟩

/-- R102: a claim COMMITTED in the own table goes, its filter still CLAIMED. -/
theorem test_unbegun_flush_withdrawn :
    claimedFlush.withdrawCommitted.filter.mode = .online ∧
    claimedFlush.withdrawCommitted.trunk.queue.map (fun f => f.body) = [.withdraw ⟨4⟩] := by decide +kernel

theorem witness_MarkCompared :
    Meets (inSync dis .listening) .mark false Body.asMark (.peer 5 mark101) false 5 mark101
      (fun h => h.senderExcluded 5 = false ∧ h.sync.status = .listening) ∧
    Meets dis .mark false Body.asMark (.peer 5 mark101) false 5 mark101
      (fun h => h.senderExcluded 5 = false ∧ h.sync.status = .synced ∧
        mark101.digest = crc16 (digestInput h.roster h.table.claims h.hall) ∧
        mark101.count = BitVec.ofNat 8 h.table.claims.length ∧ mark101.window = h.window.number + 1) ∧
    Meets dis .mark false Body.asMark (.peer 5 ⟨101, dis.digest, 1⟩) false 5 ⟨101, dis.digest, 1⟩
      (fun h => h.senderExcluded 5 = false ∧ h.sync.status = .synced ∧
        (1 : Byte) ≠ BitVec.ofNat 8 h.table.claims.length) ∧
    Meets (inSync dis (.excluded .role)) .mark false Body.asMark (.peer 5 mark101) false 5 mark101
      (fun h => h.senderExcluded 5 = false ∧ h.sync.status = .excluded .role) :=
  ⟨of_peer (by decide +kernel) (by decide +kernel), of_peer (by decide +kernel) (by decide +kernel),
   of_peer (by decide +kernel) (by decide +kernel), of_peer (by decide +kernel) (by decide +kernel)⟩

/-- Station 3, DIVERGED, with an OPEN round that has taken the rows given. -/
def inRound (received : List Addr) (marks : Nat) : State :=
  { dis with sync := ⟨.diverged, none, .opened, received, marks, 1, false⟩ }

/-- The hypotheses of `RoundDecided`, in the round given. -/
abbrev deciding (h : State) : Prop :=
  h.senderExcluded 5 = false ∧ h.sync.status = .diverged ∧ h.sync.round = .opened ∧ h.trunk.line = .active

abbrev rowsIn (h : State) : Prop :=
  ∀ e ∈ h.roster, e.addr ≠ h.own → e.status = .present → e.addr ∈ h.sync.received

theorem witness_RoundDecided :
    Meets (inRound [5, 9, 20] 0) .mark false Body.asMark (.peer 5 mark101) false 5 mark101
      (fun h => deciding h ∧ rowsIn h ∧ mark101.digest = crc16 (digestInput h.roster h.table.claims h.hall) ∧
        mark101.count = BitVec.ofNat 8 h.table.claims.length) ∧
    Meets (inRound [5, 9, 20] 1) .mark false Body.asMark (.peer 5 ⟨101, dis.digest, 1⟩) false 5 ⟨101, dis.digest, 1⟩
      (fun h => deciding h ∧ rowsIn h ∧ (1 : Byte) ≠ BitVec.ofNat 8 h.table.claims.length) ∧
    Meets (inRound [5, 20] 0) .mark false Body.asMark (.peer 5 mark101) false 5 mark101
      (fun h => deciding h ∧ ¬rowsIn h ∧ h.sync.roundMarks = 0) ∧
    Meets (inRound [5, 20] 1) .mark false Body.asMark (.peer 5 mark101) false 5 mark101
      (fun h => deciding h ∧ ¬rowsIn h ∧ 1 ≤ h.sync.roundMarks) :=
  ⟨of_peer (by decide +kernel) (by decide +kernel), of_peer (by decide +kernel) (by decide +kernel),
   of_peer (by decide +kernel) (by decide +kernel), of_peer (by decide +kernel) (by decide +kernel)⟩

def hello5 (role : BitVec 2) (leaving : Bool) : HelloBody := ⟨⟨role, 2, 2, 0x1234⟩, leaving⟩

theorem witness_HelloTaken :
    Meets (sends dis (.hello (hello5 1 false)) (.hello (hello5 1 false))) .hello true Body.asHello .own true 3
      (hello5 1 false) (fun _ => True) ∧
    Meets dis .hello true Body.asHello (.peer 5 (hello5 0 false)) false 5 (hello5 0 false) (fun h => (5 : Addr) ≠ h.own) ∧
    Meets dis .hello true Body.asHello (.peer 12 (hello5 1 false)) false 12 (hello5 1 false)
      (fun h => (12 : Addr) ≠ h.own ∧ roleOfCode 1 = some .discharge ∧ h.roleConflicts .discharge = false) ∧
    Meets dis .hello true Body.asHello (.peer 12 (hello5 3 false)) false 12 (hello5 3 false)
      (fun h => (12 : Addr) ≠ h.own ∧ roleOfCode 3 = some .crusher ∧ h.roleConflicts .crusher = false ∧
        h.otherCrusher 12 = true) ∧
    Meets dis .hello true Body.asHello (.peer 3 (hello5 1 false)) false 3 (hello5 1 false) (fun h => (3 : Addr) = h.own) ∧
    Meets dis .hello true Body.asHello (.peer 5 (hello5 1 true)) false 5 (hello5 1 true) (fun h => (5 : Addr) ≠ h.own) ∧
    Meets dis .hello true Body.asHello (.peer 3 (hello5 1 true)) false 3 (hello5 1 true) (fun h => (3 : Addr) = h.own) :=
  ⟨of_own (g := flying (.hello (hello5 1 false)) (.hello (hello5 1 false))) (body := .hello (hello5 1 false))
     (by decide +kernel) (by decide +kernel) (by decide +kernel) trivial,
   of_peer (by decide +kernel) (by decide +kernel), of_peer (by decide +kernel) (by decide +kernel),
   of_peer (by decide +kernel) (by decide +kernel), of_peer (by decide +kernel) (by decide +kernel),
   of_peer (by decide +kernel) (by decide +kernel), of_peer (by decide +kernel) (by decide +kernel)⟩

/-- Station 3, whose crusher holds class 1 back. -/
def gated : State := { dis with hall := { dis.hall with gate := .holding, holds := 1, resume := 103 } }

/-- R27, R28: the gate fields return to their start values when the crusher leaves, and stay when another does. -/
theorem test_leaving_crusher_frees_gate :
    (after (.hello (.peer 20 (hello5 3 true))) gated).hall = ⟨false, .running, 0, 0, [], none⟩ ∧
    (after (.hello (.peer 5 (hello5 1 true))) gated).hall.gate = .holding := by decide +kernel

theorem witness_HelloTaken_conflict :
    Meets (inSync cru .listening) .hello true Body.asHello (.peer 12 (hello5 3 false)) false 12 (hello5 3 false)
      (fun h => (12 : Addr) ≠ h.own ∧ h.cfg.role = .crusher ∧ h.sync.status = .listening) :=
  of_peer (by decide +kernel) (by decide +kernel)

/-- Station 3 in LEAVING, its leaving HELLO in flight. -/
def leaver (wake : Bool) : State :=
  let s := sends (inMode dis .leaving) (.hello (hello5 1 true)) (.hello (hello5 1 true))
  { s with mode := { s.mode with wakeMark := wake } }

theorem witness_OwnLeavingHello :
    ∀ w, Meets (leaver w) .hello true Body.asHello .own true 3 (hello5 1 true)
      (fun h => h.mode.mode = .leaving ∧ h.mode.wakeMark = w) := by
  intro w
  cases w <;>
  exact of_own (g := flying (.hello (hello5 1 true)) (.hello (hello5 1 true))) (body := .hello (hello5 1 true))
    (by decide +kernel) (by decide +kernel) (by decide +kernel) (by decide +kernel)

theorem witness_PresentTaken :
    Meets dis .present false Body.asPresent (.peer 5 ⟨⟩) false 5 ⟨⟩ (fun _ => True) :=
  of_peer (by decide +kernel) trivial

/-! ### Claims -/

def claim (volume rank : Byte) : ClaimBody := ⟨40, 0, 2, volume, rank, false⟩
def flushClaim : ClaimBody := ⟨40, 1, 7, 60, 7, false⟩

/-- The checks of R4 that a claim of station `a` passes, as the statements about CLAIM write them. -/
abbrev passes (h : State) (a : Addr) (b : ClaimBody) (k : ClaimKind) : Prop :=
  (∃ e ∈ h.roster, entryOf h.roster a = some e ∧ e.isExcluded = false) ∧ claimKindOf b.kind = some k ∧
  b.rank.toNat ≤ 7 ∧ (k = .lot → 1 ≤ b.cls.toNat ∧ b.cls.toNat ≤ 6) ∧ (k = .flush → b.cls.toNat = 7) ∧
  (h.boundsOf b.cls.toNat).min ≤ b.volume.toNat ∧ b.volume.toNat ≤ (h.boundsOf b.cls.toNat).max

abbrev hasRoom (h : State) (a : Addr) (b : ClaimBody) (k : ClaimKind) : Prop :=
  claimAt h.table.claims a b.id = none ∧ countOf h.table.claims a k < (match k with | .lot => 6 | .flush => 1) ∧
  h.table.claims.length < 64

def lots5 (n : Nat) : List Claim := (List.range n).map (fun i => lot 5 (BitVec.ofNat 8 i))

theorem witness_ClaimAdmitted :
    Meets (holding dis (lots5 5)) .claim false Body.asClaim (.peer 5 (claim 80 7)) false 5 (claim 80 7)
      (fun h => passes h 5 (claim 80 7) .lot ∧ hasRoom h 5 (claim 80 7) .lot) ∧
    Meets fil .claim false Body.asClaim (.peer 9 flushClaim) false 9 flushClaim
      (fun h => passes h 9 flushClaim .flush ∧ hasRoom h 9 flushClaim .flush) ∧
    Meets (sends dis (.claim (claim 20 0)) (.claim (claim 20 0))) .claim false Body.asClaim .own true 3 (claim 20 0)
      (fun h => passes h 3 (claim 20 0) .lot ∧ hasRoom h 3 (claim 20 0) .lot ∧ (3 : Addr) = h.own) :=
  ⟨of_peer (by decide +kernel) (by decide +kernel), of_peer (by decide +kernel) (by decide +kernel),
   of_own (g := flying (.claim (claim 20 0)) (.claim (claim 20 0))) (body := .claim (claim 20 0)) (by decide +kernel)
     (by decide +kernel) (by decide +kernel) (by decide +kernel)⟩

/-- The station's own claim frame in flight, over the table given. -/
def reposting (l : List Claim) : State := holding (sends dis (.claim (claim 20 0)) (.claim (claim 20 0))) l

theorem witness_ClaimReplacedOrRefused :
    Meets (holding dis [lot 5 40]) .claim false Body.asClaim (.peer 5 (claim 20 0)) false 5 (claim 20 0)
      (fun h => passes h 5 (claim 20 0) .lot ∧ claimAt h.table.claims 5 40 = some (lot 5 40)) ∧
    Meets (reposting [lotTo 3 40 104]) .claim false Body.asClaim .own true 3 (claim 20 0)
      (fun h => passes h 3 (claim 20 0) .lot ∧ claimAt h.table.claims 3 40 = some (lotTo 3 40 104)) ∧
    Meets (holding dis [flushOf 5 40]) .claim false Body.asClaim (.peer 5 (claim 20 0)) false 5 (claim 20 0)
      (fun h => passes h 5 (claim 20 0) .lot ∧ claimAt h.table.claims 5 40 = some (flushOf 5 40)) ∧
    Meets (holding dis (lots5 6)) .claim false Body.asClaim (.peer 5 (claim 20 0)) false 5 (claim 20 0)
      (fun h => passes h 5 (claim 20 0) .lot ∧ claimAt h.table.claims 5 40 = none ∧ 6 ≤ countOf h.table.claims 5 .lot) ∧
    Meets (holding dis (List.replicate 64 (lot 9 1))) .claim false Body.asClaim (.peer 5 (claim 20 0)) false 5
      (claim 20 0)
      (fun h => passes h 5 (claim 20 0) .lot ∧ claimAt h.table.claims 5 40 = none ∧
        countOf h.table.claims 5 .lot < 6 ∧ 64 ≤ h.table.claims.length) :=
  ⟨of_peer (by decide +kernel) (by decide +kernel),
   of_own (g := flying (.claim (claim 20 0)) (.claim (claim 20 0))) (body := .claim (claim 20 0)) (by decide +kernel)
     (by decide +kernel) (by decide +kernel) (by decide +kernel),
   of_peer (by decide +kernel) (by decide +kernel), of_peer (by decide +kernel) (by decide +kernel),
   of_peer (by decide +kernel) (by decide +kernel)⟩

theorem witness_ClaimChecked :
    entryOf dis.roster 12 = none ∧ (∃ e ∈ dis.roster, entryOf dis.roster 7 = some e ∧ e.isExcluded = true) ∧
    (∃ e ∈ dis.roster, entryOf dis.roster 5 = some e ∧ e.isExcluded = false) ∧
    1 < ({ claim 20 0 with kind := 2 } : ClaimBody).kind.toNat ∧ 7 < (claim 20 8).rank.toNat ∧
    6 < ({ claim 20 0 with cls := 7 } : ClaimBody).cls.toNat ∧ (claim 19 0).volume.toNat < (dis.boundsOf 2).min ∧
    (dis.boundsOf 2).max < (claim 81 0).volume.toNat := by decide +kernel

theorem witness_ClaimChecked_taken :
    Meets dis .claim false Body.asClaim (.peer 5 (claim 81 0)) false 5 (claim 81 0)
      (fun h => h.judgeClaim 5 (claim 81 0) = .refuse .badVolume) ∧
    Meets (sends dis (.claim (claim 20 8)) (.claim (claim 20 8))) .claim false Body.asClaim .own true 3 (claim 20 8)
      (fun h => h.judgeClaim 3 (claim 20 8) = .refuse .badField ∧ h.cfg.role = .discharge) :=
  ⟨of_peer (by decide +kernel) (by decide +kernel),
   of_own (g := flying (.claim (claim 20 8)) (.claim (claim 20 8))) (body := .claim (claim 20 8)) (by decide +kernel)
     (by decide +kernel) (by decide +kernel) (by decide +kernel)⟩

def done40 : DoneBody := ⟨40, 40, false, 102, 2⟩

theorem witness_ClaimRemoved :
    Meets dis .withdraw false Body.asWithdraw (.peer 12 ⟨40⟩) false 12 ⟨40⟩ (fun h => entryOf h.roster 12 = none) ∧
    Meets (holding dis [lot 5 40]) .withdraw false Body.asWithdraw (.peer 5 ⟨40⟩) false 5 ⟨40⟩
      (fun h => entryOf h.roster 5 ≠ none ∧ (5 : Addr) ≠ h.own) ∧
    Meets (holding (sends dis (.withdraw ⟨40⟩) (.withdraw ⟨40⟩)) [lot 3 40]) .withdraw false Body.asWithdraw .own true 3
      ⟨40⟩ (fun h => entryOf h.roster 3 ≠ none ∧ (3 : Addr) = h.own ∧ claimAt h.table.claims 3 40 ≠ none) ∧
    Meets (holding dis [lot 5 40]) .done false Body.asDone (.peer 5 done40) false 5 done40
      (fun h => h.cfg.role ≠ .crusher ∧ (5 : Addr) ≠ h.own) ∧
    Meets (holding (sends dis (.done done40) (.done done40)) [lot 3 40]) .done false Body.asDone .own true 3 done40
      (fun h => h.cfg.role ≠ .crusher ∧ (3 : Addr) = h.own ∧ claimAt h.table.claims 3 40 ≠ none) :=
  ⟨of_peer (by decide +kernel) (by decide +kernel), of_peer (by decide +kernel) (by decide +kernel),
   of_own (g := flying (.withdraw ⟨40⟩) (.withdraw ⟨40⟩)) (body := .withdraw ⟨40⟩) (by decide +kernel)
     (by decide +kernel) (by decide +kernel) (by decide +kernel),
   of_peer (by decide +kernel) (by decide +kernel),
   of_own (g := flying (.done done40) (.done done40)) (body := .done done40) (by decide +kernel)
     (by decide +kernel) (by decide +kernel) (by decide +kernel)⟩

/-- The crusher with `n` entries on its way. -/
def awaiting (n : Nat) : State :=
  { cru with crusher := { cru.crusher with inbound := List.replicate n ⟨9, 1, 7, 40, 101⟩ } }

abbrev counts (h : State) (a : Addr) (b : DoneBody) : Prop :=
  h.senderExcluded a = false ∧ 1 ≤ b.cls.toNat ∧ b.cls.toNat ≤ 7 ∧ b.volume ≠ 0 ∧
    ∀ x ∈ h.crusher.inbound, ¬(x.owner = a ∧ x.id = b.id ∧ x.arrival = b.arrival)

theorem witness_DoneInbound :
    Meets (awaiting 47) .done false Body.asDone (.peer 5 done40) false 5 done40
      (fun h => h.cfg.role = .crusher ∧ counts h 5 done40 ∧ h.crusher.inbound.length < 48) ∧
    Meets (awaiting 48) .done false Body.asDone (.peer 5 done40) false 5 done40
      (fun h => h.cfg.role = .crusher ∧ counts h 5 done40 ∧ 48 ≤ h.crusher.inbound.length) ∧
    Meets cru .done false Body.asDone (.peer 7 done40) false 7 done40
      (fun h => h.cfg.role = .crusher ∧ ¬counts h 7 done40) :=
  ⟨of_peer (by decide +kernel) (by decide +kernel), of_peer (by decide +kernel) (by decide +kernel),
   of_peer (by decide +kernel) (by decide +kernel)⟩

/-- A class 2 record of the crusher's windows. -/
def recorded (accepting : Bool) (fill : Nat) : State :=
  { cru with crusher := { cru.crusher with current := ⟨2, accepting⟩, fills := List.replicate 7 fill } }

/-- The crusher JAMMED, or in the stop set, or neither. -/
def inStops (mode : CrusherMode) (l : List StopEntry) : State :=
  { cru with crusher := { cru.crusher with mode := mode }, hall := { cru.hall with stops := l } }

theorem witness_DoneInbound_marks :
    (recorded false 0).crusher.current.accepting = false ∧ (recorded true 599).crusher.current.accepting = true ∧
    (recorded true 599).cfg.cru.thresholds.getD 1 0 ≤ 599 + 1 ∧ (recorded true 0).crusher.holds.getLsbD 1 = false ∧
    (cru.trunk.line = .active ∧ cru.sync.status = .synced) ∧ (inSync cru .listening).sync.status = .listening ∧
    (inStops .running [⟨20, .operator, true⟩]).hall.stops.find? (fun e => e.addr == 20) = some ⟨20, .operator, true⟩ ∧
    (inStops .running [⟨20, .jam, true⟩]).hall.stops.find? (fun e => e.addr == 20) = some ⟨20, .jam, true⟩ ∧
    (inStops .jammed []).hall.stops.find? (fun e => e.addr == 20) = none ∧ (inStops .jammed []).own = 20 := by
  decide +kernel

/-! ### The hall, asks and rows -/

abbrev mayGate (h : State) (a : Addr) : Prop :=
  ∃ e ∈ h.roster, entryOf h.roster a = some e ∧ e.role = .crusher ∧ e.isExcluded = false

theorem witness_GateTaken :
    Meets dis .gate false Body.asGate (.peer 20 ⟨2, 1, 101⟩) false 20 ⟨2, 1, 101⟩ (fun h => mayGate h 20) ∧
    Meets dis .gate false Body.asGate (.peer 5 ⟨0, 1, 101⟩) false 5 ⟨0, 1, 101⟩ (fun h => ¬mayGate h 5) ∧
    Meets dis .gate false Body.asGate (.peer 20 ⟨3, 1, 101⟩) false 20 ⟨3, 1, 101⟩ (fun _ => 2 < (3 : Byte).toNat) :=
  ⟨of_peer (by decide +kernel) (by decide +kernel), of_peer (by decide +kernel) (by decide +kernel),
   of_peer (by decide +kernel) (by decide +kernel)⟩

theorem witness_StopTaken :
    Meets dis .stop false Body.asStop (.peer 5 ⟨1⟩) false 5 ⟨1⟩
      (fun h => h.senderExcluded 5 = false ∧ h.hall.stops = [] ∧ h.hall.stops.find? (fun e => e.addr == 5) = none) ∧
    Meets dis .stop false Body.asStop (.peer 5 ⟨3⟩) false 5 ⟨3⟩ (fun h => h.senderExcluded 5 = false) ∧
    Meets dis .stop false Body.asStop (.peer 5 ⟨4⟩) false 5 ⟨4⟩ (fun _ => 3 < (4 : Byte).toNat) ∧
    Meets dis .stop false Body.asStop (.peer 5 ⟨0⟩) false 5 ⟨0⟩ (fun _ => (0 : Byte).toNat < 1) ∧
    Meets dis .stop false Body.asStop (.peer 7 ⟨1⟩) false 7 ⟨1⟩ (fun h => h.senderExcluded 7 = true) :=
  ⟨of_peer (by decide +kernel) (by decide +kernel), of_peer (by decide +kernel) (by decide +kernel),
   of_peer (by decide +kernel) (by decide +kernel), of_peer (by decide +kernel) (by decide +kernel),
   of_peer (by decide +kernel) (by decide +kernel)⟩

theorem witness_StopTaken_ends :
    Meets (dischargingAt 500) .stop false Body.asStop (.peer 5 ⟨1⟩) false 5 ⟨1⟩
      (fun h => h.senderExcluded 5 = false ∧ h.hall.stops.find? (fun e => e.addr == 5) = none ∧
        h.cfg.role = .discharge ∧ h.discharge.progress = some ⟨1, 40, 102, 500⟩ ∧
        h.discharge.lots = dischargingLot :: [] ∧ hasQueueRoom h) ∧
    Meets flushing .stop false Body.asStop (.peer 5 ⟨1⟩) false 5 ⟨1⟩
      (fun h => h.senderExcluded 5 = false ∧ h.hall.stops.find? (fun e => e.addr == 5) = none ∧
        h.cfg.role = .filter ∧ h.filter.progress = some ⟨4, 101, false⟩ ∧ hasQueueRoom h) ∧
    Meets { dis with hall := { dis.hall with stops := [⟨5, .operator, true⟩] } } .stop false Body.asStop (.peer 5 ⟨1⟩)
      false 5 ⟨1⟩ (fun h => h.senderExcluded 5 = false ∧ h.hall.stops.find? (fun e => e.addr == 5) ≠ none ∧
        h.cfg.role ≠ .crusher) :=
  ⟨of_peer (by decide +kernel) (by decide +kernel), of_peer (by decide +kernel) (by decide +kernel),
   of_peer (by decide +kernel) (by decide +kernel)⟩

theorem witness_StopTaken_withdraws :
    (awaited.cfg.role = .discharge ∧ awaited.discharge.pending = [] ∧
      awaited.table.claims.any (fun c => c.owner == awaited.own && c.id == 40 && c.isCommitted) = true ∧
      awaited.trunk.queue = [] ∧ awaited.trunk.line = .active ∧ awaited.sync.status = .synced) ∧
    (claimedFlush.cfg.role = .filter ∧ claimedFlush.filter.mode ≠ .flushing ∧
      claimedFlush.filter.claimId = some 4 ∧
      claimedFlush.table.claims.any (fun c => c.owner == claimedFlush.own && c.id == 4 && c.isCommitted) = true) ∧
    (overrunFlush.filter.mode = .flushing ∧ (flusher .committed none).filter.mode = .committed) := by decide +kernel

/-- Station 3, where station 5 stops the hall. -/
def halted : State := { dis with hall := { dis.hall with stops := [⟨5, .operator, true⟩], firstCause := some .operator } }

theorem witness_ReleaseTaken :
    Meets halted .release false Body.asRelease (.peer 5 ⟨5, false⟩) false 5 ⟨5, false⟩
      (fun h => (5 : Byte).toNat = (5 : Addr).val ∧ h.senderExcluded 5 = false ∧ ∃ e ∈ h.hall.stops, e.addr = 5) ∧
    Meets halted .release false Body.asRelease (.peer 9 ⟨31, true⟩) false 9 ⟨31, true⟩
      (fun h => (31 : Byte).toNat = (31 : Addr).val ∧ h.senderExcluded 9 = false ∧
        ∀ e ∈ h.hall.stops, e.addr ≠ 31) ∧
    Meets halted .release false Body.asRelease (.peer 9 ⟨32, true⟩) false 9 ⟨32, true⟩
      (fun _ => 31 < (32 : Byte).toNat) ∧
    Meets halted .release false Body.asRelease (.peer 9 ⟨5, false⟩) false 9 ⟨5, false⟩
      (fun _ => (5 : Byte).toNat ≠ (9 : Addr).val) :=
  ⟨of_peer (by decide +kernel) (by decide +kernel), of_peer (by decide +kernel) (by decide +kernel),
   of_peer (by decide +kernel) (by decide +kernel), of_peer (by decide +kernel) (by decide +kernel)⟩

abbrev canAnswer (h : State) : Prop :=
  h.trunk.line = .active ∧
    (h.sync.status = .syncing ∨ h.sync.status = .synced ∨ h.sync.status = .diverged)

theorem witness_AskTaken :
    Meets dis .ask false Body.asAsk (.peer 5 ⟨0xFF, 1⟩) false 5 ⟨0xFF, 1⟩
      (fun h => canAnswer h ∧ h.mode.mode ≠ .leaving ∧
        ∀ f ∈ h.trunk.queue, ¬(f.sent = none ∧ f.body.kind = .hello)) ∧
    Meets dis .ask false Body.asAsk (.peer 5 ⟨31, 1⟩) false 5 ⟨31, 1⟩
      (fun h => ¬((31 : Byte) = 0xFF ∨ (31 : Byte).toNat = h.own.val)) ∧
    Meets dis .ask false Body.asAsk (.peer 5 ⟨3, 2⟩) false 5 ⟨3, 2⟩
      (fun h => canAnswer h ∧ (3 : Byte).toNat = h.own.val) ∧
    Meets (sends dis (.ask ⟨0xFF, 2⟩) (.ask ⟨0xFF, 2⟩)) .ask false Body.asAsk .own true 3 ⟨0xFF, 2⟩ canAnswer ∧
    Meets (inSync dis .listening) .ask false Body.asAsk (.peer 5 ⟨0xFF, 2⟩) false 5 ⟨0xFF, 2⟩
      (fun h => ¬canAnswer h) ∧
    Meets dis .ask false Body.asAsk (.peer 5 ⟨3, 0⟩) false 5 ⟨3, 0⟩ (fun _ => (0 : Byte).toNat < 1) ∧
    Meets dis .ask false Body.asAsk (.peer 5 ⟨32, 1⟩) false 5 ⟨32, 1⟩
      (fun _ => (32 : Byte) ≠ 0xFF ∧ 31 < (32 : Byte).toNat) :=
  ⟨of_peer (by decide +kernel) (by decide +kernel), of_peer (by decide +kernel) (by decide +kernel),
   of_peer (by decide +kernel) (by decide +kernel),
   of_own (g := flying (.ask ⟨0xFF, 2⟩) (.ask ⟨0xFF, 2⟩)) (body := .ask ⟨0xFF, 2⟩) (by decide +kernel)
     (by decide +kernel) (by decide +kernel) (by decide +kernel),
   of_peer (by decide +kernel) (by decide +kernel), of_peer (by decide +kernel) (by decide +kernel),
   of_peer (by decide +kernel) (by decide +kernel)⟩

def row5 (role : BitVec 2) : RowBody := ⟨⟨role, 2, 2, 0x1234⟩, 100, [rec0 1, { rec0 2 with committed := true, c := 4 }]⟩

theorem witness_RowTaken :
    Meets dis .row true Body.asRow (.peer 5 (row5 0)) false 5 (row5 0) (fun _ => (row5 0).info.role = 0) ∧
    Meets (holding (inRound [] 0) [lot 5 7, lot 9 1]) .row true Body.asRow (.peer 5 (row5 1)) false 5 (row5 1)
      (fun h => (5 : Addr) ≠ h.own ∧ roleOfCode 1 = some .discharge ∧ h.cfg.role ≠ .crusher ∧
        h.sync.status ≠ .syncing ∧ h.sync.round = .opened) ∧
    Meets (inSync cru .syncing) .row true Body.asRow (.peer 5 (row5 3)) false 5 (row5 3)
      (fun h => (5 : Addr) ≠ h.own ∧ h.cfg.role = .crusher ∧ roleOfCode 3 = some .crusher ∧ h.sync.status = .syncing) ∧
    Meets (inSync dis .syncing) .row true Body.asRow (.peer 5 { row5 1 with info := ⟨1, 2, 2, 5⟩ }) false 5
      { row5 1 with info := ⟨1, 2, 2, 5⟩ } (fun h => h.sync.status = .syncing ∧ (5 : BitVec 16) ≠ h.cfg.hall.digest) ∧
    Meets (sends dis .row (.row (row5 1))) .row true Body.asRow .own true 3 (row5 1)
      (fun h => (3 : Addr) = h.own ∧ h.senderExcluded 3 = false) ∧
    Meets dis .row true Body.asRow (.peer 3 (row5 1)) false 3 (row5 1)
      (fun h => (3 : Addr) = h.own ∧ (row5 1).info.role ≠ 0 ∧ h.sync.status ≠ .syncing ∧
        h.senderExcluded 3 = false) :=
  ⟨of_peer (by decide +kernel) (by decide +kernel), of_peer (by decide +kernel) (by decide +kernel),
   of_peer (by decide +kernel) (by decide +kernel), of_peer (by decide +kernel) (by decide +kernel),
   of_own (g := flying .row (.row (row5 1))) (body := .row (row5 1)) (by decide +kernel) (by decide +kernel)
     (by decide +kernel) (by decide +kernel),
   of_peer (by decide +kernel) (by decide +kernel)⟩

/-- R13: of two records of one id the later is dropped, also where the first may not enter. -/
theorem test_repeated_record_dropped :
    (rowClaims 5 { row5 1 with records := [rec0 1, { rec0 2 with volume := 0 }, rec0 2] } 2 4 0).map (fun c => c.id) =
      [1] := by decide +kernel

/-! ### The outgoing queue -/

/-- Eight frames waiting at station 3, the last of them of class 4. -/
def crowded : List QFrame :=
  (List.range 7).map (fun i => newFrame (.stop ⟨BitVec.ofNat 8 (i + 4)⟩) .port false) ++ [newFrame .present .window false]

theorem witness_RequestSettled :
    (inSync dis (.excluded .role)).sync.status = .excluded .role ∧
    (onLine dis (fun t => { t with line := .listenOnly })).trunk.line = .listenOnly ∧
    dis.trunk.line = .active ∧ dis.sync.status = .synced ∧
    ((withQueue dis crowded).trunk.queue.length = 8 ∧
      (withQueue dis crowded).trunk.queue[7]? = some (newFrame .present .window false) ∧
      (∀ g ∈ crowded, g.cls ≤ (newFrame .present .window false).cls) ∧
      (newFrame (.claim (claim 20 0)) .role false).cls < (newFrame .present .window false).cls) ∧
    (withQueue dis [newFrame (.claim (claim 30 0)) .role false]).trunk.queue.any
      (fun g => g.sent.isNone && g.body == .claim (claim 30 0)) = true ∧
    (holding dis [lot 3 40]).table.claims.any (fun c => c.owner == dis.own && c.id == 40) = true := by
  decide +kernel

/-! ### Line, timers and operations -/

def quietLine (s : State) : State := onLine s (fun t => { t with cycle := none })
def confined (s : State) (expiries : Nat) : State :=
  onLine s (fun t => { t with line := .listenOnly, confExpiries := expiries })

theorem witness_LineMoves :
    dis.listens = true ∧ dis.awake = true ∧ dis.trunk.cycle ≠ none ∧ dis.trunk.busy = false ∧
    (quietLine dis).awake = true ∧ (quietLine dis).trunk.cycle = none ∧ (quietLine dis).trunk.busy = false := by
  decide +kernel

def waitingFrame (b : QBody) (urgent : Bool) : QFrame := newFrame b .role urgent

theorem witness_SlotStarts :
    let own := withQueue dis [waitingFrame .present false, waitingFrame .mark false]
    let urgent := withQueue cru [waitingFrame .mark false, waitingFrame .gate true]
    (own.awake = true ∧ own.trunk.cycle = some ⟨none, 0⟩ ∧ own.trunk.busy = false ∧ own.trunk.line = .active ∧
      own.trunk.failHold = false ∧ (∀ c, own.sync.status ≠ .excluded c) ∧
      accessSlot own.own own.trunk.lastSender = 29 ∧ headIdx own.trunk.queue = some 1) ∧
    (urgent.awake = true ∧ urgent.cfg.role = .crusher ∧ urgent.sync.status = .synced ∧
      urgentIdx urgent.trunk.queue = some 1) ∧
    ((confined dis 0).trunk.line ≠ .active ∧ dis.trunk.queue = [] ∧
      ∃ k, Slot.rotating 0 = .rotating k ∧ k ≠ accessSlot own.own own.trunk.lastSender) := by
  refine ⟨⟨?_, ?_, ?_, ?_, ?_, not_excluded ?_, ?_, ?_⟩, ?_, ?_, ?_, ⟨0, rfl, ?_⟩⟩ <;> decide +kernel

/-- The station's MARK in flight after `n` failures in a row. -/
def failing (n : Nat) : State := onLine (sends dis .mark (.mark mark101)) (fun t => { t with failCount := n })

theorem witness_ListenBackFails :
    (failing 6).awake = true ∧ (∃ f ∈ (failing 6).trunk.queue, f.sent.isSome = true) ∧
    (failing 6).trunk.failCount + 1 < 8 ∧ (∀ f ∈ (failing 6).trunk.queue, f.pulled = false) ∧
    8 ≤ (failing 7).trunk.failCount + 1 ∧ (failing 7).sync.status = .synced := by decide +kernel

/-- Station 3 in LEAVING, the withdrawal of its leaving HELLO asked for in flight, after `n` failures in a row. -/
def recalled (wake : Bool) (n : Nat) : State :=
  onLine (leaver wake) (fun t => { t with failCount := n, queue := t.queue.map (fun f => { f with pulled := true }) })

theorem witness_ListenBackFails_withdrawn :
    ∀ w, (recalled w 0).awake = true ∧ (∃ f ∈ (recalled w 0).trunk.queue, f.sent.isSome = true) ∧
      (recalled w 0).trunk.failCount + 1 < 8 ∧ 8 ≤ (recalled w 7).trunk.failCount + 1 ∧
      (∃ f ∈ (recalled w 0).trunk.queue, f.pulled = true ∧ f.leavingHello = true) ∧
      (recalled w 0).mode.wakeMark = w ∧ (recalled w 7).mode.mode = .leaving := by decide +kernel

/-- R87, R182, R183: the HELLO goes with its failure, and the mode is back in QUIET, or in RUN with SHIFT active. -/
theorem test_recalled_hello :
    (after (.listenBackFailure none) (recalled false 0)).mode.mode = .quiet ∧
    (after (.listenBackFailure none) (recalled true 0)).mode.mode = .run ∧
    (after (.listenBackFailure none) (recalled true 0)).trunk.queue = [] := by decide +kernel

theorem witness_WindowTimerRunsOut :
    dis.awake = true ∧ dis.window.timer ≠ none ∧ dis.trunk.line = .active ∧ dis.sync.status = .synced ∧
    (inSync dis .syncing).sync.status ≠ .synced ∧ ¬1 ≤ (inSync dis .syncing).window.expiries ∧
    (confined dis 6).trunk.line = .listenOnly ∧ (confined dis 6).trunk.confExpiries + 1 < 8 ∧
    8 ≤ (confined dis 7).trunk.confExpiries + 1 := by decide +kernel

/-- R52, R81: the eighth expiry in confinement requests no MARK. -/
theorem test_confinement_ends_without_mark :
    (after .windowTimerExpiry (confined dis 7)).trunk.line = .active ∧
    (after .windowTimerExpiry (confined dis 7)).trunk.queue.all (fun f => f.body != .mark) = true := by decide +kernel

/-- Station 3 listening for a trunk. -/
def hearing : State := { dis with sync := ⟨.listening, some 3, .idle, [], 0, 0, false⟩ }

theorem witness_ListeningTimerRunsOut :
    hearing.awake = true ∧ hearing.sync.listenTimer ≠ none ∧ hearing.sync.status = .listening ∧
    hearing.trunk.queue = [] ∧ hearing.cfg.role ≠ .crusher ∧ hearing.trunk.line = .active := by decide +kernel

/-- A crusher listening for a trunk, `n` STOPs of the port in its queue and a PRESENT last. -/
def hearingCrusher (n : Nat) : State :=
  withQueue { cru with sync := hearing.sync }
    ((List.range n).map (fun i => newFrame (.stop ⟨BitVec.ofNat 8 (i + 4)⟩) .port false) ++
      [newFrame .present .window false])

theorem witness_ListeningTimerRunsOut_crusher :
    (hearingCrusher 4).awake = true ∧ (hearingCrusher 4).sync.listenTimer ≠ none ∧
    (hearingCrusher 4).sync.status = .listening ∧ (hearingCrusher 4).cfg.role = .crusher ∧
    (hearingCrusher 4).trunk.line = .active ∧ (hearingCrusher 4).trunk.queue.length + 2 < 8 ∧
    (inSync (hearingCrusher 6) .synced).tellHall.trunk.queue.length = 8 ∧
    (∃ f ∈ (inSync (hearingCrusher 6) .synced).tellHall.trunk.queue, f.sent = none ∧ f.body = .present) ∧
    { hearing with trunk := (confined dis 0).trunk }.trunk.line = .listenOnly := by decide +kernel

def indexing : State :=
  running { dis with discharge := { dis.discharge with lots :=
    [{ Lot.fresh 1 2 with status := .sealed, volume := some 40, travel := 300 }] } } dis.indexOp
def reversing : State :=
  running { cru with crusher := { cru.crusher with mode := .reversing, attempts := 1 } } ⟨.reverse, some 1500000, 9, 96, 0⟩

theorem witness_IndexCompletes : indexing.awake = true ∧ indexing.seq.runs .index = true := by decide +kernel

theorem witness_FlushCompletes :
    flushing.awake = true ∧ flushing.seq.runs .flush = true ∧ flushing.filter.progress = some ⟨4, 101, false⟩ ∧
    flushing.trunk.queue.length < 8 ∧ flushing.trunk.line = .active ∧ ∀ c, flushing.sync.status ≠ .excluded c := by
  refine ⟨?_, ?_, ?_, ?_, ?_, not_excluded ?_⟩ <;> decide +kernel

/-- Station 9 ONLINE with a posted claim at rank `r`. -/
def posted (r : Nat) : State := { fil with filter := { fil.filter with claimId := some 4, postedRank := r } }


theorem witness_FlushCompletes_marks :
    flushing.cfg.role = .filter ∧ flushing.filter.progress = some ⟨4, 101, false⟩ ∧
    ((flusher .settling none).filter.progress = none ∧ (flusher .settling none).filter.mode = .settling) ∧
    ((flusher .committed (some 101)).filter.discharge = some 101 ∧ fil.sync.status = .synced ∧ fil.hall.stops = [] ∧
      fil.mode.supply = .normal ∧ fil.mode.mode = .run) ∧
    (¬(1 ≤ (100 - 101 : Window).toNat ∧ (100 - 101 : Window).toNat ≤ 255) ∧
      (flusher .committed (some 100)).filter.claimId = some 4 ∧ fil.trunk.queue = []) ∧
    (1 ≤ (102 - 101 : Window).toNat ∧ (102 - 101 : Window).toNat ≤ 255) ∧
    ((holding fil [flushTo 104]).filter.claimId = none ∧ (holding fil [flushTo 104]).filter.pending = none ∧
      (flushTo 104).owner = fil.own ∧ fil.trunk.line = .active) := by decide +kernel

theorem witness_FlushCompletes_lawful : (flusher .committed (some 101)).seq.lawful := by
  refine ⟨List.Pairwise.nil, fun _ => ⟨rfl, rfl⟩, ?_, rfl, rfl⟩
  intro r d h
  cases h

theorem witness_ReverseAndRecurrence :
    reversing.awake = true ∧ reversing.seq.runs .reverse = true ∧
    { feeding with crusher := { feeding.crusher with recurrence := some 5 } }.crusher.recurrence ≠ none := by
  decide +kernel

/-- The flush of station 9, its pump proved or not, channel 1 as given. -/
def pumping (proved : Bool) (c : Channel) : State :=
  { flushing with
    filter := { flushing.filter with progress := some ⟨4, 101, proved⟩ }
    measure := { flushing.measure with channels := List.replicate 4 c } }

theorem witness_PumpProved :
    flushing.provingTicks < flushing.flushTicks ∧ flushing.flushElapsed ≤ flushing.provingTicks ∧
    (⟨4, 101, false⟩ : Flushing).proved = false ∧ flushing.channelIs 1 .inBounds = true ∧
    (pumping false ⟨some 50, .below, 0, 0, 0⟩).channelIs 1 .inBounds = false ∧
    flushing.measure.capture = .empty ∧ 1 < flushing.measure.channels.length ∧
    (((pumping true ⟨some 200, .inBounds, 0, 1, 0⟩).channel 1).after (flushing.channelParams 1) 99).status = .below ∧
    (((pumping false ⟨some 200, .inBounds, 1, 0, 0⟩).channel 1).after (flushing.channelParams 1) 3401).status = .above ∧
    (posted 2).filter.mode = .online ∧ (posted 2).filter.claimId = some 4 ∧
    (flusher .claimed none).filter.mode = .claimed ∧
    (holding fil [flushOf 9 4]).table.claims.find? (fun c => c.owner == fil.own && c.id == 4) = some (flushOf 9 4) ∧
    fil.filter.claimId = none ∧
    (holding flushing [flushTo 101, { flushTo 101 with id := 5 }]).trunk.queue.length + 2 < 8 ∧
    ({ flushTo 101 with id := 5 } : Claim).id ≠ 4 := by decide +kernel

/-- A sequencer with the operations given. -/
def sequencer (r : Option Op) (stack : List Op) (d : Option Op) : SeqState :=
  { dis.seq with running := r, stack := stack, deferred := d }

def op (k : OpKind) : Op := ⟨k, none, 3, 100, 50⟩

theorem witness_DriveCycleStarts :
    dis.awake = true ∧ (255 : Nat) < 256 ∧ (sequencer none [] none).running = none ∧
    (op .feed).level < (op .discharge).level ∧ (op .flush).level ≤ (op .discharge).level ∧
    (sequencer (some (op .safeStop)) [op .reverse, op .flush] none).stack.length < 3 ∧
    ((sequencer (some (op .flush)) [op .feed, op .feed, op .index] none).stack.getLast? = some (op .index) ∧
      (op .flush).level < (op .reverse).level) ∧
    (sequencer none [op .flush] (some (op .discharge))).deferred = some (op .discharge) ∧
    (sequencer (some (op .feed)) [] none).runs .feed = true ∧ (sequencer none [op .feed] none).runs .feed = false ∧
    (sequencer none [] (some (op .feed))).stack = [] ∧ (sequencer none [] none).holdsOp .feed = false ∧
    (op .flush).level < (op .reverse).level ∧ (op .reverse).level ≤ (op .safeStop).level := by
  decide +kernel

/-- A crusher whose channel 0 stands as given. -/
def reading (c : Channel) : State := { cru with measure := { cru.measure with channels := List.replicate 4 c } }

theorem witness_AverageCompletes :
    dis.awake = true ∧ (3 : Fin 4).val < dis.measure.channels.length ∧
    (dis.channelParams 0).high < 3401 ∧ ¬(dis.channelParams 0).high < 3400 ∧ 99 < (dis.channelParams 0).low ∧
    ¬100 < (dis.channelParams 0).low ∧ (dis.channel 0).status = .inBounds ∧
    (dis.channelParams 0).persistence ≤ ((reading ⟨none, .inBounds, 1, 0, 0⟩).channel 0).highRun + 1 ∧
    ((reading ⟨none, .above, 0, 0, 1⟩).channel 0).status = .above ∧
    ((reading ⟨none, .below, 0, 0, 0⟩).channel 0).status = .below := by decide +kernel

/-- The state a channel at a boundary of its runs takes. -/
abbrev becomes (s : State) (ch : Fin 4) (avg : Nat) (x : ChannelStatus) : Prop :=
  ((s.channel ch).after (s.channelParams ch) avg).status = x

/-- A station whose channels are one average short of ABOVE. -/
def rising (s : State) : State :=
  { s with measure := { s.measure with channels := List.replicate 4 ⟨none, .inBounds, 1, 0, 0⟩ } }

theorem witness_AverageCompletes_acts :
    dis.measure.capture = .empty ∧ { dis.measure with capture := .pending 0 }.capture = .pending 0 ∧
    becomes (rising dis) 1 3401 .above ∧ dis.discharge.beltFault = false ∧ (becomes (rising dis) 0 3400 .inBounds) ∧
    (becomes (rising feeding) 0 3401 .above ∧ feeding.crusher.mode = .running ∧ feeding.seq.runs .feed = true ∧
      (rising feeding).measure.capture = .empty) ∧
    becomes (rising feeding) 1 3401 .above ∧ becomes (reading ⟨none, .above, 0, 0, 1⟩) 1 3400 .inBounds ∧
    ({ sealedLot 1 with volume := none } : Lot).status = .sealed ∧
    { dis with measure := { dis.measure with channels := List.replicate 4 ⟨none, .below, 0, 0, 0⟩ } }.channelIs 0 .below =
      true ∧ dis.channelIs 0 .below = false ∧
    (∃ l ∈ (keeping [Lot.fresh 1 2]).discharge.lots, l.status = .opened) ∧
    (∀ l ∈ (keeping [sealedLot 1]).discharge.lots, l.status ≠ .opened) := by decide +kernel

theorem witness_AverageCompletes_lawful : feeding.seq.lawful := by
  refine ⟨List.pairwise_singleton _ _, ?_, ?_, rfl, rfl⟩
  · intro h; cases h
  · intro r d _ h; cases h

/-- A station whose supply is LOW. -/
def starving (s : State) (run : Nat) : State := { s with mode := { s.mode with supply := .low, returnRun := run } }

theorem witness_SupplyJudged :
    dis.awake = true ∧ dis.mode.supply = .normal ∧ 2730 * 60 < dis.cfg.supplyThreshold * 4096 ∧
    ¬2731 * 60 < dis.cfg.supplyThreshold * 4096 ∧ (starving dis 0).mode.supply = .low ∧
    2798 * 60 < (dis.cfg.supplyThreshold + 1) * 4096 ∧ ¬2799 * 60 < (dis.cfg.supplyThreshold + 1) * 4096 ∧
    dis.seq.runs .safeStop = false ∧ 1 ≤ (starving dis 1).mode.returnRun := by decide +kernel

/-- Station 3 discharging its head lot, with a lot CLAIMED behind it and the claims of both in its table. -/
def halfway : State :=
  let s := dischargingAt 500
  holding { s with discharge := { s.discharge with lots := [dischargingLot, { sealedLot 2 with
    status := .claimed, claimId := some 1 }] } } [lot 3 1, lotTo 3 40 102]

theorem witness_SupplyJudged_withdrawals :
    (∀ s ∈ [claimedLot, halfway, claimedFlush, flushing, cru, posted 1, fil], s.awake = true ∧
      s.mode.supply = .normal ∧ s.seq.stack.length < 3 ∧ s.trunk.line = .active ∧
      s.sync.status.isExcluded = false ∧ s.trunk.queue.length + s.discharge.lots.length +
        (s.table.claims.filter (fun c => c.owner == s.own)).length < 7) ∧
    claimedLot.cfg.role = .discharge ∧ claimedLot.discharge.progress = none ∧
    halfway.discharge.progress = some ⟨1, 40, 102, 500⟩ ∧ halfway.discharge.lots.head? = some dischargingLot ∧
    (∃ l ∈ halfway.discharge.lots.tail, l.claimId = some 1 ∧ l.status ≠ .discharging) ∧
    (∀ p ∈ halfway.discharge.pending, p.body.id ≠ 1) ∧
    (∀ l ∈ halfway.discharge.lots, l.claimId = some 1 → l.status ≠ .discharging) ∧
    (halfway.table.claims.any (fun c => c.owner == halfway.own && c.id == 1)) = true ∧
    claimedFlush.cfg.role = .filter ∧ claimedFlush.filter.progress = none ∧ claimedFlush.filter.claimId = some 4 ∧
    claimedFlush.filter.mode ≠ .flushing ∧ (posted 1).filter.claimId = some 4 ∧
    (∀ f ∈ (posted 1).trunk.queue, f.waitingClaim 4 = false) ∧ flushing.cfg.role = .filter ∧
    flushing.filter.progress = some ⟨4, 101, false⟩ ∧ fil.filter.claimId = none ∧ cru.cfg.role = .crusher := by
  decide +kernel

/-- R127: the lot behind the discharge is SEALED again and its claim withdrawn, the head lot's DONE requested. -/
theorem test_supply_low_withdraws :
    let t := after (.vfsAverage ⟨2730, 2730, 2730, 2730⟩) halfway
    t.discharge.lots.map (fun l => (l.status, l.claimId)) = [(.sealed, none), (.sealed, none)] ∧
    t.trunk.queue.map (fun f => f.body.kind) = [.done, .withdraw] := by decide +kernel

theorem witness_EncoderEdgeCounted :
    fil.cfg.role = .filter ∧ dis.measure.prescale + 1 < dis.cfg.prescaler ∧
    cru.cfg.role = .crusher ∧ { cru with measure := { cru.measure with prescale := 1 } }.cfg.prescaler ≤ 1 + 1 ∧
    indexing.seq.runs .index = true ∧ (dischargingAt 798).awake = true ∧
    (dischargingAt 798).cfg.prescaler ≤ (dischargingAt 798).measure.prescale + 1 ∧
    (dischargingAt 798).seq.runs .discharge = true ∧ 798 + 1 < dischargingLot.length.getD 1 ∧
    dischargingLot.length.getD 1 ≤ 799 + 1 := by decide +kernel

/-- The lot COMMITTED to window 101, on the track. -/
def committedLot : Lot := { dischargingLot with status := .committed, discharge := some 101 }

theorem witness_EncoderEdgeCounted_marks :
    (dischargingAt 799).discharge.progress = some ⟨1, 40, 102, 799⟩ ∧
    (dischargingAt 799).discharge.lots = dischargingLot :: [] ∧ (dischargingAt 799).trunk.queue = [] ∧
    ((keeping [committedLot]).discharge.progress = none ∧ committedLot.status = .committed ∧
      committedLot.onTrack = true ∧ committedLot.discharge = some 101 ∧ dis.hall.stops = [] ∧
      dis.mode.supply = .normal ∧ dis.discharge.pending.length < 6) ∧
    (keeping []).discharge.lots = [] ∧ (∀ l ∈ [committedLot], l.status = .committed → l.claimId ≠ none) ∧
    ({ Lot.fresh 1 2 with age := 50, running := some 20 } : Lot).status = .opened ∧ dis.cfg.dis.ageLimit ≤ 50 ∧
    (dis.cfg.hall.bounds.getD 1 ⟨0, 0⟩).min ≤ 20 ∧
    ((holding dis [lot 3 40]).discharge.lots = [] ∧ (holding dis [lot 3 40]).discharge.pending = [] ∧
      (lot 3 40).owner = dis.own ∧ dis.trunk.line = .active) := by decide +kernel

theorem witness_EncoderEdgeCounted_lawful : (keeping [committedLot]).seq.lawful := by
  refine ⟨List.Pairwise.nil, fun _ => ⟨rfl, rfl⟩, ?_, rfl, rfl⟩
  intro r d h
  cases h

/-- FEED runs and its stall timer too; `n` attempts so far, within the interval. -/
def stalling (n : Nat) : State :=
  { feeding with
    measure := { feeding.measure with stallTimer := some 9 }
    crusher := { feeding.crusher with attempts := n, recurrence := some 5 } }

theorem stalling_lawful (n : Nat) : (stalling n).seq.lawful := by
  refine ⟨?_, ?_, ?_, rfl, rfl⟩
  · exact List.pairwise_singleton _ _
  · intro h; cases h
  · intro r d _ h; cases h

theorem witness_StallJudged :
    (dischargingAt 3).awake = true ∧ (dischargingAt 3).measure.stallTimer ≠ none ∧
    (dischargingAt 3).seq.runs .discharge = true ∧ (dischargingAt 3).discharge.beltFault = false ∧
    (stalling 1).awake = true ∧ (stalling 1).measure.stallTimer ≠ none ∧ (stalling 1).crusher.mode = .running ∧
    (stalling 1).seq.runs .feed = true ∧ (stalling 2).crusher.attempts = 2 ∧
    { fil with measure := { fil.measure with stallTimer := some 9 } }.cfg.role = .filter := by decide +kernel

/-! ### Field lines, start and shift, the port -/

/-- Station 3 with an OPEN lot in its skip. -/
def opened : State := { dis with discharge := { dis.discharge with lots := [Lot.fresh 1 2] } }

theorem witness_FieldStrobes :
    opened.awake = true ∧ opened.cfg.role = .discharge ∧ (∃ l ∈ opened.discharge.lots, l.status = .opened) ∧
    fil.inReset = false ∧ fil.cfg.role ≠ .discharge ∧ cru.awake = true ∧ cru.cfg.role = .crusher ∧
    1 ≤ (1 : BitVec 3).toNat ∧ 1 ≤ (7 : BitVec 3).toNat ∧ State.reset.inReset = false ∧
    State.reset.awake = false ∧ dis.measure.capture = .empty ∧
    { dis.measure with capture := .pending 3 }.capture ≠ .empty := by decide +kernel

def faulted (s : State) : State :=
  { s with discharge := { s.discharge with beltFault := true }, filter := { s.filter with mode := .fault }
           crusher := { s.crusher with mode := .jammed, attempts := 3 } }

theorem witness_FaultsCleared :
    cru.awake = true ∧ cru.cfg.role = .crusher ∧ cru.crusher.mode = .running ∧ reversing.crusher.mode = .reversing ∧
    (faulted cru).crusher.mode ≠ .running ∧ (faulted dis).awake = true ∧ (faulted dis).discharge.beltFault = true ∧
    (faulted dis).channelIs 1 .above = false ∧ dis.discharge.beltFault = false ∧ (faulted fil).awake = true ∧
    (faulted fil).cfg.role = .filter ∧ (faulted fil).filter.mode = .fault ∧ fil.filter.mode ≠ .fault := by
  decide +kernel

theorem witness_ShiftChanged :
    dis.inReset = false ∧ dis.mode.mode = .run ∧ (inMode dis .quiet).mode.mode = .quiet ∧
    (leaver false).mode.mode = .leaving ∧
    (∃ f ∈ (leaver false).trunk.queue, f.leavingHello = true ∧ f.sent.isSome = true) ∧
    ¬(∃ f ∈ (inMode dis .leaving).trunk.queue, f.leavingHello = true ∧ f.sent.isSome = true) ∧
    (inMode dis .dormant).mode.mode = .dormant ∧ State.reset.mode.mode = .startHold := by decide +kernel

/-- Station 3 in START_HOLD, its configuration good, after `n` good checks of the crystal. -/
def checking (n : Nat) : State :=
  { dis with mode := ⟨.startHold, .powerOn, .good, .unproved, n, .normal, 0, 0, false, false⟩ }

theorem witness_ClockChecked :
    (checking 2).inReset = false ∧ (checking 2).mode.mode = .startHold ∧ (checking 2).mode.config = .good ∧
    (checking 2).mode.clock ≠ .qualified ∧ (checking 2).mode.clockRun + 1 < 4 ∧
    4 ≤ (checking 3).mode.clockRun + 1 ∧ 79200 ≤ 79200 ∧ 80800 ≤ 80800 ∧
    ¬(79200 ≤ 79199 ∧ 79199 ≤ 80800) ∧ ¬(79200 ≤ 80801 ∧ 80801 ≤ 80800) := by decide +kernel

/-- A good image of a DISCHARGE station 3 in six parts, its check word computed outside the model, and the same
with a wrong one. -/
def hallBytes : List Byte := [1, 16, 0, 100, 1, 4, 20, 80, 20, 80, 20, 80, 20, 80, 20, 80, 20, 80, 20, 60]
def stationBytes : List Byte := [3, 1, 2, 1, 0, 0, 1, 2, 2, 1, 0, 100, 13, 72, 2, 1, 0, 100, 13, 72, 2]
def channelBytes : List Byte := [1, 0, 100, 13, 72, 2, 1, 0, 100, 13, 72, 2, 2, 10]
def roleBytes : List Byte := [3, 50, 0, 8, 0, 8, 0, 8, 0, 8, 0, 8, 0, 8, 20, 100, 80, 200]
def padA : List Byte := List.replicate 26 0
def padB : List Byte := List.replicate 27 0
def imageBody : List Byte := hallBytes ++ stationBytes ++ channelBytes ++ roleBytes ++ padA ++ padB
def imageGood : List Byte := imageBody ++ [0x06, 0xBF]
def imageBad : List Byte := imageBody ++ [0, 0]

theorem crc_hallBytes : hallBytes.foldl crcByte 0xFFFF#16 = 0xC839#16 := by decide +kernel
theorem crc_stationBytes : stationBytes.foldl crcByte 0xC839#16 = 0x0135#16 := by decide +kernel
theorem crc_channelBytes : channelBytes.foldl crcByte 0x0135#16 = 0x6D97#16 := by decide +kernel
theorem crc_roleBytes : roleBytes.foldl crcByte 0x6D97#16 = 0x9643#16 := by decide +kernel
theorem crc_padA : padA.foldl crcByte 0x9643#16 = 0x1500#16 := by decide +kernel
theorem crc_padB : padB.foldl crcByte 0x1500#16 = 0x06BF#16 := by decide +kernel

/-- The check word of the image's first 126 bytes. -/
theorem test_image_check : crc16 imageBody = 0x06BF#16 := by
  simp only [imageBody, crc16, List.foldl_append, crc_hallBytes, crc_stationBytes, crc_channelBytes, crc_roleBytes, crc_padA, crc_padB]

theorem good_body : imageGood.take 126 = imageBody := by decide +kernel
theorem bad_body : imageBad.take 126 = imageBody := by decide +kernel

theorem test_config_fields :
    ((configOf imageGood).map (fun c => (c.address.val, c.transit, c.ceiling, c.dormancy, c.prescaler))) =
      some (3, 2, 1, true, 4) := by
  unfold configOf
  rw [good_body, test_image_check]
  decide +kernel

theorem test_bad_check_word : configOf imageBad = none := by
  unfold configOf
  rw [bad_body, test_image_check]
  decide +kernel

theorem witness_ConfigLoaded :
    (State.reset.inReset = false ∧ State.reset.mode.mode = .startHold ∧ State.reset.mode.config = .loading) ∧
    (∃ c, configOf imageGood = some c) ∧ configOf imageBad = none ∧
    imageHalf imageBad 126 ≠ (crc16 (imageBad.take 126)).toNat ∧ (imageBad.drop 1).length ≠ 128 := by
  refine ⟨by decide +kernel, ?_, test_bad_check_word, ?_, by decide +kernel⟩
  · cases h : configOf imageGood with
    | none => have := test_config_fields; rw [h] at this; cases this
    | some c => exact ⟨c, rfl⟩
  · rw [bad_body, test_image_check]
    decide +kernel

theorem witness_StartsFresh :
    dis.inReset = false ∧ (inMode dis .dormant).inReset = false ∧ (inMode dis .dormant).mode.mode = .dormant := by
  decide +kernel

/-- R106: a start that ends an exclusion reports the change of sync state. -/
theorem test_start_tells_sync :
    (after .reset (inSync dis (.excluded .role))).reports = [.modeChanged .startHold, .syncChanged .listening] := by
  decide +kernel

theorem witness_ReadsAnswer :
    dis.inReset = false ∧ (31 : Byte).toNat ≤ 31 ∧ (63 : Byte).toNat ≤ 63 ∧ (16 : Byte).toNat ≤ 16 ∧
    (5 : Byte).toNat ≤ 5 ∧ (3 : Byte).toNat < 4 ∧ ¬(4 : Byte).toNat < 4 ∧
    (after .readStartCause dis).port.sdo[1]? = some 0 ∧ (after .readStartCause dis).port.sdo.length ≤ 2 := by
  decide +kernel

/-- R186: an argument above its range returns only 0x00 bytes. -/
theorem test_bad_argument : (after (.readChannel 4) dis).port.sdo = List.replicate 15 0 ∧
    (after (.readChannel 4) dis).port.result = .badArg := by decide +kernel

theorem witness_AttentionTaken :
    dis.inReset = false ∧ { dis with port := ⟨5, .ok, [], some 4⟩ }.port.copy = some 4 := by decide +kernel

theorem test_take_attention :
    let t := afterAll [.attentionCopy, .takeAttention] { dis with port := ⟨0x8001, .ok, [], none⟩ }
    t.port.sdo = [0, 0x80, 0x01] ∧ t.port.flags = 0 := by decide +kernel

theorem witness_HoldAndRelease :
    (∀ s ∈ [dis, fil, cru], s.inReset = false ∧ s.closed = false) ∧ dis.cfg.role = .discharge ∧
    fil.cfg.role = .filter ∧ cru.cfg.role = .crusher ∧ flushing.filter.mode = .flushing ∧ fil.filter.band ≠ .bypass ∧
    fil.filter.mode ≠ .flushing := by decide +kernel

theorem witness_LotCloseAndFlushNow :
    (∃ l ∈ opened.discharge.lots, l.status = .opened) ∧ (∀ l ∈ dis.discharge.lots, l.status ≠ .opened) ∧
    opened.inReset = false ∧ opened.closed = false ∧ fil.filter.mode = .online ∧ fil.filter.held = false ∧
    fil.filter.claimId = none ∧ (posted 1).filter.claimId = some 4 ∧ (posted 1).filter.postedRank ≤ 1 ∧
    1 < (posted 2).filter.postedRank ∧ (posted 2).filter.mode = .online ∧
    ((flusher .claimed none).filter.mode = .claimed ∧ (flusher .claimed none).filter.claimId = some 4 ∧
      1 < (flushOf 9 4).effective) ∧
    (fil.filter.refused = false ∧ fil.filter.pending = none ∧ fil.sync.status = .synced ∧ fil.trunk.line = .active ∧
      { fil.filter with flushRequest := true }.flushRequest = true ∧ fil.filter.band = .normal) ∧
    ¬((faulted fil).filter.mode = .online ∨ (faulted fil).filter.mode = .claimed) := by decide +kernel

/-- A queue of eight frames that a STOP can neither join nor displace. -/
def fullQueue : List QFrame := (List.range 8).map (fun i => newFrame (.stop ⟨BitVec.ofNat 8 (i + 4)⟩) .port false)

abbrev fateOf (s : State) (b : QBody) : Fate :=
  (settleRequest s.trunk.queue (newFrame b .port false) (fun id => (s.ownClaim id).isSome)).fate

theorem witness_HallCommands :
    dis.inReset = false ∧ dis.closed = false ∧ canAnswer dis ∧
    (∀ b ∈ [QBody.stop ⟨3⟩, .release ⟨3, false⟩, .release ⟨31, true⟩], fateOf dis b = .queued) ∧
    ¬canAnswer (confined dis 0) ∧ fateOf (withQueue dis fullQueue) (.release ⟨3, false⟩) = .refused .full ∧
    (31 : Byte).toNat ≤ 31 ∧ 31 < (32 : Byte).toNat := by decide +kernel

/-- R88: the port is told of the STOP that its full queue refuses. -/
theorem test_full_queue_told :
    (after .hallStop (withQueue dis fullQueue)).reports = [.fate .port (.stop ⟨3⟩) (.refused .full)] ∧
    (after .hallStop (withQueue dis fullQueue)).port.result = .refusedState := by decide +kernel

theorem witness_LeaveAndWake :
    (inMode dis .quiet).inReset = false ∧ (inMode dis .quiet).mode.mode = .quiet ∧ dis.mode.mode = .run ∧
    (leaver false).mode.mode = .leaving ∧
    (∃ f ∈ (leaver false).trunk.queue, f.leavingHello = true ∧ f.sent.isSome = true) ∧
    ¬(∃ f ∈ (inMode dis .leaving).trunk.queue, f.leavingHello = true ∧ f.sent.isSome = true) := by decide +kernel

/-- A QUIET station that has been so for `n` windows. -/
def resting (s : State) (n : Nat) : State := { s with mode := { s.mode with mode := .quiet, quietWindows := n } }

/-- A crusher that hears of itself alone. -/
def lonely : State := { cru with roster := cru.roster.filter (fun e => e.addr == 20) }

theorem witness_LeaveAndWake_settles :
    (resting dis 2).cfg.dormancy = true ∧ (resting dis 2).cfg.dormantDelay ≤ 2 ∧ ¬(resting dis 1).cfg.dormantDelay ≤ 1 ∧
    dis.sync.status = .synced ∧ dis.trunk.line = .active ∧ dis.mode.supply = .normal ∧ dis.table.claims = [] ∧
    dis.seq.running = none ∧ dis.seq.stack = [] ∧ dis.seq.deferred = none ∧ dis.discharge.lots = [] ∧
    dis.discharge.pending = [] ∧ (resting lonely 2).cfg.role = .crusher ∧
    (∀ e ∈ lonely.roster, e.addr = lonely.own ∨ e.role = .crusher ∨ e.status ≠ .present) ∧
    lonely.crusher.inbound = [] ∧ lonely.crusher.surge = 0 ∧ lonely.crusher.mode = .running := by decide +kernel

/-- Station 3 in LEAVING, its leaving HELLO lost by the queue. -/
def departing : State := inMode (resting dis 2) .leaving

theorem witness_LeaveAndWake_again :
    departing.mode.mode = .leaving ∧ departing.mayLeave = true ∧
    (∀ f ∈ departing.trunk.queue, f.leavingHello = false) ∧ (inMode (resting dis 1) .leaving).mayLeave = false ∧
    (∃ f ∈ (leaver false).trunk.queue, f.leavingHello = true) := by decide +kernel

theorem witness_MarkTaken_leaving :
    Meets departing .mark false Body.asMark (.peer 5 (markOf departing)) false 5 (markOf departing)
      (fun h => h.senderExcluded 5 = false ∧ h.mode.mode = .leaving ∧ h.discharge.pending = [] ∧
        let x := h.markRecords false 5 (markOf departing)
        let z := x.markRole (h.filter.mode == .settling) (h.sync.status.mending && x.sync.status.mending) [] 101
        z.mayLeave = true ∧ z.trunk.queue.length < 8) :=
  of_peer (by decide +kernel) (by decide +kernel)

/-- R182: the MARK brings the leaving HELLO back. -/
theorem test_mark_requests_leave :
    (after (.mark (.peer 5 (markOf departing))) departing).trunk.queue.any QFrame.leavingHello = true := by
  decide +kernel

theorem witness_ClosedStationRefuses :
    State.reset.inReset = false ∧ State.reset.mode.mode = .startHold ∧ (inMode dis .dormant).mode.mode = .dormant ∧
    Instr.flushNow ∈ [Instr.hold, .releaseHold, .lotClose, .flushNow, .clearFault, .hallStop, .hallRelease, .leave] := by
  decide +kernel

/-! ### The plan, the frames and the invariants -/

theorem witness_PlanKeepsLimits :
    (buildEntries planIn planClaims)[5]? = some ⟨some 1, 95,
      [⟨5, 41, 50, 306, 304⟩, ⟨2, 13, 45, 306, 303⟩]⟩ ∧
    (placeCommitted planIn planClaims).entries[5]? = some ⟨none, 0, []⟩ ∧
    ({ planIn with hall := { planIn.hall with gate := .jammed } } : PlanInputs).hall.gate = .jammed := by
  decide +kernel

/-- The claims of the example meet what the statement asks: told apart, placed unbarred, a COMMITTED LOT of owner 2 in
entry 2, and of its WAITING LOTs 13 waited longer than 14; a resume window two after m+1 bounds a HOLDING build. -/
theorem witness_PlanKeepsLimits_order :
    planClaims.Pairwise (fun a b => a.owner ≠ b.owner ∨ a.id ≠ b.id) ∧
    ¬(planIn.hall.stops ≠ [] ∨ planIn.hall.presence = false ∨ planIn.hall.gate = .jammed) ∧
    (⟨2, 12, .lot, 3, 70, 3, 3, 295, 3, .committed 303, false⟩ : Claim) ∈ planClaims ∧
    (303 : Window) = planIn.m + BitVec.ofNat 16 (2 + 1) ∧
    (planIn.m - 299).toNat < (planIn.m - 297).toNat ∧
    (let p : PlanInputs := { planIn with hall := { planIn.hall with gate := .holding, resume := 303 } }
     1 ≤ (p.hall.resume - (p.m + 1)).toNat ∧ (buildEntries p planClaims)[1]? = some ⟨none, 0, []⟩ ∧
     (buildEntries p planClaims)[3]? = some ⟨some 7, 40, [⟨11, 3, 40, 304, 303⟩]⟩) := by
  refine ⟨?_, ?_, ?_, ?_, ?_, ?_⟩ <;> decide +kernel

/-- Of two FLUSHes of rank 1 the one that waited longer comes first, and entry 1 is the earliest that admits it; a
FLUSH above the budget fits nowhere. -/
theorem witness_PlanKeepsLimits_step :
    let c : Claim := ⟨11, 3, .flush, 7, 40, 1, 1, 298, 1, .waiting, false⟩
    let d : Claim := ⟨14, 8, .flush, 7, 35, 1, 1, 299, 0, .waiting, false⟩
    [c, d].Pairwise (fun c d => c.owner ≠ d.owner ∨ c.id ≠ d.id) ∧ c.kind ≠ .lot ∧ c.effective = d.effective ∧
    (planIn.m - d.posted).toNat < (planIn.m - c.posted).toNat ∧ transitOf planIn.roster c.owner = 1 ∧
    planIn.hall.gate ≠ .holding ∧ 0 + c.volume ≤ planIn.budget ∧ classHeld planIn.hall.holds c.cls = false ∧
    Build.start.flushes.getD (1 - 1) 0 < planIn.flushLimit ∧ Build.start.entries.getD 1 ⟨none, 0, []⟩ = ⟨none, 0, []⟩ ∧
    ¬0 + ({ c with volume := 101 } : Claim).volume ≤ planIn.budget := by decide +kernel

theorem witness_FrameRoundTrip : ∀ r, Body.row (row5 1) = .row r → r.records.length ≤ 7 := by
  intro r h
  cases h
  decide

/-- The step answers a next state. -/
def goesOn (s : State) : Bool :=
  match step s with
  | .next _ => true
  | _ => false

/-- Station 3 with claims, a stop, a waiting MARK and a frame in flight, and a MARK to take. -/
def busy3 : State :=
  { sends halted .row (.row (row5 1)) with
    table := { halted.table with claims := [lot 3 1, lotTo 5 2 104] }
    tone := ⟨.twoTone, 9⟩
    pending := [.hallStop] }

theorem witness_RecordsStayLawful : busy3.recordsLawful ∧ goesOn busy3 = true := by
  unfold State.recordsLawful tableLawful
  decide +kernel

theorem witness_RanksStayLawful : busy3.ranksLawful ∧ goesOn busy3 = true := by
  refine ⟨⟨?_, ?_, ?_⟩, ?_⟩
  · intro c hc
    simp only [busy3, List.mem_cons, List.not_mem_nil, or_false] at hc
    rcases hc with rfl | rfl
    · exact ⟨⟨3, .discharge, 2, 0, true, .present, 0, true⟩, by decide +kernel⟩
    · exact ⟨⟨5, .discharge, 2, 2, true, .present, 0, true⟩, by decide +kernel⟩
  · decide +kernel
  · exact fun _ => ⟨⟨3, .discharge, 2, 0, true, .present, 0, true⟩, by decide +kernel⟩
  · decide +kernel

theorem witness_QueueStaysLawful : busy3.queueLawful ∧ goesOn busy3 = true := by
  refine ⟨⟨?_, ?_, ?_, ?_⟩, ?_⟩
  · decide +kernel
  · rintro b (rfl | rfl | rfl | rfl) <;> decide +kernel
  all_goals decide +kernel

theorem witness_SequencerStaysLawful : (stalling 2).seq.lawful ∧ goesOn (stalling 2) = true :=
  ⟨stalling_lawful 2, by decide +kernel⟩

theorem witness_FlapStaysSafe :
    (dischargingAt 3).flapSafe ∧ goesOn (dischargingAt 3) = true ∧ (dischargingAt 3).flapOpen = true := by
  refine ⟨⟨?_, ?_, ?_⟩, ?_⟩
  · intro p hp
    cases hp
    exact ⟨by decide +kernel, by decide +kernel, by decide +kernel, dischargingLot, [], rfl, rfl⟩
  all_goals decide +kernel

theorem witness_ToneFollows : busy3.tone.cond = busy3.toneCond ∧ busy3.toneCond = .twoTone ∧ goesOn busy3 = true ∧
    busy3.tone.phase < 500000 := by decide +kernel

end Sys2Proof.Tests
end

section
/-! SUPPORT. The work of the role units, the sequencer and the outgoing queue, as one relation: `Works s t` says that `t`
comes from `s` by the few primitive changes of which every operation of a role unit is made. What holds of each
primitive change then holds of every such operation by one induction: what it leaves untouched, which frames it may
leave in the queue, and which reports it may add. -/

namespace Sys2Proof.Machine

/-- A REMOVED report of the claim table (R9). -/
def Report.isRemoval : Report → Bool
  | .removed _ _ => true
  | _ => false

@[simp] theorem isRemoval_fate (who : Block) (b : QBody) (f : Fate) : (Report.fate who b f).isRemoval = false := rfl
@[simp] theorem isRemoval_opReport (o : Op) (r : OpReport) : (opReport o r).isRemoval = false := rfl

/-- `t` comes from `s` by work of the role unit: changes of its own records, requests for frames and their withdrawal,
and requests, cancellations and ends of operations, each with its reports. -/
inductive Works : State → State → Prop
  | refl (s : State) : Works s s
  | trans {s t u : State} : Works s t → Works t u → Works s u
  | report (s : State) (r : Report) : r.isRemoval = false → Works s (s.report r)
  | raise (s : State) (f : Attn) : Works s (s.raise f)
  | unit (s : State) (d : DischargeState) (f : FilterState) (c : CrusherState) : d.held = s.discharge.held →
      f.held = s.filter.held → f.band = s.filter.band →
      { c with mode := s.crusher.mode, attempts := s.crusher.attempts, recurrence := s.crusher.recurrence } =
        s.crusher →
      Works s { s with discharge := d, filter := f, crusher := c }
  | countShort (s : State) : Works s s.countShort
  | issued (s : State) (id : Byte) : Works s (s.issued id)
  | capture (s : State) (ch : Fin 4) : Works s (s.requestCapture ch)
  | start (s : State) (o : Op) : Works s (s.takeSeq (s.seq.request o))
  | cancel (s : State) (k : OpKind) : Works s (s.cancelOp k)
  | complete (s : State) (k : OpKind) : Works s (s.completeOp k)
  | request (s : State) (b : QBody) (who : Block) (urgent : Bool) : Works s (s.request b who urgent)
  | pull (s : State) (p : QFrame → Bool) : Works s (s.pull p)

/-- Composition from the last operation backward. -/
theorem Works.after {a b c : State} (k : Works b c) (h : Works a b) : Works a c := h.trans k

/-- The work of the role unit touches the role unit, the sequencer and the queue only. -/
theorem Works.untouched {s t : State} (h : Works s t) : Untouched s t := by
  induction h with
  | refl s => exact .refl s
  | trans _ _ h k => exact h.trans k
  | report s r _ => exact untouched_report s r
  | raise s f => exact untouched_raise s f
  | unit s d f c hd hh hb hc =>
    exact { Untouched.refl s with lotsHeld := hd, flushHeld := hh, band := hb, crusher := hc }
  | countShort s => exact untouched_countShort s
  | issued s id => exact untouched_issued s id
  | capture s ch => exact untouched_requestCapture s ch
  | start s o => exact untouched_takeSeq s _ (request_outs _ o)
  | cancel s k => exact untouched_cancelOp s k
  | complete s k => exact untouched_completeOp s k
  | request s b who u => exact untouched_request s b who u
  | pull s p => exact untouched_pull s p

/-! ## The trunk under deliveries -/

/-- Telling a block the fate of its request leaves the trunk interface alone. -/
@[simp] theorem deliver_trunk (s : State) (who : Block) (b : QBody) (f : Fate) : (s.deliver who b f).trunk = s.trunk := by
  have hc : ∀ (u : State) (id : Byte), (u.claimFate id f).trunk = u.trunk := by
    intro u id; unfold State.claimFate; split <;> rfl
  have hd : ∀ (u : State) (d : DoneBody), (u.doneFate d f).trunk = u.trunk := by
    intro u d; unfold State.doneFate; split <;> rfl
  unfold State.deliver
  dsimp only
  split
  · exact hc _ _
  · exact hd _ _
  · rfl
  · rfl

@[simp] theorem deliverAll_trunk (s : State) (l : List (Block × QBody × Fate)) : (s.deliverAll l).trunk = s.trunk := by
  induction l generalizing s with
  | nil => rfl
  | cons x l ih => exact (ih _).trans (deliver_trunk s _ _ _)

@[simp] theorem request_queue (s : State) (b : QBody) (who : Block) (u : Bool) :
    (s.request b who u).trunk.queue = (s.settleOf b who u).queue := by
  simp [State.request]

@[simp] theorem pull_queue (s : State) (p : QFrame → Bool) :
    (s.pull p).trunk.queue = (s.trunk.queue.filter (fun f => !(p f && f.waiting))).map
      (fun f => if p f then { f with pulled := true } else f) := by
  simp [State.pull]

@[simp] theorem dropAll_queue (s : State) (why : DropReason) :
    (s.dropAll why).trunk.queue =
      (s.trunk.queue.filter (fun f => !f.waiting)).map (fun f => { f with pulled := true }) := by
  simp [State.dropAll]

/-! ## Which frames the queue may hold afterwards -/

/-- The station's requests are refused: it is EXCLUDED or in LISTEN_ONLY (R80, R95). -/
def State.muted (s : State) : Prop := s.sync.status.isExcluded = true ∨ s.trunk.line = .listenOnly

/-- Every frame of `t`'s queue is in flight as one of `s`'s was, or waits and is new, which it is not in a station
whose requests are refused. -/
def FramesFrom (s t : State) : Prop :=
  ∀ f ∈ t.trunk.queue, (∃ g ∈ s.trunk.queue, g.sent = f.sent) ∨ (¬s.muted ∧ f.sent = none)

theorem FramesFrom.of_queue_eq {s t : State} (h : t.trunk.queue = s.trunk.queue) : FramesFrom s t := by
  intro f hf
  exact .inl ⟨f, h ▸ hf, rfl⟩

theorem muted_of_untouched {s t : State} (h : Untouched s t) : t.muted ↔ s.muted := by
  unfold State.muted; rw [h.status_eq, h.line_eq]

theorem FramesFrom.trans {a b c : State} (hu : Untouched a b) (h : FramesFrom a b) (k : FramesFrom b c) :
    FramesFrom a c := by
  intro f hf
  rcases k f hf with ⟨g, hg, e⟩ | ⟨hm, e⟩
  · rcases h g hg with ⟨x, hx, e'⟩ | ⟨hm, e'⟩
    · exact .inl ⟨x, hx, e'.trans e⟩
    · exact .inr ⟨hm, e ▸ e'⟩
  · exact .inr ⟨fun hm' => hm ((muted_of_untouched hu).2 hm'), e⟩

theorem mem_enter {q : List QFrame} {f g : QFrame} (h : g ∈ (enter q f).queue) : g ∈ q ∨ g = f := by
  unfold enter at h
  split at h
  · simpa using h
  · split at h
    · exact .inl h
    · rcases List.mem_append.1 h with h | h
      · exact .inl (List.mem_of_mem_eraseIdx h)
      · exact .inr (by simpa using h)

/-- A settled request leaves frames of the queue, in flight as they were, and at most the new frame besides. -/
theorem mem_settleRequest {q : List QFrame} {f g : QFrame} {holds : Byte → Bool}
    (h : g ∈ (settleRequest q f holds).queue) : (∃ x ∈ q, x.sent = g.sent) ∨ g = f := by
  have entered : ∀ q' : List QFrame, (∀ x ∈ q', x ∈ q) → g ∈ (enter q' f).queue →
      (∃ x ∈ q, x.sent = g.sent) ∨ g = f :=
    fun q' hq hg => (mem_enter hg).imp (fun hg => ⟨g, hq g hg, rfl⟩) id
  have mapped : ∀ k : QFrame → QFrame, (∀ x, (k x).sent = x.sent) → g ∈ q.map k → ∃ x ∈ q, x.sent = g.sent := by
    intro k hk hg
    obtain ⟨x, hx, rfl⟩ := List.mem_map.1 hg
    exact ⟨x, hx, (hk x).symm⟩
  have built : g ∈ (if q.any (fun g => g.body = f.body) then
      (⟨if f.body = .gate then q.map markFollowUp else q, .absorbed, []⟩ : QResult) else enter q f).queue →
      (∃ x ∈ q, x.sent = g.sent) ∨ g = f := by
    intro h
    split at h
    · dsimp only at h
      split at h
      · refine .inl (mapped _ (fun x => ?_) h)
        unfold markFollowUp; split <;> rfl
      · exact .inl ⟨g, h, rfl⟩
    · exact entered q (fun _ h => h) h
  unfold settleRequest at h
  split at h
  · exact built h
  · exact built h
  · exact built h
  · exact built h
  · split at h
    · exact .inl (mapped _ (fun x => by split <;> rfl) h)
    · exact entered q (fun _ h => h) h
  · dsimp only at h
    split at h
    · exact .inl ⟨g, (List.mem_filter.1 h).1, rfl⟩
    · split at h
      · exact .inl ⟨g, (List.mem_filter.1 h).1, rfl⟩
      · exact entered _ (fun _ h => (List.mem_filter.1 h).1) h
  · exact entered q (fun _ h => h) h

theorem framesFrom_request (s : State) (b : QBody) (who : Block) (u : Bool) : FramesFrom s (s.request b who u) := by
  intro f hf
  rw [request_queue] at hf
  unfold State.settleOf at hf
  split at hf
  · exact .inl ⟨f, hf, rfl⟩
  · split at hf
    · exact .inl ⟨f, hf, rfl⟩
    · rename_i hx hl
      exact (mem_settleRequest hf).imp id (fun (e : f = newFrame b who u) => ⟨by simp [State.muted, hx, hl], by rw [e]; rfl⟩)

theorem framesFrom_pull (s : State) (p : QFrame → Bool) : FramesFrom s (s.pull p) := by
  intro f hf
  rw [pull_queue] at hf
  obtain ⟨g, hg, rfl⟩ := List.mem_map.1 hf
  exact .inl ⟨g, (List.mem_filter.1 hg).1, by split <;> rfl⟩

theorem Works.framesFrom {s t : State} (h : Works s t) : FramesFrom s t := by
  induction h with
  | trans h _ ih ik => exact ih.trans h.untouched ik
  | request s b who u => exact framesFrom_request s b who u
  | pull s p => exact framesFrom_pull s p
  | capture s ch => exact .of_queue_eq (by unfold State.requestCapture; split <;> rfl)
  | complete s k => exact .of_queue_eq (by unfold State.completeOp; split <;> rfl)
  | _ => exact .of_queue_eq rfl

/-- A station whose requests are refused keeps its queue empty. -/
theorem Works.queue_nil {s t : State} (h : Works s t) (hm : s.muted) (hq : s.trunk.queue = []) :
    t.trunk.queue = [] := by
  refine List.eq_nil_iff_forall_not_mem.2 (fun f hf => ?_)
  rcases h.framesFrom f hf with ⟨g, hg, _⟩ | ⟨hn, _⟩
  · simp [hq] at hg
  · exact hn hm

/-- A station whose requests are refused keeps a queue of frames in flight. -/
theorem FramesFrom.all_flying {s t : State} (h : FramesFrom s t) (hm : s.muted)
    (hq : ∀ f ∈ s.trunk.queue, f.sent.isSome = true) : ∀ f ∈ t.trunk.queue, f.sent.isSome = true := by
  intro f hf
  rcases h f hf with ⟨g, hg, e⟩ | ⟨hn, _⟩
  · exact e ▸ hq g hg
  · exact absurd hm hn

/-- The work of the role unit puts no frame in flight. -/
theorem FramesFrom.all_waiting {s t : State} (h : FramesFrom s t) (hq : ∀ f ∈ s.trunk.queue, f.sent = none) :
    ∀ f ∈ t.trunk.queue, f.sent = none := by
  intro f hf
  rcases h f hf with ⟨g, hg, e⟩ | ⟨_, e⟩
  · exact e ▸ hq g hg
  · exact e

/-! ## Which reports are added -/

/-- `t` adds to the reports of `s`, and no REMOVED report among them. -/
def AddsNoRemoval (s t : State) : Prop := ∃ l, t.reports = s.reports ++ l ∧ ∀ r ∈ l, r.isRemoval = false

theorem AddsNoRemoval.of_eq {s t : State} (h : t.reports = s.reports) : AddsNoRemoval s t := ⟨[], by simp [h], by simp⟩

theorem AddsNoRemoval.trans {a b c : State} (h : AddsNoRemoval a b) (k : AddsNoRemoval b c) : AddsNoRemoval a c := by
  obtain ⟨l, e, hl⟩ := h
  obtain ⟨m, e', hm⟩ := k
  refine ⟨l ++ m, by simp [e', e], fun r hr => ?_⟩
  exact (List.mem_append.1 hr).elim (hl r) (hm r)

@[simp] theorem deliver_reports (s : State) (who : Block) (b : QBody) (f : Fate) :
    (s.deliver who b f).reports = s.reports ++ [.fate who b f] := by
  have hc : ∀ (u : State) (id : Byte), (u.claimFate id f).reports = u.reports := by
    intro u id; unfold State.claimFate; split <;> rfl
  have hd : ∀ (u : State) (d : DoneBody), (u.doneFate d f).reports = u.reports := by
    intro u d; unfold State.doneFate; split <;> rfl
  unfold State.deliver
  dsimp only
  split
  · exact hc _ _
  · exact hd _ _
  · rfl
  · rfl

@[simp] theorem deliverAll_reports (s : State) (l : List (Block × QBody × Fate)) :
    (s.deliverAll l).reports = s.reports ++ l.map (fun x => .fate x.1 x.2.1 x.2.2) := by
  induction l generalizing s with
  | nil => simp [State.deliverAll]
  | cons x l ih =>
    have h := ih (s.deliver x.1 x.2.1 x.2.2)
    rw [deliver_reports, List.append_assoc] at h
    exact h

theorem addsNoRemoval_deliver (s : State) (who : Block) (b : QBody) (f : Fate) :
    AddsNoRemoval s (s.deliver who b f) := ⟨_, deliver_reports s who b f, by simp⟩

theorem addsNoRemoval_deliverAll (s : State) (l : List (Block × QBody × Fate)) : AddsNoRemoval s (s.deliverAll l) :=
  ⟨_, deliverAll_reports s l, fun r hr => by obtain ⟨x, _, rfl⟩ := List.mem_map.1 hr; rfl⟩

/-- The sequencer's reports concern operations. -/
theorem request_reports (q : SeqState) (o : Op) : ∀ r ∈ (q.request o).reports, r.isRemoval = false := by
  unfold SeqState.request
  split
  · simp
  · split
    · rename_i x _ _
      cases h : (pushOp q.stack x).2 <;> simp [h]
    · split
      · simp
      · split <;> simp

theorem endRunning_reports (q : SeqState) (w : OpReport) : ∀ r ∈ (q.endRunning w).reports, r.isRemoval = false := by
  have h : ∀ x : SeqState, ∀ r ∈ x.chooseNext.reports, r.isRemoval = false := by
    intro x
    unfold SeqState.chooseNext
    split
    · simp
    · simp
    · simp
    · split <;> simp
  unfold SeqState.endRunning
  split
  · simp
  · intro r hr
    rcases List.mem_cons.1 hr with rfl | hr
    · rfl
    · exact h _ r hr

theorem cancel_reports (q : SeqState) (k : OpKind) : ∀ r ∈ (q.cancel k).reports, r.isRemoval = false := by
  unfold SeqState.cancel
  split
  · exact endRunning_reports q _
  · split
    · simp
    · split
      · split <;> simp
      · simp

theorem Works.addsNoRemoval {s t : State} (h : Works s t) : AddsNoRemoval s t := by
  induction h with
  | trans _ _ ih ik => exact ih.trans ik
  | report s r hr => exact ⟨[r], rfl, by simpa using hr⟩
  | start s o => exact ⟨_, rfl, request_reports _ o⟩
  | cancel s k => exact ⟨_, rfl, cancel_reports _ k⟩
  | complete s k =>
    unfold State.completeOp
    split
    · exact ⟨_, rfl, endRunning_reports _ _⟩
    · exact .of_eq rfl
  | request s b who u =>
    have others : AddsNoRemoval s ((s.setQueue (s.settleOf b who u).queue).deliverAll (s.settleOf b who u).others) :=
      addsNoRemoval_deliverAll _ _
    exact others.trans (addsNoRemoval_deliver _ _ _ _)
  | pull s p => exact addsNoRemoval_deliverAll _ _
  | capture s ch =>
    unfold State.requestCapture
    split
    · exact ⟨_, rfl, by simp [Report.isRemoval]⟩
    · exact ⟨_, rfl, by simp [Report.isRemoval]⟩
  | _ => exact .of_eq rfl

/-- Reports once made stay, however the role unit works on. -/
theorem Works.mem_reports {s t : State} (h : Works s t) {r : Report} (hr : r ∈ s.reports) : r ∈ t.reports := by
  obtain ⟨l, e, _⟩ := h.addsNoRemoval
  simp [e, hr]

/-! ## The role units' operations -/

section
variable (s : State)

theorem works_setDischarge (d : DischargeState) (h : d.held = s.discharge.held) : Works s { s with discharge := d } :=
  .unit s d s.filter s.crusher h rfl rfl rfl

theorem works_setLots (l : List Lot) : Works s (s.setLots l) := works_setDischarge s _ rfl

theorem works_mapLots (f : Lot → Lot) : Works s (s.mapLots f) := works_setLots s _

theorem works_mapFilter (f : FilterState → FilterState)
    (h : (f s.filter).held = s.filter.held ∧ (f s.filter).band = s.filter.band) : Works s (s.mapFilter f) :=
  .unit s s.discharge (f s.filter) s.crusher rfl h.1 h.2 rfl

theorem works_mapCrusher (f : CrusherState → CrusherState)
    (h : { f s.crusher with mode := s.crusher.mode, attempts := s.crusher.attempts,
                            recurrence := s.crusher.recurrence } = s.crusher) : Works s (s.mapCrusher f) :=
  .unit s s.discharge s.filter (f s.crusher) rfl rfl rfl h

theorem works_foldl {α : Type} (f : State → α → State) (hf : ∀ s x, Works s (f s x)) (l : List α) :
    Works s (l.foldl f s) := by
  induction l generalizing s with
  | nil => exact .refl s
  | cons x r ih => exact (hf s x).trans (ih _)

/-! ### Lots and discharges -/

theorem works_requestDone (b : DoneBody) : Works s (s.requestDone b) :=
  (Works.request _ _ _ _).after (works_setDischarge s _ rfl)

theorem works_endDischarge : Works s s.endDischarge := by
  unfold State.endDischarge
  split
  · refine (works_requestDone _ _).after ((Works.raise _ _).after ((Works.countShort _).after ?_))
    exact (works_setDischarge _ _ (by exact rfl)).after (.cancel s _)
  · exact .refl s

theorem works_withdrawLot (id : Byte) : Works s (s.withdrawLot id) := (works_mapLots s _).trans (.request _ _ _ _)

theorem works_withdrawLots (l : List Byte) : Works s (s.withdrawLots l) := works_foldl s _ works_withdrawLot l

theorem works_lotRemoved (id : Byte) (why : RemovalReason) : Works s (s.lotRemoved id why) := by
  unfold State.lotRemoved
  split
  · split
    · exact .refl s
    · exact works_endDischarge s
  · split
    · exact .refl s
    · exact works_mapLots s _

/-! ### Flushes -/

theorem works_withdrawFlush : Works s s.withdrawFlush := by
  unfold State.withdrawFlush
  split
  · split
    · exact .refl s
    · exact (works_mapFilter s FilterState.unclaim ⟨rfl, rfl⟩).trans (.request _ _ _ _)
  · exact .refl s

theorem works_requestFlushDone (b : DoneBody) : Works s (s.requestFlushDone b) :=
  (works_mapFilter s _ (by exact ⟨rfl, rfl⟩)).trans (.request _ _ _ _)

theorem works_endFlush (next : FilterMode) (n : Nat) : Works s (s.endFlush next n) := by
  unfold State.endFlush
  split
  · exact ((Works.cancel s .flush).trans (works_mapFilter _ _ ⟨rfl, rfl⟩)).trans
      ((Works.countShort _).trans (works_requestFlushDone _ _))
  · exact .refl s

theorem works_flushRemoved (id : Byte) (why : RemovalReason) : Works s (s.flushRemoved id why) := by
  unfold State.flushRemoved
  split
  · split
    · exact works_endFlush s _ _
    · exact works_mapFilter s _ ⟨rfl, rfl⟩
  · exact .refl s

/-! ### The crusher -/

theorem works_requestGate : Works s s.requestGate := by
  unfold State.requestGate
  split
  · exact .request s _ _ _
  · exact .refl s

theorem works_compareStop : Works s s.compareStop := by
  unfold State.compareStop
  dsimp only
  split
  · split
    · split
      · exact .pull s _
      · exact (Works.pull s _).trans (.request _ _ _ _)
    · exact .refl s
  · exact .refl s

theorem works_tellHall : Works s s.tellHall := (works_requestGate s).trans (works_compareStop _)

theorem works_reverseEnded : Works s s.reverseEnded := (works_mapCrusher s _ rfl).trans (works_tellHall _)

theorem works_requestOp (o : Op) : Works s (s.requestOp o) := by
  unfold State.requestOp
  dsimp only
  split
  · exact (Works.start s o).trans (works_endDischarge _)
  · exact (Works.start s o).trans (works_reverseEnded _)
  · exact (Works.start s o).trans (works_endFlush _ _ _)
  · exact .start s o

theorem works_jam : Works s s.jam := by
  unfold State.jam
  split
  · generalize (if s.crusher.recurrence.isSome then min (s.crusher.attempts + 1) 3 else 1) = n
    have counted : Works s (s.mapCrusher (fun c => { c with attempts := n, recurrence := none })) :=
      works_mapCrusher s _ rfl
    dsimp only
    split
    · exact counted.trans ((works_mapCrusher _ _ rfl).trans ((works_requestOp _ _).trans (works_tellHall _)))
    · exact counted.trans ((Works.cancel _ _).trans ((works_mapCrusher _ _ rfl).trans
        ((Works.raise _ _).trans (works_tellHall _))))
  · exact .refl s

theorem works_finishReverse : Works s s.finishReverse := by
  unfold State.finishReverse
  split
  · exact (Works.complete s _).trans (works_reverseEnded _)
  · exact .refl s

/-! ### Completions and posts -/

theorem works_finishIndex : Works s s.finishIndex := by
  unfold State.finishIndex
  split
  · exact (Works.complete s _).trans (works_mapLots _ _)
  · exact .refl s

theorem works_finishFlush : Works s s.finishFlush := by
  unfold State.finishFlush
  split
  · split
    · exact (works_requestFlushDone _ _).after ((works_mapFilter _ _ (by exact closeBypass_kept _)).after
        (.complete s _))
    · exact .refl s
  · exact .refl s

theorem works_finishOp (k : OpKind) : Works s (s.finishOp k) := by
  unfold State.finishOp
  split
  · exact works_finishIndex s
  · exact works_finishFlush s
  · exact works_finishReverse s
  · exact .refl s

theorem works_postLot : Works s s.postLot := by
  unfold State.postLot
  split
  · split
    · exact (Works.issued s _).trans ((works_setLots _ _).trans (.request _ _ _ _))
    · exact .refl s
  · exact .refl s

theorem works_postFlush : Works s s.postFlush := by
  unfold State.postFlush
  split
  · exact (Works.issued s _).trans ((works_mapFilter _ _ (by exact ⟨rfl, rfl⟩)).trans (.request _ _ _ _))
  · exact .refl s

/-! ### Reports to the role unit -/

/-- A REMOVED report, and then work of the role unit. -/
theorem works_roleRemoved (id : Byte) (why : RemovalReason) :
    Works (s.report (.removed id why)) (s.roleRemoved id why) := by
  unfold State.roleRemoved
  dsimp only
  split
  · exact works_lotRemoved _ _ _
  · exact works_flushRemoved _ _ _
  · exact .refl _

theorem works_withdrawCommitted : Works s s.withdrawCommitted := by
  unfold State.withdrawCommitted
  split
  · exact works_withdrawLots s _
  · have h : Works s (if s.flushUnbegun then s.withdrawFlush else s) := by
      split
      · exact works_withdrawFlush s
      · exact .refl s
    refine h.trans (works_foldl _ _ (fun s id => ?_) _)
    split
    · exact .refl s
    · exact .request s _ _ _
  · exact .refl s

theorem works_roleSyncLost : Works s s.roleSyncLost := by
  unfold State.roleSyncLost
  dsimp only
  split
  · exact (Works.report s _ rfl).trans ((works_endDischarge _).trans (works_withdrawCommitted _))
  · exact (Works.report s _ rfl).trans (works_withdrawCommitted _)
  · exact .report s _ rfl

theorem works_roleExcluded : Works s s.roleExcluded := by
  unfold State.roleExcluded
  dsimp only
  split
  · exact (Works.report s _ rfl).trans (works_mapLots _ _)
  · refine (works_mapFilter _ _ ?_).after (.report s _ rfl)
    generalize (s.report .excluded).filter = u
    split <;> exact ⟨rfl, rfl⟩
  · exact .report s _ rfl

/-! ### The standing conditions of the role units -/

theorem works_keepSealOrder (n : Nat) : Works s (State.keepSealOrder n s) := by
  induction n generalizing s with
  | zero => exact .refl s
  | succ n ih =>
    unfold State.keepSealOrder
    split
    · exact (works_withdrawLot s _).trans (ih _)
    · exact .refl s

theorem works_openLot : Works s s.openLot := by
  unfold State.openLot
  split
  · exact (Works.capture _ _).after (works_setDischarge s _ rfl)
  · exact .refl s

theorem works_requestIndex : Works s s.requestIndex := by
  unfold State.requestIndex
  split
  · exact works_requestOp s _
  · exact .refl s

theorem works_settleDischarge : Works s s.settleDischarge :=
  (works_keepSealOrder s 6).trans ((works_openLot _).trans ((works_requestIndex _).trans (works_postLot _)))

theorem works_settleCrusher (ran : Bool) : Works s (State.settleCrusher ran s) := by
  unfold State.settleCrusher
  have h : Works s (if s.mayFeed then s.requestOp (feedOp s.feedLevel) else s) := by
    split
    · exact works_requestOp s _
    · exact .refl s
  generalize (if s.mayFeed then s.requestOp (feedOp s.feedLevel) else s) = t at h ⊢
  dsimp only
  split
  · exact h.trans (works_jam _)
  · exact h

theorem works_settleRole (ran : Bool) : Works s (State.settleRole ran s) := by
  unfold State.settleRole
  split
  · exact works_settleDischarge s
  · exact (works_mapFilter s _ (closeBypass_kept _)).trans (works_postFlush _)
  · exact works_settleCrusher s ran

theorem works_completeSpent (n : Nat) (k : Option OpKind) : Works s (State.completeSpent n k s) := by
  induction n generalizing s k with
  | zero => exact .refl s
  | succ n ih =>
    unfold State.completeSpent
    split
    · split
      · exact (works_finishOp s _).trans (ih _ _)
      · exact .refl s
    · exact .refl s

end
end Sys2Proof.Machine
end


section
/-! SUPPORT. What the standing conditions make of a state once an event's own effect stands (log 18): they touch only
what `Concluded` lets them touch, they leave an asleep station alone but for the tone, and reports once made stay. -/

namespace Sys2Proof.Machine

theorem Untouched.concluded {s t : State} (h : Untouched s t) : Concluded s t := by
  have e : ({ t with
      mode := { t.mode with mode := s.mode.mode, quietWindows := s.mode.quietWindows }, tone := s.tone } : State) = t := by
    rw [← h.mode, ← h.tone]
  unfold Concluded
  rw [e]
  exact h

theorem Concluded.trans {a b c : State} (h : Concluded a b) (k : Concluded b c) : Concluded a c where
  cfg := k.cfg.trans h.cfg
  trunk := by have h1 := h.trunk; have k1 := k.trunk; simp only at h1 k1 ⊢; rw [← h1, ← k1]
  window := k.window.trans h.window
  roster := k.roster.trans h.roster
  claims := k.claims.trans h.claims
  plan := k.plan.trans h.plan
  hall := k.hall.trans h.hall
  sync := by have h1 := h.sync; have k1 := k.sync; simp only at h1 k1 ⊢; rw [← h1, ← k1]
  lotsHeld := k.lotsHeld.trans h.lotsHeld
  flushHeld := k.flushHeld.trans h.flushHeld
  band := k.band.trans h.band
  crusher := by have h1 := h.crusher; have k1 := k.crusher; simp only at h1 k1 ⊢; rw [← h1, ← k1]
  measure := by have h1 := h.measure; have k1 := k.measure; simp only at h1 k1 ⊢; rw [← h1, ← k1]
  drives :=
    have ⟨h0, h1, h2⟩ := h.drives
    have ⟨k0, k1, k2⟩ := k.drives
    ⟨k0.trans h0, k1.trans h1, k2.trans h2⟩
  tone := rfl
  mode := by have h1 := h.mode; have k1 := k.mode; simp only at h1 k1 ⊢; rw [← h1, ← k1]
  port := by have h1 := h.port; have k1 := k.port; simp only at h1 k1 ⊢; rw [← h1, ← k1]
  flags := by
    have h1 := h.flags
    have k1 := k.flags
    simp only at h1 k1 ⊢
    rw [← h1, BitVec.and_assoc, k1]
  pins := k.pins.trans h.pins
  counters := by have h1 := h.counters; have k1 := k.counters; simp only at h1 k1 ⊢; rw [← h1, ← k1]
  inReset := k.inReset.trans h.inReset
  pending := k.pending.trans h.pending

theorem Works.concluded {s t : State} (h : Works s t) : Concluded s t := h.untouched.concluded

/-! ## The station mode -/

theorem concluded_setMode (s : State) (x : StationMode) : Concluded s (s.setMode x) := by
  unfold State.setMode
  dsimp only
  split <;> exact { Untouched.refl s with }

theorem concluded_backToQuiet (s : State) : Concluded s s.backToQuiet := by
  have h : Concluded (s.setMode .quiet) s.backToQuiet := { Untouched.refl (s.setMode .quiet) with }
  exact (concluded_setMode s _).trans h

theorem concluded_enterLeaving (s : State) : Concluded s s.enterLeaving := by
  have h : Concluded s (s.setMode .leaving).requestLeave :=
    (concluded_setMode s _).trans (Works.request _ _ _ _).concluded
  unfold State.enterLeaving
  dsimp only
  split
  · exact h.trans (Works.cancel _ _).concluded
  · exact h

/-- The leaving condition moves the station mode, the quiet windows and the queue (R182). -/
theorem concluded_settleMode (s : State) : Concluded s s.settleMode := by
  unfold State.settleMode
  split
  · split
    · exact concluded_enterLeaving s
    · exact (Works.refl s).concluded
  · split
    · exact (Works.refl s).concluded
    · dsimp only
      split
      · exact (Works.pull s _).concluded
      · exact (Works.pull s _).concluded.trans (concluded_backToQuiet _)
  · exact (Works.refl s).concluded

theorem concluded_refreshTone (s : State) : Concluded s s.refreshTone := by
  unfold State.refreshTone
  split <;> exact { Untouched.refl s with }

/-! ## The conclusion of an event -/

/-- The standing conditions of an awake station in their places: operations already spent complete, the role unit's
conditions, the leaving condition, and the role unit's again. -/
theorem settle_of_awake (q : SeqState) {s : State} (h : s.awake = true) :
    s.settle q =
      (let u := (s.completeSpent 3 q.runningKind).settleRole (q.runs .feed)
       u.settleMode.settleRole u.feedRunning) := by
  simp [State.settle, h]

theorem settle_of_asleep (q : SeqState) {s : State} (h : s.awake = false) : s.settle q = s := by
  simp [State.settle, h]

theorem concluded_of_asleep (q : SeqState) {s : State} (h : s.awake = false) : s.concluded q = s.refreshTone := by
  simp [State.concluded, settle_of_asleep q h]

theorem concluded_settle (q : SeqState) (s : State) : Concluded s (s.settle q) := by
  cases h : s.awake
  · rw [settle_of_asleep q h]
    exact (Works.refl s).concluded
  · rw [settle_of_awake q h]
    exact ((works_completeSpent s _ _).trans (works_settleRole _ _)).concluded.trans
      ((concluded_settleMode _).trans (works_settleRole _ _).concluded)

theorem concluded_concluded (q : SeqState) (s : State) : Concluded s (s.concluded q) :=
  (concluded_settle q s).trans (concluded_refreshTone _)

/-! ### Fields that follow -/

theorem Concluded.line_eq {s t : State} (h : Concluded s t) : t.trunk.line = s.trunk.line :=
  have u : Untouched s _ := h
  u.line_eq

theorem Concluded.muted_iff {s t : State} (h : Concluded s t) : t.muted ↔ s.muted := by
  have u : Untouched s _ := h
  have e := muted_of_untouched u
  exact e

theorem refreshTone_mode (s : State) : s.refreshTone.mode = s.mode := by
  unfold State.refreshTone; split <;> rfl

theorem refreshTone_reports (s : State) : s.refreshTone.reports = s.reports := by
  unfold State.refreshTone; split <;> rfl

theorem refreshTone_trunk (s : State) : s.refreshTone.trunk = s.trunk := by
  unfold State.refreshTone; split <;> rfl

/-- Moving the tone back undoes what the tone's following did. -/
theorem refreshTone_frame (s : State) : { s.refreshTone with tone := s.tone } = s := by
  unfold State.refreshTone; split <;> rfl

/-! ### Reports stay -/

theorem mem_setMode_reports {s : State} {r : Report} (x : StationMode) (h : r ∈ s.reports) :
    r ∈ (s.setMode x).reports := by
  unfold State.setMode
  dsimp only
  split
  · exact h
  · exact List.mem_append_left _ h

theorem mem_settleMode_reports {s : State} {r : Report} (h : r ∈ s.reports) : r ∈ s.settleMode.reports := by
  unfold State.settleMode
  split
  · split
    · have left : r ∈ (s.setMode .leaving).requestLeave.reports :=
        (Works.request _ _ _ _).mem_reports (mem_setMode_reports _ h)
      unfold State.enterLeaving
      dsimp only
      split
      · exact (Works.cancel _ _).mem_reports left
      · exact left
    · exact h
  · split
    · exact h
    · have pulled : r ∈ (s.pull QFrame.leavingHello).reports := (Works.pull s _).mem_reports h
      dsimp only
      split
      · exact pulled
      · exact mem_setMode_reports (s := s.pull QFrame.leavingHello) .quiet pulled
  · exact h

/-- A report made by an event's own effect is still there once the event concludes. -/
theorem mem_concluded_reports {s : State} (q : SeqState) {r : Report} (h : r ∈ s.reports) :
    r ∈ (s.concluded q).reports := by
  unfold State.concluded
  rw [refreshTone_reports]
  cases ha : s.awake
  · rwa [settle_of_asleep q ha]
  · rw [settle_of_awake q ha]
    exact (works_settleRole _ _).mem_reports (mem_settleMode_reports
      (((works_completeSpent s _ _).trans (works_settleRole _ _)).mem_reports h))

end Sys2Proof.Machine
end


section
/-! SUPPORT. The ordered lists of the records: what an insertion in order leaves, the order of the claim table (R1), and
the look-up of roster entries (R57) under the updates that the blocks make. -/

namespace Sys2Proof.Machine

/-! ## Insertion in order -/

section
variable {α : Type} {before : α → α → Bool}

theorem perm_insertBy (x : α) (l : List α) : (insertBy before x l).Perm (x :: l) := by
  induction l with
  | nil => exact .refl _
  | cons y l ih =>
    unfold insertBy
    split
    · exact .refl _
    · exact (ih.cons y).trans (.swap x y l)

theorem mem_insertBy {x y : α} {l : List α} : y ∈ insertBy before x l ↔ y = x ∨ y ∈ l := by
  simpa using (perm_insertBy (before := before) x l).mem_iff

/-- An insertion keeps the order, where the new element is comparable to each of the old ones. -/
theorem pairwise_insertBy (htrans : ∀ a b c, before a b = true → before b c = true → before a c = true) {x : α}
    {l : List α} (hx : ∀ y ∈ l, before x y = true ∨ before y x = true) (hl : l.Pairwise (fun a b => before a b = true)) :
    (insertBy before x l).Pairwise (fun a b => before a b = true) := by
  induction l with
  | nil => simp [insertBy]
  | cons y l ih =>
    obtain ⟨hy, hl'⟩ := List.pairwise_cons.1 hl
    unfold insertBy
    split
    · rename_i hxy
      refine List.pairwise_cons.2 ⟨fun z hz => ?_, hl⟩
      rcases List.mem_cons.1 hz with rfl | hz
      · exact hxy
      · exact htrans _ _ _ hxy (hy z hz)
    · rename_i hxy
      have hyx := (hx y (by simp)).resolve_left hxy
      refine List.pairwise_cons.2 ⟨fun z hz => ?_, ih (fun z hz => hx z (by simp [hz])) hl'⟩
      rcases mem_insertBy.1 hz with rfl | hz
      · exact hyx
      · exact hy z hz

theorem perm_foldl_insertBy (xs l : List α) : (xs.foldl (fun l x => insertBy before x l) l).Perm (xs ++ l) := by
  induction xs generalizing l with
  | nil => exact .refl _
  | cons x xs ih => exact (ih _).trans (((perm_insertBy x l).append_left xs).trans List.perm_middle)

theorem pairwise_foldl_insertBy (htrans : ∀ a b c, before a b = true → before b c = true → before a c = true)
    {xs l : List α} (hxl : ∀ x ∈ xs, ∀ y ∈ l, before x y = true ∨ before y x = true)
    (hxs : xs.Pairwise (fun x y => before x y = true ∨ before y x = true))
    (hl : l.Pairwise (fun a b => before a b = true)) :
    (xs.foldl (fun l x => insertBy before x l) l).Pairwise (fun a b => before a b = true) := by
  induction xs generalizing l with
  | nil => exact hl
  | cons x xs ih =>
    obtain ⟨hx, hxs'⟩ := List.pairwise_cons.1 hxs
    refine ih (fun z hz y hy => ?_) hxs' (pairwise_insertBy htrans (hxl x (by simp)) hl)
    rcases mem_insertBy.1 hy with rfl | hy
    · exact (hx z hz).symm
    · exact hxl z (by simp [hz]) y hy

end

/-! ## Table order (R1) -/

theorem before_iff {a b : Claim} :
    a.before b = true ↔ a.owner.val < b.owner.val ∨ (a.owner = b.owner ∧ a.id.toNat < b.id.toNat) := by
  simp [Claim.before]

theorem before_trans (a b c : Claim) (h : a.before b = true) (k : b.before c = true) : a.before c = true := by
  rw [before_iff] at *
  rcases h with h | ⟨h, h'⟩ <;> rcases k with k | ⟨k, k'⟩
  · exact .inl (by omega)
  · exact .inl (by rw [← k]; exact h)
  · exact .inl (by rw [h]; exact k)
  · exact .inr ⟨h.trans k, by omega⟩

/-- Table order tells any two claims apart that differ in owner or id. -/
theorem before_total {a b : Claim} (h : ¬(a.owner = b.owner ∧ a.id = b.id)) : a.before b = true ∨ b.before a = true := by
  rw [before_iff, before_iff]
  rcases Nat.lt_trichotomy a.owner.val b.owner.val with ho | ho | ho
  · exact .inl (.inl ho)
  · have ho' : a.owner = b.owner := Fin.ext ho
    rcases Nat.lt_trichotomy a.id.toNat b.id.toNat with hi | hi | hi
    · exact .inl (.inr ⟨ho', hi⟩)
    · exact absurd ⟨ho', BitVec.eq_of_toNat_eq hi⟩ h
    · exact .inr (.inr ⟨ho'.symm, hi⟩)
  · exact .inr (.inl ho)

theorem apart_of_before {a b : Claim} (h : a.before b = true) : ¬(a.owner = b.owner ∧ a.id = b.id) := by
  rintro ⟨ho, hi⟩
  rcases before_iff.1 h with h | ⟨_, h⟩
  · rw [ho] at h; omega
  · rw [hi] at h; omega

/-- In a table in order owner and id are a key. -/
theorem eq_of_key {l : List Claim} (hl : l.Pairwise (fun a b => a.before b = true)) {c d : Claim} (hc : c ∈ l)
    (hd : d ∈ l) (ho : c.owner = d.owner) (hi : c.id = d.id) : c = d := by
  by_contra hne
  have apart : l.Pairwise (fun a b => ¬(a.owner = b.owner ∧ a.id = b.id)) := hl.imp apart_of_before
  have symm : Std.Symm (fun a b : Claim => ¬(a.owner = b.owner ∧ a.id = b.id)) :=
    ⟨fun a b h k => h ⟨k.1.symm, k.2.symm⟩⟩
  exact apart.forall hc hd hne ⟨ho, hi⟩

theorem claimAt_some {l : List Claim} {a : Addr} {id : Byte} {c : Claim} (h : claimAt l a id = some c) :
    c ∈ l ∧ c.owner = a ∧ c.id = id := by
  have hp := List.find?_some h
  simp only [Bool.and_eq_true, beq_iff_eq] at hp
  exact ⟨List.mem_of_find?_eq_some h, hp⟩

theorem claimAt_none {l : List Claim} {a : Addr} {id : Byte} (h : claimAt l a id = none) {c : Claim} (hc : c ∈ l) :
    ¬(c.owner = a ∧ c.id = id) := by
  have hp := List.find?_eq_none.1 h c hc
  simpa using hp

theorem countOf_perm {l m : List Claim} (h : l.Perm m) (a : Addr) (k : ClaimKind) : countOf l a k = countOf m a k :=
  (h.filter _).length_eq

theorem countOf_cons (c : Claim) (l : List Claim) (a : Addr) (k : ClaimKind) :
    countOf (c :: l) a k = countOf l a k + if c.owner = a ∧ c.kind = k then 1 else 0 := by
  unfold countOf
  by_cases h : c.owner = a ∧ c.kind = k
  · simp [h]
  · have h' : (c.owner == a && c.kind == k) = false := by simpa using h
    simp only [List.filter_cons, h', h]
    simp

theorem countOf_append (l m : List Claim) (a : Addr) (k : ClaimKind) :
    countOf (l ++ m) a k = countOf l a k + countOf m a k := by
  simp [countOf]

/-- Claims dropped and changed otherwise than in owner, id and kind leave a lawful table lawful. -/
theorem tableLawful_filterMap {f : Claim → Option Claim} {l : List Claim} (hl : tableLawful l)
    (hf : ∀ c ∈ l, ∀ d, f c = some d → d.owner = c.owner ∧ d.id = c.id ∧ d.kind = c.kind) :
    tableLawful (l.filterMap f) := by
  obtain ⟨hp, hn, hc⟩ := hl
  have counts : ∀ a k, countOf (l.filterMap f) a k ≤ countOf l a k := by
    intro a k
    clear hp hn hc
    induction l with
    | nil => exact Nat.le_refl _
    | cons x l ih =>
      have ih := ih (fun c hc => hf c (by simp [hc]))
      cases hx : f x with
      | none => rw [List.filterMap_cons_none hx, countOf_cons]; omega
      | some d =>
        obtain ⟨ho, _, hk⟩ := hf x (by simp) d hx
        rw [List.filterMap_cons_some hx, countOf_cons, countOf_cons, ho, hk]
        omega
  refine ⟨?_, (List.length_filterMap_le f l).trans hn, fun a =>
    ⟨(counts a .lot).trans (hc a).1, (counts a .flush).trans (hc a).2⟩⟩
  rw [List.pairwise_filterMap]
  refine hp.imp_of_mem (fun {c d} hcm hdm h c' hc' d' hd' => ?_)
  obtain ⟨ho, hi, _⟩ := hf c hcm c' hc'
  obtain ⟨ho', hi', _⟩ := hf d hdm d' hd'
  rw [before_iff] at h ⊢
  rwa [ho, hi, ho', hi']

theorem tableLawful_filter {l : List Claim} (hl : tableLawful l) (p : Claim → Bool) : tableLawful (l.filter p) := by
  rw [← List.filterMap_eq_filter]
  refine tableLawful_filterMap hl (fun c _ d h => ?_)
  obtain ⟨rfl, _⟩ := Option.guard_eq_some_iff.1 h
  exact ⟨rfl, rfl, rfl⟩

theorem tableLawful_map {f : Claim → Claim} {l : List Claim} (hl : tableLawful l)
    (hf : ∀ c ∈ l, (f c).owner = c.owner ∧ (f c).id = c.id ∧ (f c).kind = c.kind) : tableLawful (l.map f) := by
  rw [← List.filterMap_eq_map]
  refine tableLawful_filterMap hl (fun c hc d h => ?_)
  obtain rfl : f c = d := by simpa using h
  exact hf c hc

/-- A claim of a new key enters a lawful table within the capacities (R1, R7). -/
theorem tableLawful_insertClaim {c : Claim} {l : List Claim} (hl : tableLawful l) (hk : claimAt l c.owner c.id = none)
    (hroom : countOf l c.owner c.kind < c.kind.capacity) (hlen : l.length < 64) : tableLawful (insertClaim c l) := by
  obtain ⟨hp, _, hc⟩ := hl
  have perm : (insertClaim c l).Perm (c :: l) := perm_insertBy c l
  refine ⟨pairwise_insertBy before_trans (fun d hd => ?_) hp, by rw [perm.length_eq]; simpa using hlen, fun a => ?_⟩
  · exact before_total (fun h => claimAt_none hk hd ⟨h.1.symm, h.2.symm⟩)
  · rw [countOf_perm perm, countOf_perm perm, countOf_cons, countOf_cons]
    have hca := hc a
    by_cases ha : c.owner = a
    · subst ha
      cases hkind : c.kind <;> simp only [hkind, ClaimKind.capacity] at hroom <;> simp <;> omega
    · simp only [ha, false_and, if_false]
      omega

/-! ## Roster entries (R57) -/

@[simp] theorem entryOf_nil (a : Addr) : entryOf [] a = none := rfl

theorem entryOf_cons (e : RosterEntry) (l : List RosterEntry) (a : Addr) :
    entryOf (e :: l) a = if e.addr = a then some e else entryOf l a := by
  unfold entryOf
  rw [List.find?_cons]
  by_cases h : e.addr = a
  · simp [h]
  · simp [h, beq_eq_false_iff_ne.2 h]

/-- An update that keeps addresses keeps look-ups. -/
theorem entryOf_map {f : RosterEntry → RosterEntry} (hf : ∀ e, (f e).addr = e.addr) (l : List RosterEntry) (a : Addr) :
    entryOf (l.map f) a = (entryOf l a).map f := by
  induction l with
  | nil => rfl
  | cons e l ih =>
    rw [List.map_cons, entryOf_cons, entryOf_cons, hf, ih]
    split <;> rfl

theorem entryOf_filter_ne {a b : Addr} (h : b ≠ a) (l : List RosterEntry) :
    entryOf (l.filter (fun e => e.addr != a)) b = entryOf l b := by
  induction l with
  | nil => rfl
  | cons e l ih =>
    by_cases he : e.addr = a
    · have hb : ¬e.addr = b := fun k => h (k.symm.trans he)
      simp [he, entryOf_cons, ih, Ne.symm h]
    · simp [he, entryOf_cons, ih]

theorem entryOf_filter_same (a : Addr) (l : List RosterEntry) :
    entryOf (l.filter (fun e => e.addr != a)) a = none := by
  refine List.find?_eq_none.2 (fun e he => ?_)
  have h := (List.mem_filter.1 he).2
  simpa using h

theorem entryOf_insertBy {before : RosterEntry → RosterEntry → Bool} (e : RosterEntry) {l : List RosterEntry}
    (hl : entryOf l e.addr = none) (a : Addr) :
    entryOf (insertBy before e l) a = if e.addr = a then some e else entryOf l a := by
  induction l with
  | nil => rw [insertBy, entryOf_cons]
  | cons x l ih =>
    rw [entryOf_cons] at hl
    have hx : ¬x.addr = e.addr := by
      intro h
      simp [h] at hl
    rw [if_neg hx] at hl
    unfold insertBy
    split
    · rw [entryOf_cons]
    · rw [entryOf_cons, entryOf_cons, ih hl]
      by_cases hxa : x.addr = a
      · have hea : ¬e.addr = a := fun h => hx (hxa.trans h.symm)
        simp [hxa, hea]
      · simp [hxa]

theorem entryOf_putEntry (e : RosterEntry) (l : List RosterEntry) (a : Addr) :
    entryOf (putEntry e l) a = if e.addr = a then some e else entryOf l a := by
  unfold putEntry
  rw [entryOf_insertBy e (entryOf_filter_same _ _)]
  by_cases h : e.addr = a
  · simp [h]
  · simp [h, entryOf_filter_ne (Ne.symm h)]

/-- The roster stands in address order without repeats (R57). -/
def rosterOrdered (l : List RosterEntry) : Prop := l.Pairwise (fun a b => a.addr.val < b.addr.val)

theorem rosterOrdered_putEntry {l : List RosterEntry} (h : rosterOrdered l) (e : RosterEntry) :
    rosterOrdered (putEntry e l) := by
  have key : (putEntry e l).Pairwise (fun a b => decide (a.addr.val < b.addr.val) = true) := by
    refine pairwise_insertBy (fun a b c h k => ?_) (fun y hy => ?_) ?_
    · simp only [decide_eq_true_eq] at *
      omega
    · have hne : y.addr ≠ e.addr := by simpa using (List.mem_filter.1 hy).2
      have hne' : y.addr.val ≠ e.addr.val := fun k => hne (Fin.ext k)
      simp only [decide_eq_true_eq]
      omega
    · exact (List.Pairwise.filter _ h).imp (fun h => by simpa using h)
  exact key.imp (fun h => by simpa using h)

theorem rosterOrdered_filterMap {f : RosterEntry → Option RosterEntry} {l : List RosterEntry} (h : rosterOrdered l)
    (hf : ∀ e d, f e = some d → d.addr = e.addr) : rosterOrdered (l.filterMap f) := by
  unfold rosterOrdered
  rw [List.pairwise_filterMap]
  refine h.imp (fun {a b} hab a' ha b' hb => ?_)
  rw [hf a a' ha, hf b b' hb]
  exact hab

theorem rosterOrdered_map {f : RosterEntry → RosterEntry} {l : List RosterEntry} (h : rosterOrdered l)
    (hf : ∀ e, (f e).addr = e.addr) : rosterOrdered (l.map f) := by
  rw [← List.filterMap_eq_map]
  refine rosterOrdered_filterMap h (fun e d hd => ?_)
  obtain rfl : f e = d := by simpa using hd
  exact hf e

/-- The missed counting keeps the entry of an address that it does not declare lost (R67, R69). -/
theorem entryOf_countMissed {own sender a : Addr} {l : List RosterEntry} {e : RosterEntry} (h : entryOf l a = some e)
    (ha : a ∉ lostAt own sender l) :
    ∃ d, entryOf (l.filterMap (countMissed own sender)) a = some d ∧ d.isExcluded = e.isExcluded ∧
      d.ceiling = e.ceiling := by
  induction l with
  | nil => simp at h
  | cons x l ih =>
    have hal : a ∉ lostAt own sender l := by
      intro k
      apply ha
      obtain ⟨y, hy, rfl⟩ := List.mem_map.1 k
      exact List.mem_map.2 ⟨y, List.mem_filter.2 ⟨List.mem_cons_of_mem _ (List.mem_filter.1 hy).1,
        (List.mem_filter.1 hy).2⟩, rfl⟩
    rw [entryOf_cons] at h
    have addr : ∀ d, countMissed own sender x = some d → d.addr = x.addr := by
      intro d hd
      unfold countMissed at hd
      split at hd
      · cases hd; rfl
      · split at hd
        · cases hd; rfl
        · split at hd
          · cases hd
          · cases hd; rfl
    by_cases hx : x.addr = a
    · obtain rfl : x = e := by simpa [hx] using h
      have kept : ∃ d, countMissed own sender x = some d ∧ d.isExcluded = x.isExcluded ∧ d.ceiling = x.ceiling := by
        have status : ∀ y : EntryStatus, (∀ c, y ≠ .excluded c) → ∀ (m : Nat) (b : Bool),
            ({ x with heard := b, missed := m, status := if x.isExcluded then x.status else y } :
              RosterEntry).isExcluded = x.isExcluded := by
          intro y hy m b
          cases hxe : x.isExcluded
          · cases y <;> simp_all [RosterEntry.isExcluded]
          · simpa [RosterEntry.isExcluded] using hxe
        unfold countMissed
        by_cases ho : x.addr = own
        · exact ⟨{ x with heard := false }, by rw [if_pos ho], rfl, rfl⟩
        · by_cases hh : heardBy sender x = true
          · exact ⟨_, by rw [if_neg ho, if_pos hh], status _ (by simp) _ _, rfl⟩
          · have hm : ¬2 ≤ x.missed := by
              intro hm
              apply ha
              refine List.mem_map.2 ⟨x, List.mem_filter.2 ⟨by simp, ?_⟩, hx⟩
              simp [ho, hh, hm]
            exact ⟨_, by rw [if_neg ho, if_neg hh, if_neg hm], status _ (by simp) _ _, rfl⟩
      obtain ⟨d, hd, he, hc⟩ := kept
      refine ⟨d, ?_, he, hc⟩
      rw [List.filterMap_cons_some hd, entryOf_cons, if_pos ((addr d hd).trans hx)]
    · rw [if_neg hx] at h
      obtain ⟨d, hd, rest⟩ := ih h hal
      refine ⟨d, ?_, rest⟩
      cases hcx : countMissed own sender x with
      | none => rw [List.filterMap_cons_none hcx, hd]
      | some y => rw [List.filterMap_cons_some hcx, entryOf_cons, if_neg (by rw [addr y hcx]; exact hx), hd]

end Sys2Proof.Machine
end


section
/-! SUPPORT. The records of a ROW that enter the table (R12, R13): the claims that `rowClaims` fits are those of the
records that `enteringRecords` picks by counting the lower ids, one claim to a record, and they make a lawful table
with the claims of the other owners. -/

namespace Sys2Proof.Machine

/-! ## The first record of each id -/

theorem dropRepeats_pairwise (l : List RowRecord) : (dropRepeats l).Pairwise (fun a b => a.id ≠ b.id) := by
  induction l with
  | nil => exact .nil
  | cons r l ih =>
    refine List.pairwise_cons.2 ⟨fun k hk => ?_, ih.filter _⟩
    have h : k.id ≠ r.id := by simpa using (List.mem_filter.1 hk).2
    exact h.symm

/-- The records of a ROW whose id no earlier record carries and that are within the table's laws by themselves (R13). -/
def keptRecords (l : List RowRecord) : List RowRecord :=
  (List.range l.length).filterMap (fun i =>
    (l[i]?).filter (fun r => !(l.take i).any (fun q => q.id == r.id) && r.volume != 0 &&
      (if r.flush then r.cls.toNat == 7 else decide (1 ≤ r.cls.toNat) && decide (r.cls.toNat ≤ 6))))

theorem filterMap_first (l : List RowRecord) (p : RowRecord → Bool) :
    (List.range l.length).filterMap (fun i =>
      (l[i]?).filter (fun r => !(l.take i).any (fun q => q.id == r.id) && p r)) = (dropRepeats l).filter p := by
  induction l generalizing p with
  | nil => rfl
  | cons x l ih =>
    rw [List.length_cons, List.range_succ_eq_map, List.filterMap_cons, List.filterMap_map]
    have tail : ((fun i => ((x :: l)[i]?).filter (fun r => !((x :: l).take i).any (fun q => q.id == r.id) && p r)) ∘
        Nat.succ) = (fun i => (l[i]?).filter (fun r => !(l.take i).any (fun q => q.id == r.id) &&
          (r.id != x.id && p r))) := by
      funext i
      simp only [Function.comp, Nat.succ_eq_add_one, List.getElem?_cons_succ, List.take_succ_cons, List.any_cons]
      congr 1
      funext r
      rw [show (r.id != x.id) = !(x.id == r.id) by simp [bne, Bool.beq_comm]]
      cases x.id == r.id <;> simp
    rw [tail, ih]
    have head : (dropRepeats (x :: l)).filter p =
        (if p x then [x] else []) ++ (dropRepeats l).filter (fun r => r.id != x.id && p r) := by
      have e : (fun r : RowRecord => r.id != x.id && p r) = (fun r => p r && (r.id != x.id)) := by
        funext r; exact Bool.and_comm _ _
      rw [e, ← List.filter_filter, dropRepeats, List.filter_cons]
      split <;> rfl
    rw [head]
    cases hp : p x <;> simp [Option.filter, hp]

/-- The records kept are those that the claim table keeps. -/
theorem keptRecords_eq (l : List RowRecord) : keptRecords l = (dropRepeats l).filter rowRecordFits := by
  have e : rowRecordFits = (fun r : RowRecord => r.volume != 0 &&
      (if r.flush then r.cls.toNat == 7 else decide (1 ≤ r.cls.toNat) && decide (r.cls.toNat ≤ 6))) := by
    funext r
    unfold rowRecordFits
    rw [Bool.and_comm]
    cases r.flush <;> rfl
  rw [e, ← filterMap_first]
  unfold keptRecords
  simp only [Bool.and_assoc]

theorem keptRecords_pairwise (l : List RowRecord) : (keptRecords l).Pairwise (fun a b => a.id ≠ b.id) := by
  rw [keptRecords_eq]
  exact (dropRepeats_pairwise l).filter _

/-! ## The records that fit -/

/-- How many records of a list have a lower id. -/
def lowerIds (l : List RowRecord) (r : RowRecord) : Nat := (l.filter (fun q => decide (q.id.toNat < r.id.toNat))).length

/-- Of the records kept, the 6 LOTs and the FLUSH of lowest id (R13). -/
def fittingRecords (kept : List RowRecord) : List RowRecord :=
  kept.filter (fun r => decide (lowerIds (kept.filter (fun q => q.flush == r.flush)) r < if r.flush then 1 else 6))

/-- Of these, the lowest ids for which the table has room beside `others` claims (R13). -/
def enteringRecords (kept : List RowRecord) (others : Nat) : List RowRecord :=
  (fittingRecords kept).filter (fun r => decide (lowerIds (fittingRecords kept) r < 64 - others))

/-- Among the first elements of a list in order are those with few elements before them. -/
theorem mem_take_iff_before {l : List Claim} (hl : l.Pairwise (fun a b => a.before b = true)) {c : Claim} (hc : c ∈ l)
    (n : Nat) : c ∈ l.take n ↔ (l.filter (fun d => d.before c)).length < n := by
  induction l generalizing n with
  | nil => simp at hc
  | cons x l ih =>
    obtain ⟨hx, hl'⟩ := List.pairwise_cons.1 hl
    have asymm : ∀ {a b : Claim}, a.before b = true → b.before a = false := by
      intro a b h
      cases k : b.before a
      · rfl
      · exact absurd (before_trans _ _ _ h k) (fun hh => apart_of_before hh ⟨rfl, rfl⟩)
    cases n with
    | zero => simp
    | succ n =>
      by_cases hcx : c = x
      · subst hcx
        have none : (c :: l).filter (fun d => d.before c) = [] := by
          refine List.filter_eq_nil_iff.2 (fun d hd => ?_)
          rcases List.mem_cons.1 hd with rfl | hd
          · cases k : d.before d
            · simp
            · exact absurd (asymm k) (by simp [k])
          · simp [asymm (hx d hd)]
        simp [none]
      · have hcl : c ∈ l := (List.mem_cons.1 hc).resolve_left hcx
        have step : (x :: l).filter (fun d => d.before c) = x :: l.filter (fun d => d.before c) := by
          simp [hx c hcl]
        rw [List.take_succ_cons, step]
        simp only [List.mem_cons, hcx, false_or, List.length_cons, Nat.add_lt_add_iff_right]
        exact ih hl' hcl n

theorem sortClaims_perm (l : List Claim) : (sortClaims l).Perm l := by
  have h := perm_foldl_insertBy (before := Claim.before) l []
  rwa [List.append_nil] at h

theorem sortClaims_pairwise {l : List Claim} (h : l.Pairwise (fun a b => ¬(a.owner = b.owner ∧ a.id = b.id))) :
    (sortClaims l).Pairwise (fun a b => a.before b = true) :=
  pairwise_foldl_insertBy before_trans (by simp) (h.imp before_total) .nil

/-- The claims of a ROW's records, in table order, before the capacities are looked at. -/
def rowSorted (a : Addr) (b : RowBody) (ceiling aging : Nat) : List Claim :=
  sortClaims (((dropRepeats b.records).filter rowRecordFits).map (claimOfRecord a b.window ceiling aging))

/-- A claim is among the first 6 LOTs or the first FLUSH of a list (R13). -/
def inCapacity (l : List Claim) (c : Claim) : Bool :=
  ((l.filter (fun c => c.kind == .lot)).take 6).contains c || ((l.filter (fun c => c.kind == .flush)).take 1).contains c

theorem rowClaims_eq (a : Addr) (b : RowBody) (ceiling aging others : Nat) : rowClaims a b ceiling aging others =
    ((rowSorted a b ceiling aging).filter (inCapacity (rowSorted a b ceiling aging))).take (64 - others) := rfl

/-- The first 6 LOTs and the first FLUSH of a sorted list are those with fewer of their own kind before them. -/
theorem inCapacity_iff {l : List Claim} (hl : l.Pairwise (fun a b => a.before b = true)) {c : Claim} (hc : c ∈ l) :
    inCapacity l c =
      decide (((l.filter (fun d => d.kind == c.kind)).filter (fun d => d.before c)).length < c.kind.capacity) := by
  have first : ∀ (k : ClaimKind) (n : Nat), c.kind = k →
      (c ∈ (l.filter (fun d => d.kind == k)).take n ↔
        ((l.filter (fun d => d.kind == k)).filter (fun d => d.before c)).length < n) :=
    fun k n hk => mem_take_iff_before (hl.filter _) (List.mem_filter.2 ⟨hc, by simp [hk]⟩) n
  have other : ∀ (k : ClaimKind) (n : Nat), c.kind ≠ k → c ∉ (l.filter (fun d => d.kind == k)).take n := by
    intro k n hk h
    have hm := (List.mem_filter.1 (List.mem_of_mem_take h)).2
    exact hk (by simpa using hm)
  unfold inCapacity
  rw [Bool.eq_iff_iff]
  simp only [Bool.or_eq_true, List.contains_iff_mem, decide_eq_true_eq]
  cases hk : c.kind
  · rw [first .lot 6 hk]
    simp only [other .flush 1 (by simp [hk]), or_false, ClaimKind.capacity]
  · rw [first .flush 1 hk]
    simp only [other .lot 6 (by simp [hk]), false_or, ClaimKind.capacity]

section
variable (a : Addr) (b : RowBody) (ceiling aging : Nat)

theorem rowSorted_perm : (rowSorted a b ceiling aging).Perm
    ((keptRecords b.records).map (claimOfRecord a b.window ceiling aging)) := by
  rw [keptRecords_eq]
  exact sortClaims_perm _

theorem rowSorted_pairwise : (rowSorted a b ceiling aging).Pairwise (fun a b => a.before b = true) := by
  refine sortClaims_pairwise ?_
  rw [← keptRecords_eq, List.pairwise_map]
  exact (keptRecords_pairwise _).imp (fun h k => h k.2)

/-- Counting lower claims is counting lower ids among the records. -/
theorem length_before_eq_lowerIds {l : List Claim} {k : List RowRecord}
    (h : l.Perm (k.map (claimOfRecord a b.window ceiling aging))) (r : RowRecord) :
    (l.filter (fun d => d.before (claimOfRecord a b.window ceiling aging r))).length = lowerIds k r := by
  rw [(h.filter _).length_eq, List.filter_map, List.length_map]
  unfold lowerIds
  congr 2
  funext q
  rw [Function.comp, Bool.eq_iff_iff, before_iff]
  simp [claimOfRecord]

/-- The sorted claims that fit are those of the fitting records. -/
theorem rowSorted_inCapacity_perm :
    ((rowSorted a b ceiling aging).filter (inCapacity (rowSorted a b ceiling aging))).Perm
      ((fittingRecords (keptRecords b.records)).map (claimOfRecord a b.window ceiling aging)) := by
  have perm := rowSorted_perm a b ceiling aging
  have congr : ∀ r ∈ keptRecords b.records,
      (inCapacity (rowSorted a b ceiling aging) ∘ claimOfRecord a b.window ceiling aging) r =
      decide (lowerIds ((keptRecords b.records).filter (fun q => q.flush == r.flush)) r < if r.flush then 1 else 6) := by
    intro r hr
    have kinds : ∀ q : RowRecord, ((claimOfRecord a b.window ceiling aging q).kind ==
        (claimOfRecord a b.window ceiling aging r).kind) = (q.flush == r.flush) := by
      intro q
      cases hq : q.flush <;> cases hr : r.flush <;> simp [claimOfRecord, hq, hr]
    have same : ((rowSorted a b ceiling aging).filter (fun d => d.kind ==
        (claimOfRecord a b.window ceiling aging r).kind)).Perm
        (((keptRecords b.records).filter (fun q => q.flush == r.flush)).map
          (claimOfRecord a b.window ceiling aging)) := by
      refine (perm.filter _).trans ?_
      rw [List.filter_map]
      simp only [Function.comp_def, kinds]
      exact .refl _
    have cap : (claimOfRecord a b.window ceiling aging r).kind.capacity = if r.flush then 1 else 6 := by
      change ClaimKind.capacity (if r.flush then .flush else .lot) = _
      split <;> rfl
    rw [Function.comp, inCapacity_iff (rowSorted_pairwise a b ceiling aging)
      (perm.mem_iff.2 (List.mem_map_of_mem hr)), length_before_eq_lowerIds a b ceiling aging same, cap]
  refine (perm.filter _).trans ?_
  rw [List.filter_map, List.filter_congr congr]
  exact .refl _

variable (others : Nat)

/-- The claims that a ROW enters are those of the entering records (R12, R13). -/
theorem mem_rowClaims {c : Claim} :
    c ∈ rowClaims a b ceiling aging others ↔
      ∃ r ∈ enteringRecords (keptRecords b.records) others, c = claimOfRecord a b.window ceiling aging r := by
  have perm := rowSorted_inCapacity_perm a b ceiling aging
  have sorted := (rowSorted_pairwise a b ceiling aging).filter (inCapacity (rowSorted a b ceiling aging))
  rw [rowClaims_eq]
  constructor
  · intro h
    obtain ⟨r, hr, rfl⟩ := List.mem_map.1 (perm.mem_iff.1 (List.mem_of_mem_take h))
    rw [mem_take_iff_before sorted (List.mem_of_mem_take h), length_before_eq_lowerIds a b ceiling aging perm] at h
    exact ⟨r, List.mem_filter.2 ⟨hr, by simpa using h⟩, rfl⟩
  · rintro ⟨r, hr, rfl⟩
    obtain ⟨hr, hn⟩ := List.mem_filter.1 hr
    rw [mem_take_iff_before sorted (perm.mem_iff.2 (List.mem_map_of_mem hr)),
      length_before_eq_lowerIds a b ceiling aging perm]
    simpa using hn

theorem rowClaims_pairwise : (rowClaims a b ceiling aging others).Pairwise (fun a b => a.before b = true) := by
  rw [rowClaims_eq]
  exact ((rowSorted_pairwise a b ceiling aging).filter _).sublist (List.take_sublist _ _)

theorem rowClaims_nodup : (rowClaims a b ceiling aging others).Nodup :=
  (rowClaims_pairwise a b ceiling aging others).imp (by
    rintro c d h rfl
    exact apart_of_before h ⟨rfl, rfl⟩)

theorem enteringRecords_pairwise (l : List RowRecord) :
    (enteringRecords (keptRecords l) others).Pairwise (fun a b => a.id ≠ b.id) :=
  ((keptRecords_pairwise l).filter _).filter _

/-- One claim enters for each entering record. -/
theorem length_rowClaims :
    (rowClaims a b ceiling aging others).length = (enteringRecords (keptRecords b.records) others).length := by
  have claims := rowClaims_nodup a b ceiling aging others
  have records : ((enteringRecords (keptRecords b.records) others).map
      (claimOfRecord a b.window ceiling aging)).Nodup := by
    refine List.pairwise_map.2 ((enteringRecords_pairwise others b.records).imp (fun h e => h ?_))
    have hi := congrArg Claim.id e
    exact hi
  have perm : (rowClaims a b ceiling aging others).Perm ((enteringRecords (keptRecords b.records) others).map
      (claimOfRecord a b.window ceiling aging)) := by
    refine (List.perm_ext_iff_of_nodup claims records).2 (fun c => ?_)
    rw [mem_rowClaims, List.mem_map]
    constructor
    · rintro ⟨r, hr, rfl⟩
      exact ⟨r, hr, rfl⟩
    · rintro ⟨r, hr, rfl⟩
      exact ⟨r, hr, rfl⟩
  rw [perm.length_eq, List.length_map]

theorem rowClaims_owner {c : Claim} (h : c ∈ rowClaims a b ceiling aging others) : c.owner = a := by
  obtain ⟨r, _, rfl⟩ := (mem_rowClaims a b ceiling aging others).1 h
  rfl

theorem rowClaims_effective {c : Claim} (h : c ∈ rowClaims a b ceiling aging others) : ceiling ≤ c.effective := by
  obtain ⟨r, _, rfl⟩ := (mem_rowClaims a b ceiling aging others).1 h
  exact Nat.le_max_right _ _

theorem length_rowClaims_le : (rowClaims a b ceiling aging others).length ≤ 64 - others := List.length_take_le _ _

/-- No more than 6 LOTs and one FLUSH enter (R13). -/
theorem countOf_rowClaims (x : Addr) (k : ClaimKind) : countOf (rowClaims a b ceiling aging others) x k ≤ k.capacity := by
  have nodup := rowClaims_nodup a b ceiling aging others
  have within : ∀ m : List Claim, m.length ≤ k.capacity →
      (∀ c ∈ rowClaims a b ceiling aging others, c.kind = k → c ∈ m) →
      countOf (rowClaims a b ceiling aging others) x k ≤ k.capacity := by
    intro m hm hsub
    have sub : ((rowClaims a b ceiling aging others).filter (fun c => c.owner == x && c.kind == k)).Subperm m := by
      refine (nodup.filter _).subperm (fun c hc => ?_)
      obtain ⟨hc, hk⟩ := List.mem_filter.1 hc
      exact hsub c hc (by simp only [Bool.and_eq_true, beq_iff_eq] at hk; exact hk.2)
    exact sub.length_le.trans hm
  have kindOf : ∀ {l : List Claim} {j : ClaimKind} {n : Nat} {c : Claim},
      c ∈ (l.filter (fun c => c.kind == j)).take n → c.kind = j := by
    intro l j n c h
    have h := (List.mem_filter.1 (List.mem_of_mem_take h)).2
    simpa using h
  have member : ∀ c ∈ rowClaims a b ceiling aging others,
      c ∈ ((rowSorted a b ceiling aging).filter (fun c => c.kind == .lot)).take 6 ∨
        c ∈ ((rowSorted a b ceiling aging).filter (fun c => c.kind == .flush)).take 1 := by
    intro c hc
    rw [rowClaims_eq] at hc
    have h := (List.mem_filter.1 (List.mem_of_mem_take hc)).2
    simpa only [inCapacity, Bool.or_eq_true, List.contains_iff_mem] using h
  cases k with
  | lot =>
    refine within _ (List.length_take_le 6 _) (fun c hc hk => ((member c hc).resolve_right (fun h => ?_)))
    have hk' := kindOf h
    simp [hk] at hk'
  | flush =>
    refine within _ (List.length_take_le 1 _) (fun c hc hk => ((member c hc).resolve_left (fun h => ?_)))
    have hk' := kindOf h
    simp [hk] at hk'

end

/-- The claims of a ROW's owner make a lawful table with those of the others (R1, R13). -/
theorem tableLawful_enterRow {l entered : List Claim} {a : Addr} (hl : tableLawful l)
    (hs : entered.Pairwise (fun a b => a.before b = true)) (howner : ∀ c ∈ entered, c.owner = a)
    (hlen : entered.length ≤ 64 - (l.filter (fun c => c.owner != a)).length)
    (hcount : ∀ k : ClaimKind, countOf entered a k ≤ k.capacity) :
    tableLawful (entered.foldl (fun l c => insertClaim c l) (l.filter (fun c => c.owner != a))) := by
  obtain ⟨hp, hn, hc⟩ := tableLawful_filter hl (fun c => c.owner != a)
  have others : ∀ c ∈ l.filter (fun c => c.owner != a), c.owner ≠ a := fun c hc => by
    simpa using (List.mem_filter.1 hc).2
  generalize l.filter (fun c => c.owner != a) = rest at *
  have perm : (entered.foldl (fun l c => insertClaim c l) rest).Perm (entered ++ rest) :=
    perm_foldl_insertBy entered rest
  have none : ∀ (m : List Claim) (x : Addr) (k : ClaimKind), (∀ c ∈ m, c.owner ≠ x) → countOf m x k = 0 := by
    intro m x k h
    refine List.length_eq_zero_iff.2 (List.filter_eq_nil_iff.2 (fun c hc => ?_))
    simp [h c hc]
  refine ⟨pairwise_foldl_insertBy before_trans (fun c hc d hd => ?_) (hs.imp (fun h => .inl h)) hp, ?_, fun x => ?_⟩
  · exact before_total (fun h => others d hd (h.1.symm.trans (howner c hc)))
  · rw [perm.length_eq, List.length_append]
    omega
  · rw [countOf_perm perm, countOf_perm perm, countOf_append, countOf_append]
    by_cases hx : x = a
    · subst hx
      have hlot := hcount .lot
      have hflush := hcount .flush
      rw [none rest x .lot others, none rest x .flush others]
      exact ⟨hlot, hflush⟩
    · have far : ∀ c ∈ entered, c.owner ≠ x := fun c hc h => hx (h.symm.trans (howner c hc))
      rw [none entered x .lot far, none entered x .flush far]
      simpa using hc x

theorem mem_enterRow {entered rest : List Claim} {c : Claim} :
    c ∈ entered.foldl (fun l c => insertClaim c l) rest ↔ c ∈ entered ∨ c ∈ rest := by
  have perm : (entered.foldl (fun l c => insertClaim c l) rest).Perm (entered ++ rest) :=
    perm_foldl_insertBy entered rest
  rw [perm.mem_iff, List.mem_append]

end Sys2Proof.Machine
end


section
/-! SUPPORT. What each block's operations do to the claim records, the roster and the stop set, in two relations:
`SameRecords s t`, for the operations that leave them as they are, and `Keeps s t`, for those that keep their laws. -/

namespace Sys2Proof.Machine

/-! ## The relations -/

/-- `t` has the records of `s`: its claims, its roster and the originators of its stop set, with configuration and
first cause. -/
structure SameRecords (s t : State) : Prop where
  cfg : t.cfg = s.cfg
  roster : t.roster = s.roster
  claims : t.table.claims = s.table.claims
  config : t.mode.config = s.mode.config
  originators : t.hall.stops.map (fun e => e.addr) = s.hall.stops.map (fun e => e.addr)
  firstCause : t.hall.firstCause = s.hall.firstCause

theorem SameRecords.refl (s : State) : SameRecords s s := ⟨rfl, rfl, rfl, rfl, rfl, rfl⟩

theorem SameRecords.trans {s t u : State} (h : SameRecords s t) (k : SameRecords t u) : SameRecords s u :=
  ⟨k.cfg.trans h.cfg, k.roster.trans h.roster, k.claims.trans h.claims, k.config.trans h.config,
    k.originators.trans h.originators, k.firstCause.trans h.firstCause⟩

theorem Concluded.config_eq {s t : State} (h : Concluded s t) : t.mode.config = s.mode.config := by
  have hm := h.mode
  simp only at hm
  rw [← hm]

theorem Concluded.same {s t : State} (h : Concluded s t) : SameRecords s t := by
  have hall : t.hall = s.hall := h.hall
  exact ⟨h.cfg, h.roster, h.claims, h.config_eq, by rw [hall], by rw [hall]⟩

theorem Untouched.same {s t : State} (h : Untouched s t) : SameRecords s t := h.concluded.same

theorem Works.same {s t : State} (h : Works s t) : SameRecords s t := h.untouched.same

/-- A claim's owner has an entry that is not EXCLUDED and whose ceiling the claim does not undercut (R3, R14). -/
def backed (roster : List RosterEntry) (c : Claim) : Prop :=
  ∃ e, entryOf roster c.owner = some e ∧ e.isExcluded = false ∧ e.ceiling ≤ c.effective

/-- The rank laws of a station whose configuration is good. -/
structure State.ranked (s : State) : Prop where
  good : s.mode.config = .good
  own : ∃ e, entryOf s.roster s.own = some e ∧ e.isExcluded = false
  claims : ∀ c ∈ s.table.claims, backed s.roster c

/-- `t` is lawful where `s` is. -/
structure Keeps (s t : State) : Prop where
  records : s.recordsLawful → t.recordsLawful
  ranks : s.ranked → t.ranked

theorem Keeps.refl (s : State) : Keeps s s := ⟨id, id⟩

theorem Keeps.trans {s t u : State} (h : Keeps s t) (k : Keeps t u) : Keeps s u :=
  ⟨fun hs => k.records (h.records hs), fun hs => k.ranks (h.ranks hs)⟩

/-- The order of the stop set is that of its originators. -/
theorem stops_ordered_iff (h : HallState) : h.stops.Pairwise (fun a b => a.addr.val < b.addr.val) ↔
    (h.stops.map (fun e => e.addr)).Pairwise (fun a b => a.val < b.val) := by
  rw [List.pairwise_map]

theorem stops_nil_iff (h : HallState) : h.stops = [] ↔ h.stops.map (fun e => e.addr) = [] := List.map_eq_nil_iff.symm

theorem SameRecords.keeps {s t : State} (h : SameRecords s t) : Keeps s t where
  records := by
    rintro ⟨ht, hr, hs, hf⟩
    refine ⟨by rwa [h.claims], by rwa [h.roster], ?_, ?_⟩
    · rwa [stops_ordered_iff, h.originators, ← stops_ordered_iff]
    · rwa [stops_nil_iff, h.originators, ← stops_nil_iff, h.firstCause]
  ranks := by
    rintro ⟨hg, ho, hc⟩
    refine ⟨by rwa [h.config], ?_, ?_⟩
    · have own : t.own = s.own := by unfold State.own; rw [h.cfg]
      rwa [h.roster, own]
    · rwa [h.claims, h.roster]

/-! ## One update of one record -/

theorem keeps_setClaims {s : State} {l : List Claim} (hl : tableLawful s.table.claims → tableLawful l)
    (hr : s.ranked → ∀ c ∈ l, backed s.roster c) : Keeps s (s.setClaims l) where
  records := by
    rintro ⟨ht, hrest⟩
    exact ⟨hl ht, hrest⟩
  ranks := fun h => ⟨h.good, h.own, hr h⟩

theorem keeps_setHall {s : State} {h : HallState}
    (ho : s.hall.stops.Pairwise (fun a b => a.addr.val < b.addr.val) →
      h.stops.Pairwise (fun a b => a.addr.val < b.addr.val))
    (hf : (s.hall.firstCause = none ↔ s.hall.stops = []) → (h.firstCause = none ↔ h.stops = [])) :
    Keeps s (s.setHall h) where
  records := by
    rintro ⟨ht, hr, hs, hn⟩
    exact ⟨ht, hr, ho hs, hf hn⟩
  ranks := fun k => ⟨k.good, k.own, k.claims⟩

/-- A new roster keeps the laws where it is in order and keeps the entries of the station and of the owners of claims,
as far as the rank laws read them. -/
theorem keeps_setRoster {s : State} {l : List RosterEntry} (ho : rosterOrdered s.roster → rosterOrdered l)
    (he : ∀ a e, (a = s.own ∨ ∃ c ∈ s.table.claims, c.owner = a) → entryOf s.roster a = some e →
      ∃ d, entryOf l a = some d ∧ d.isExcluded = e.isExcluded ∧ d.ceiling = e.ceiling) : Keeps s (s.setRoster l) where
  records := by
    rintro ⟨ht, hr, hs⟩
    exact ⟨ht, ho hr, hs⟩
  ranks := by
    intro k
    refine ⟨k.good, ?_, fun c hc => ?_⟩
    · obtain ⟨e, hown, hx⟩ := k.own
      obtain ⟨d, hd, hdx, _⟩ := he _ e (.inl rfl) hown
      exact ⟨d, hd, hdx.trans hx⟩
    · obtain ⟨e, hown, hx, hce⟩ := k.claims c hc
      obtain ⟨d, hd, hdx, hdc⟩ := he _ e (.inr ⟨c, hc, rfl⟩) hown
      exact ⟨d, hd, hdx.trans hx, hdc.trans_le hce⟩

/-! ## Removals (R10, R14, R15, R20, R95) -/

/-- A removal takes the claims out of the table, and the REMOVED reports touch the role unit only. -/
theorem untouched_removeClaims (s : State) (p : Claim → Bool) (why : RemovalReason) :
    Untouched (s.setClaims (s.table.claims.filter (fun c => !p c))) (s.removeClaims p why) :=
  untouched_foldl _ (fun s (c : Claim) => untouched_roleRemoved s c.id why) _ _

theorem keeps_removeClaims (s : State) (p : Claim → Bool) (why : RemovalReason) : Keeps s (s.removeClaims p why) := by
  refine Keeps.trans (keeps_setClaims (fun h => tableLawful_filter h _) (fun h c hc => ?_))
    (untouched_removeClaims s p why).same.keeps
  exact h.claims c (List.mem_filter.1 hc).1

/-- The removal of claims that are none of the station's own changes the table alone. -/
theorem removeClaims_of_foreign (s : State) {p : Claim → Bool} (why : RemovalReason)
    (h : ∀ c ∈ s.table.claims, p c = true → c.owner ≠ s.own) :
    s.removeClaims p why = s.setClaims (s.table.claims.filter (fun c => !p c)) := by
  have none : (s.table.claims.filter p).filter (fun c => c.owner == s.own) = [] := by
    refine List.filter_eq_nil_iff.2 (fun c hc => ?_)
    obtain ⟨hc, hp⟩ := List.mem_filter.1 hc
    simpa using h c hc hp
  unfold State.removeClaims
  change List.foldl _ _ ((s.table.claims.filter p).filter (fun c => c.owner == s.own)) = _
  rw [none]
  rfl

theorem removeOwner_of_ne (s : State) {a : Addr} (why : RemovalReason) (h : a ≠ s.own) :
    s.removeOwner a why = s.setClaims (s.table.claims.filter (fun c => c.owner != a)) := by
  unfold State.removeOwner
  rw [removeClaims_of_foreign s why]
  · rfl
  · intro c _ hc
    rwa [beq_iff_eq.1 hc]

/-! ## The hall condition (R27 to R35) -/

theorem same_recomputePresence (s : State) : SameRecords s s.recomputePresence := by
  unfold State.recomputePresence
  dsimp only
  split <;> split <;> exact ⟨rfl, rfl, rfl, rfl, rfl, rfl⟩

theorem same_takeGate (s : State) (a : Addr) (b : GateBody) : SameRecords s (s.takeGate a b) := by
  unfold State.takeGate
  split
  · split
    · dsimp only
      split <;> exact ⟨rfl, rfl, rfl, rfl, rfl, rfl⟩
    · exact .refl s
  · exact .refl s

theorem same_markRestated (s : State) : SameRecords s s.markRestated :=
  ⟨rfl, rfl, rfl, rfl, by simp [State.markRestated], rfl⟩

theorem same_clearRestated (s : State) : SameRecords s s.clearRestated :=
  ⟨rfl, rfl, rfl, rfl, by simp [State.clearRestated], rfl⟩

theorem keeps_addStop (s : State) (a : Addr) (c : StopCause) : Keeps s (s.setHall (s.hall.addStop a c)) := by
  unfold HallState.addStop
  split
  · refine SameRecords.keeps ⟨rfl, rfl, rfl, rfl, ?_, rfl⟩
    simp only [setHall_hall, List.map_map]
    refine List.map_congr_left (fun e _ => ?_)
    simp only [Function.comp]
    split <;> rfl
  · rename_i hns
    refine keeps_setHall (fun ho => ?_) (fun hf => ?_)
    · have key : (insertBy (fun x y : StopEntry => decide (x.addr.val < y.addr.val)) ⟨a, c, true⟩
          s.hall.stops).Pairwise (fun x y => decide (x.addr.val < y.addr.val) = true) := by
        refine pairwise_insertBy (fun x y z h k => ?_) (fun y hy => ?_) (ho.imp (fun h => by simpa using h))
        · simp only [decide_eq_true_eq] at *
          omega
        · have hne : y.addr ≠ a := fun h => hns (List.any_eq_true.2 ⟨y, hy, by simp [h]⟩)
          have hne' : y.addr.val ≠ a.val := fun h => hne (Fin.ext h)
          simp only [decide_eq_true_eq]
          omega
      exact key.imp (fun h => by simpa using h)
    · have full : insertBy (fun x y : StopEntry => decide (x.addr.val < y.addr.val)) ⟨a, c, true⟩ s.hall.stops ≠ [] :=
        List.ne_nil_of_mem (mem_insertBy.2 (.inl rfl))
      cases hs : s.hall.stops with
      | nil => simpa [hs] using full
      | cons e l =>
        have some : s.hall.firstCause ≠ none := fun h => by simpa [hs] using hf.1 h
        simpa [hs, some] using full

theorem keeps_removeStop (s : State) (a : Addr) : Keeps s (s.removeStop a) := by
  unfold State.removeStop
  split
  · have dropped : Keeps s (s.setHall (s.hall.dropStop a)) := by
      refine keeps_setHall (fun ho => ho.filter _) (fun hf => ?_)
      unfold HallState.dropStop
      dsimp only
      cases hl : s.hall.stops.filter (fun e => e.addr != a) with
      | nil => simp
      | cons e l =>
        have hne : s.hall.stops ≠ [] := by
          intro h
          simp [h] at hl
        simpa using fun h => hne (hf.1 h)
    dsimp only
    split
    · exact dropped.trans (SameRecords.keeps ⟨rfl, rfl, rfl, rfl, rfl, rfl⟩)
    · exact dropped
  · exact .refl s

theorem keeps_takeStop (s : State) (a : Addr) (b : StopBody) : Keeps s (s.takeStop a b) := by
  unfold State.takeStop
  split
  · rename_i c _
    split
    · exact .refl s
    · have added := keeps_addStop s a c
      dsimp only
      split
      · exact added
      · refine added.trans (Keeps.trans ?_ (untouched_roleStopTaken _ _ _).same.keeps)
        split
        · exact (Works.raise _ _).same.keeps
        · exact .refl _
  · exact .refl s

theorem keeps_takeRelease (s : State) (a : Addr) (b : ReleaseBody) : Keeps s (s.takeRelease a b) := by
  unfold State.takeRelease
  split
  · split
    · exact .refl s
    · split
      · exact keeps_removeStop s _
      · exact .refl s
  · exact .refl s

theorem keeps_mendStop (s : State) (a : Addr) : Keeps s (s.mendStop a) := by
  unfold State.mendStop
  split
  · exact keeps_removeStop s a
  · exact .refl s

/-! ## The sync controller (chapter 5) -/

theorem same_setSync (s : State) (x : SyncStatus) : SameRecords s (s.setSync x) := by
  unfold State.setSync
  dsimp only
  split <;> exact ⟨rfl, rfl, rfl, rfl, rfl, rfl⟩

theorem same_mapSync (s : State) (f : SyncState → SyncState) : SameRecords s (s.mapSync f) :=
  ⟨rfl, rfl, rfl, rfl, rfl, rfl⟩

theorem same_askRows (s : State) (n : Nat) : SameRecords s (s.askRows n) :=
  (same_mapSync s _).trans (Works.request _ _ _ _).same

theorem keeps_enterExcluded (s : State) (c : ExclusionCause) : Keeps s (s.enterExcluded c) := by
  have dropped : SameRecords s (((s.setSync (.excluded c)).mapSync
      (fun x => { x with listenTimer := none, round := .idle, received := [] })).dropAll .excluded) :=
    (same_setSync s _).trans ((same_mapSync _ _).trans (untouched_dropAll _ _).same)
  exact dropped.keeps.trans ((keeps_removeClaims _ _ _).trans
    ((works_roleExcluded _).trans (.raise _ _)).same.keeps)

theorem keeps_onConflict (s : State) : Keeps s s.onConflict := by
  have told : Keeps s (s.report .addressConflict) := (Works.report s _ rfl).same.keeps
  unfold State.onConflict
  dsimp only
  split
  · exact told.trans (keeps_enterExcluded _ _)
  · exact told.trans (keeps_enterExcluded _ _)
  · exact told.trans (keeps_enterExcluded _ _)
  · exact told

theorem keeps_onRoleConflict (s : State) (a : Addr) : Keeps s (s.onRoleConflict a) := by
  have told : Keeps s (s.report (.roleConflict a)) := (Works.report s _ rfl).same.keeps
  unfold State.onRoleConflict
  dsimp only
  split
  · exact told.trans (keeps_enterExcluded _ _)
  · exact told.trans (keeps_enterExcluded _ _)
  · exact told

theorem keeps_onParameters (s : State) (i : StationInfo) : Keeps s (s.onParameters i) := by
  unfold State.onParameters
  split
  · exact keeps_enterExcluded s _
  · exact .refl s

theorem same_becomeSynced (s : State) : SameRecords s s.becomeSynced :=
  (same_setSync s _).trans ((same_markRestated _).trans (untouched_roleSyncGained _).same)

theorem same_enterDiverged (s : State) : SameRecords s s.enterDiverged :=
  (same_setSync s _).trans (((Works.raise _ _).trans (works_roleSyncLost _)).same.trans (same_askRows _ _))

theorem same_decideRound (s : State) (v : MarkView) (b : MarkBody) : SameRecords s (s.decideRound v b) := by
  unfold State.decideRound
  split
  · exact (same_mapSync s _).trans (same_becomeSynced _)
  · exact (Works.raise s _).same.trans (same_askRows _ _)

theorem same_markRound (s : State) (v : MarkView) (b : MarkBody) : SameRecords s (s.markRound v b) := by
  unfold State.markRound
  split
  · split
    · exact same_decideRound s v b
    · dsimp only
      split
      · exact (same_mapSync s _).trans (same_askRows _ _)
      · exact same_mapSync s _
  · split
    · exact same_askRows s _
    · exact .refl s
  · exact .refl s

theorem same_requestHello (s : State) : SameRecords s s.requestHello := (Works.request s _ _ _).same

theorem same_markSync (s : State) (v : MarkView) (b : MarkBody) : SameRecords s (s.markSync v b) := by
  unfold State.markSync
  split
  · exact (same_mapSync s _).trans ((same_setSync _ _).trans ((same_requestHello _).trans (same_askRows _ _)))
  · exact same_markRound s v b
  · exact same_markRound s v b
  · split
    · exact .refl s
    · exact same_enterDiverged s
  · exact .refl s

theorem same_onConfined (s : State) : SameRecords s s.onConfined := by
  unfold State.onConfined
  split
  · exact .refl s
  · exact .refl s
  · exact (same_setSync s _).trans ((same_mapSync _ _).trans ((same_markRestated _).trans (works_roleSyncLost _).same))

theorem same_endConfinement (s : State) : SameRecords s s.endConfinement := by
  have asked : ∀ t : State, SameRecords t t.onLineActive := by
    intro t
    unfold State.onLineActive
    split
    · exact (same_requestHello t).trans (same_askRows _ _)
    · exact .refl t
  have opened : SameRecords s { s with trunk := { s.trunk with
      line := .active, failCount := 0, failHold := false, confMarks := 0, confExpiries := 0 } } :=
    ⟨rfl, rfl, rfl, rfl, rfl, rfl⟩
  exact opened.trans ((asked _).trans (untouched_roleLineActive _).same)

theorem keeps_enterListenOnly (s : State) : Keeps s s.enterListenOnly := by
  have confined : SameRecords s { s with trunk := { s.trunk with
      line := .listenOnly, failHold := false, confMarks := 0, confExpiries := 0 } } := ⟨rfl, rfl, rfl, rfl, rfl, rfl⟩
  have dropped := confined.trans ((untouched_dropAll _ .listenOnly).same.trans
    ((Works.raise _ .listenOnly).trans (.report _ .listenOnly rfl)).same)
  exact dropped.keeps.trans ((keeps_removeClaims _ _ _).trans (same_onConfined _).keeps)

theorem same_answerRow (s : State) (t : AskTarget) : SameRecords s (s.answerRow t) := by
  have restated : ∀ u : State, SameRecords u u.restateStop := by
    intro u
    unfold State.restateStop
    split
    · split
      · exact .refl u
      · exact (Works.request u _ _ _).same
    · exact .refl u
  have answered : ∀ mine : Bool, SameRecords s
      (if mine && s.lineActive && s.sync.status.joined then (s.request .row .sync).restateStop else s) := by
    intro mine
    split
    · exact (Works.request s _ _ _).same.trans (restated _)
    · exact .refl s
  exact answered _

theorem same_recordRow (s : State) (a : Addr) : SameRecords s (s.recordRow a) := by
  unfold State.recordRow
  split
  · exact same_mapSync s _
  · exact .refl s

/-! ## The roster (chapter 3) -/

theorem keeps_hear (s : State) (a : Addr) : Keeps s (s.hear a) := by
  unfold State.hear
  split
  · exact .refl s
  · have addr : ∀ e : RosterEntry, (if e.addr = a then { e with heard := true } else e).addr = e.addr := by
      intro e; split <;> rfl
    refine keeps_setRoster (fun h => rosterOrdered_map h addr) (fun x e _ he => ?_)
    refine ⟨if e.addr = a then { e with heard := true } else e, ?_, ?_, ?_⟩
    · rw [entryOf_map addr, he]
      rfl
    · split <;> rfl
    · split <;> rfl

theorem raiseTo_filter_ne (a : Addr) (n : Nat) (l : List Claim) :
    (raiseTo a n l).filter (fun c => c.owner != a) = l.filter (fun c => c.owner != a) := by
  induction l with
  | nil => rfl
  | cons c l ih =>
    unfold raiseTo at ih ⊢
    by_cases h : c.owner = a
    · by_cases hn : c.effective < n <;> simp [h, hn, ih]
    · simp [h, ih]

/-- What station information makes of the claims of its sender (R3, R14). -/
def claimsAfter (a : Addr) (e : RosterEntry) (l : List Claim) : List Claim :=
  if e.isExcluded then l.filter (fun c => c.owner != a) else raiseTo a e.ceiling l

/-- A peer's station information, as one update of roster, claims and reports, and presence after it (R28, R59). -/
theorem applyInfo_eq (s : State) {a : Addr} (role : Role) (i : StationInfo) (h : a ≠ s.own) :
    s.applyInfo a role i =
      (let e := s.entryAfter a role i
       let t : State := { s with
         roster := putEntry e s.roster
         table := { s.table with claims := claimsAfter a e s.table.claims }
         reports := s.reports ++ (if entryOf s.roster a = some e then [] else [.rosterChanged a]) }
       if presenceMoment (entryOf s.roster a) e then t.recomputePresence else t) := by
  have gone : ∀ t : State, t.own = s.own → ∀ n, (t.setClaims (raiseTo a n t.table.claims)).removeOwner a .excluded =
      t.setClaims (t.table.claims.filter (fun c => c.owner != a)) := by
    intro t ht n
    rw [removeOwner_of_ne _ _ (by change a ≠ t.own; rwa [ht]), setClaims_claims, raiseTo_filter_ne]
    rfl
  unfold State.applyInfo claimsAfter
  dsimp only
  by_cases hb : entryOf s.roster a = some (s.entryAfter a role i) <;>
    by_cases hx : (s.entryAfter a role i).isExcluded = true
  · simp only [hb, hx, if_true, List.append_nil]
    rw [gone]
    · rfl
    · rfl
  · simp only [hb, hx, if_true, List.append_nil]
    rfl
  · simp only [hb, hx, if_true, if_false]
    rw [gone]
    · rfl
    · rfl
  · simp only [hb, hx, if_false]
    rfl

end Sys2Proof.Machine
end


section
/-! SUPPORT. What the taking of each frame does to the laws of the records: CLAIM, ROW, HELLO, the MARK, and the end of
a frame before the blocks take it. -/

namespace Sys2Proof.Machine

/-! ## Station information (R3, R14, R57 to R63) -/

theorem keeps_informed {s : State} {e : RosterEntry} (h : e.addr ≠ s.own) (r : List Report) :
    Keeps s { s with
      roster := putEntry e s.roster
      table := { s.table with claims := claimsAfter e.addr e s.table.claims }
      reports := r } where
  records := by
    rintro ⟨ht, hr, hs⟩
    refine ⟨?_, rosterOrdered_putEntry hr e, hs⟩
    unfold claimsAfter
    split
    · exact tableLawful_filter ht _
    · exact tableLawful_map ht (fun c _ => by split <;> exact ⟨rfl, rfl, rfl⟩)
  ranks := by
    intro k
    refine ⟨k.good, ?_, fun c hc => ?_⟩
    · obtain ⟨d, hd, hx⟩ := k.own
      exact ⟨d, (entryOf_putEntry e s.roster s.own).trans ((if_neg h).trans hd), hx⟩
    · have other : ∀ d ∈ s.table.claims, d.owner ≠ e.addr → backed (putEntry e s.roster) d := by
        intro d hd hne
        obtain ⟨x, hx, rest⟩ := k.claims d hd
        exact ⟨x, by rw [entryOf_putEntry, if_neg (Ne.symm hne)]; exact hx, rest⟩
      simp only [claimsAfter] at hc
      split at hc
      · obtain ⟨hc, hne⟩ := List.mem_filter.1 hc
        exact other c hc (by simpa using hne)
      · rename_i hx
        obtain ⟨d, hd, rfl⟩ := List.mem_map.1 hc
        by_cases hda : d.owner = e.addr
        · have owner : (if d.owner = e.addr ∧ d.effective < e.ceiling then { d with effective := e.ceiling } else d).owner =
              e.addr := by split <;> exact hda
          refine ⟨e, by rw [entryOf_putEntry, owner, if_pos rfl], by simpa using hx, ?_⟩
          split
          · exact Nat.le_refl _
          · rename_i hn
            exact Nat.le_of_not_lt (fun hlt => hn ⟨hda, hlt⟩)
        · rw [if_neg (fun k => hda k.1)]
          exact other d hd hda

theorem entryAfter_addr (s : State) (a : Addr) (role : Role) (i : StationInfo) : (s.entryAfter a role i).addr = a := rfl

theorem keeps_applyInfo (s : State) {a : Addr} (role : Role) (i : StationInfo) (h : a ≠ s.own) :
    Keeps s (s.applyInfo a role i) := by
  rw [applyInfo_eq s role i h]
  dsimp only
  have made := keeps_informed (e := s.entryAfter a role i) h
    (s.reports ++ (if entryOf s.roster a = some (s.entryAfter a role i) then [] else [.rosterChanged a]))
  split
  · exact made.trans (same_recomputePresence _).keeps
  · exact made

theorem same_dropAsk (s : State) (a : Addr) : SameRecords s (s.dropAsk a) := (Works.pull s _).same

theorem keeps_takeInfo (s : State) (a : Addr) (i : StationInfo) : Keeps s (s.takeInfo a i) := by
  unfold State.takeInfo
  split
  · exact .refl s
  · rename_i hne
    split
    · have asked := (same_dropAsk s a)
      have own : a ≠ (s.dropAsk a).own := by
        unfold State.own
        rwa [asked.cfg]
      have made := asked.keeps.trans (keeps_applyInfo (s.dropAsk a) ‹Role› i own)
      dsimp only
      split
      · exact made.trans (keeps_onRoleConflict _ _)
      · exact made
    · exact .refl s

/-- A leaver loses its claims first, and then its entry (R14, R63). -/
theorem keeps_removeLeaver (s : State) (a : Addr) : Keeps s (s.removeLeaver a) := by
  have removed := untouched_removeClaims s (fun c => c.owner == a) .leaving
  have gone : Keeps s (s.removeOwner a .leaving) := keeps_removeClaims s _ _
  unfold State.removeLeaver
  dsimp only
  split
  · rename_i hk
    have hne : a ≠ s.own := by
      simp only [Bool.and_eq_true, bne_iff_ne, ne_eq] at hk
      have own : (s.removeOwner a .leaving).own = s.own := removed.own_eq
      rw [← own]
      exact hk.2
    refine gone.trans (Keeps.trans (keeps_setRoster (fun ho => ho.filter _) (fun x e hx he => ?_))
      ((Works.report _ (.rosterChanged a) rfl).same.trans (same_recomputePresence _)).keeps)
    have hxa : x ≠ a := by
      rcases hx with rfl | ⟨c, hc, rfl⟩
      · have own : (s.removeOwner a .leaving).own = s.own := removed.own_eq
        rw [own]
        exact hne.symm
      · have claims : (s.removeOwner a .leaving).table.claims = s.table.claims.filter (fun c => !(c.owner == a)) :=
          removed.claims
        rw [claims] at hc
        simpa using (List.mem_filter.1 hc).2
    exact ⟨e, by rw [entryOf_filter_ne hxa, he], rfl, rfl⟩
  · exact gone

/-! ## CLAIM frames (R3 to R7) -/

/-- A CLAIM is accepted only within the capacities, for a new key of an owner that may hold claims. -/
theorem judgeClaim_accept {s : State} {a : Addr} {b : ClaimBody} {c : Claim} (h : s.judgeClaim a b = .accept c) :
    backed s.roster c ∧ claimAt s.table.claims c.owner c.id = none ∧
      countOf s.table.claims c.owner c.kind < c.kind.capacity ∧ s.table.claims.length < 64 := by
  unfold State.judgeClaim at h
  split at h
  · cases h
  · rename_i e he
    split at h
    · cases h
    · rename_i hx
      split at h
      · cases h
      · split at h
        · cases h
        · split at h
          · cases h
          · split at h
            · cases h
            · split at h
              · split at h
                · cases h
                · split at h <;> cases h
              · rename_i hnone
                split at h
                · cases h
                · rename_i hcount
                  split at h
                  · cases h
                  · rename_i hlen
                    cases h
                    exact ⟨⟨e, he, by simpa using hx, Nat.le_max_right _ _⟩, hnone, Nat.lt_of_not_le hcount,
                      Nat.lt_of_not_le hlen⟩

/-- A CLAIM replaces only a record of its own key and kind. -/
theorem judgeClaim_replace {s : State} {a : Addr} {b : ClaimBody} {c : Claim} (h : s.judgeClaim a b = .replace c) :
    backed s.roster c ∧ ∃ d ∈ s.table.claims, d.owner = c.owner ∧ d.id = c.id ∧ d.kind = c.kind := by
  unfold State.judgeClaim at h
  split at h
  · cases h
  · rename_i e he
    split at h
    · cases h
    · rename_i hx
      split at h
      · cases h
      · split at h
        · cases h
        · split at h
          · cases h
          · split at h
            · cases h
            · split at h
              · rename_i d hd
                obtain ⟨hd, ho, hi⟩ := claimAt_some hd
                split at h
                · cases h
                · split at h
                  · cases h
                  · cases h
                    exact ⟨⟨e, by rw [ho]; exact he, by simpa using hx, Nat.le_max_right _ _⟩, d, hd, rfl, rfl, rfl⟩
              · split at h
                · cases h
                · split at h <;> cases h

theorem keeps_takeClaim (s : State) (own : Bool) (a : Addr) (b : ClaimBody) : Keeps s (s.takeClaim own a b) := by
  unfold State.takeClaim
  split
  · rename_i c hc
    obtain ⟨hb, hnew, hcount, hlen⟩ := judgeClaim_accept hc
    have entered : Keeps s (s.setClaims (insertClaim c s.table.claims)) := by
      refine keeps_setClaims (fun hl => tableLawful_insertClaim hl hnew hcount hlen) (fun k d hd => ?_)
      rcases mem_insertBy.1 hd with rfl | hd
      · exact hb
      · exact k.claims d hd
    dsimp only
    split
    · exact entered.trans (untouched_roleAdmitted _ _).same.keeps
    · exact entered
  · rename_i c hc
    obtain ⟨hb, d, hd, hdo, hdi, hdk⟩ := judgeClaim_replace hc
    have replaced : Keeps s (s.setClaims (replaceClaim c s.table.claims)) := by
      refine keeps_setClaims (fun hl => tableLawful_map hl (fun x hx => ?_)) (fun k x hx => ?_)
      · split
        · rename_i hk
          obtain rfl : x = d := eq_of_key hl.1 hx hd (hk.1.trans hdo.symm) (hk.2.trans hdi.symm)
          exact ⟨hdo.symm, hdi.symm, hdk.symm⟩
        · exact ⟨rfl, rfl, rfl⟩
      · obtain ⟨y, hy, rfl⟩ := List.mem_map.1 hx
        split
        · exact hb
        · exact k.claims y hy
    dsimp only
    split
    · exact replaced.trans (Works.report _ _ rfl).same.keeps
    · exact replaced
  · split
    · refine SameRecords.keeps (SameRecords.trans ?_ (untouched_roleRefused _ _ _).same)
      exact ⟨rfl, rfl, rfl, rfl, rfl, rfl⟩
    · exact .refl s

/-! ## ROW frames (R12, R13) -/

/-- The claims that a ROW of `a` enters (R12, R13): none where its entry is EXCLUDED. -/
def State.rowEntered (s : State) (a : Addr) (b : RowBody) : List Claim :=
  if s.senderExcluded a then []
  else rowClaims a b (ceilingOf s.roster a) s.cfg.hall.a (s.table.claims.filter (fun c => c.owner != a)).length

/-- The claim table once a ROW's claims have entered, before own claims are reported. -/
def State.rowTable (s : State) (a : Addr) (b : RowBody) : State :=
  s.setClaims ((s.rowEntered a b).foldl (fun l c => insertClaim c l) (s.table.claims.filter (fun c => c.owner != a)))

/-- How many records of a ROW are dropped (R13). -/
def State.rowDropped (s : State) (a : Addr) (b : RowBody) : Nat :=
  if s.senderExcluded a then 0 else b.records.length - (s.rowEntered a b).length

/-- Dropped records of an own ROW counted and flagged (R8, R13). -/
def State.countDropped (s : State) (n : Nat) : State := if n = 0 then s else (s.countRefused n).raise .claimRefused

theorem takeRow_foreign (s : State) {a : Addr} (b : RowBody) (h : a ≠ s.own) : s.takeRow a b = s.rowTable a b := by
  unfold State.takeRow
  exact if_neg h

theorem takeRow_own (s : State) (b : RowBody) :
    s.takeRow s.own b =
      (((s.rowEntered s.own b).filter (fun e => !(s.table.claims.filter (fun c => c.owner == s.own)).any
        (fun c => c.id == e.id))).foldl (fun t e => t.roleAdmitted e.id)
      (((s.table.claims.filter (fun c => c.owner == s.own)).filter
        (fun c => !(s.rowEntered s.own b).any (fun e => e.id == c.id))).foldl
          (fun t c => t.roleRemoved c.id .rowDropped)
        ((s.rowTable s.own b).countDropped (s.rowDropped s.own b)))) := by
  unfold State.takeRow
  exact if_pos rfl

theorem same_countDropped (s : State) (n : Nat) : SameRecords s (s.countDropped n) := by
  unfold State.countDropped
  split
  · exact .refl s
  · exact ⟨rfl, rfl, rfl, rfl, rfl, rfl⟩

/-- What an own ROW's reports do beyond the table (R9, R13). -/
theorem untouched_takeRow_own (s : State) (b : RowBody) :
    Untouched ((s.rowTable s.own b).countDropped (s.rowDropped s.own b)) (s.takeRow s.own b) := by
  rw [takeRow_own]
  exact (untouched_foldl _ (fun t (c : Claim) => untouched_roleRemoved t c.id _) _ _).trans
    (untouched_foldl _ (fun t (c : Claim) => untouched_roleAdmitted t c.id) _ _)

theorem same_takeRow (s : State) (a : Addr) (b : RowBody) : SameRecords (s.rowTable a b) (s.takeRow a b) := by
  by_cases h : a = s.own
  · subst h
    exact (same_countDropped _ _).trans (untouched_takeRow_own s b).same
  · rw [takeRow_foreign s b h]
    exact .refl _

theorem tableLawful_rowTable {s : State} (a : Addr) (b : RowBody) (h : tableLawful s.table.claims) :
    tableLawful (s.rowTable a b).table.claims := by
  unfold State.rowTable State.rowEntered
  split
  · exact tableLawful_filter h _
  · exact tableLawful_enterRow h (rowClaims_pairwise _ _ _ _ _) (fun c hc => rowClaims_owner _ _ _ _ _ hc)
      (length_rowClaims_le _ _ _ _ _) (countOf_rowClaims _ _ _ _ _ a)

theorem keeps_takeRow {s : State} {a : Addr} (b : RowBody) (h : s.ranked → (entryOf s.roster a).isSome = true) :
    Keeps s (s.takeRow a b) := by
  have entered : Keeps s (s.rowTable a b) := by
    refine keeps_setClaims (tableLawful_rowTable a b) (fun k c hc => ?_)
    rcases mem_enterRow.1 hc with hc | hc
    · obtain ⟨e, he⟩ := Option.isSome_iff_exists.1 (h k)
      unfold State.rowEntered at hc
      split at hc
      · cases hc
      · rename_i hx
        have hex : e.isExcluded = false := by simpa [State.senderExcluded, he] using hx
        have ho := rowClaims_owner _ _ _ _ _ hc
        have hce := rowClaims_effective _ _ _ _ _ hc
        refine ⟨e, by rw [ho]; exact he, hex, ?_⟩
        simpa [ceilingOf, he] using hce
    · exact k.claims c (List.mem_filter.1 hc).1
  exact entered.trans (same_takeRow s a b).keeps

/-! ## The taking of a HELLO and a ROW -/

theorem takeInfo_entry {s : State} {a : Addr} {i : StationInfo} {role : Role} (hr : roleOfCode i.role = some role)
    (h : (s.takeInfo a i).ranked) : (entryOf (s.takeInfo a i).roster a).isSome = true := by
  by_cases ha : a = s.own
  · have e : s.takeInfo a i = s := by simp [State.takeInfo, ha]
    rw [e] at h ⊢
    obtain ⟨x, hx, _⟩ := h.own
    simp [ha, hx]
  · have own : a ≠ (s.dropAsk a).own := by
      unfold State.own
      rwa [(same_dropAsk s a).cfg]
    have roster : ∀ t : State, (t.onRoleConflict a).roster = t.roster := by
      intro t
      have excluded : ∀ u : State, (u.enterExcluded .role).roster = u.roster := by
        intro u
        unfold State.enterExcluded
        dsimp only
        rw [raise_roster, (works_roleExcluded _).same.roster]
        refine (untouched_removeClaims _ _ _).roster.trans ?_
        rw [setClaims_roster, (untouched_dropAll _ _).roster]
        exact (same_setSync u _).roster
      unfold State.onRoleConflict
      dsimp only
      split
      · exact excluded _
      · exact excluded _
      · rfl
    have informed : entryOf ((s.dropAsk a).applyInfo a role i).roster a = some ((s.dropAsk a).entryAfter a role i) := by
      rw [applyInfo_eq _ role i own]
      dsimp only
      split
      · rw [(same_recomputePresence _).roster, entryOf_putEntry, if_pos (entryAfter_addr _ _ _ _)]
      · rw [entryOf_putEntry, if_pos (entryAfter_addr _ _ _ _)]
    unfold State.takeInfo
    rw [if_neg ha, hr]
    dsimp only
    split
    · rw [roster, informed]
      rfl
    · rw [informed]
      rfl

theorem keeps_takePeerRow (s : State) (a : Addr) (b : RowBody) : Keeps s (s.takePeerRow a b) := by
  unfold State.takePeerRow
  split
  · rename_i role hr
    exact (keeps_takeInfo s a b.info).trans ((keeps_takeRow b (takeInfo_entry hr)).trans
      ((keeps_mendStop _ _).trans ((same_recordRow _ _).keeps.trans (keeps_onParameters _ _))))
  · exact keeps_mendStop s a

theorem keeps_takeRowFrame (s : State) (own : Bool) (a : Addr) (b : RowBody) (h : own = true → a = s.own) :
    Keeps s (s.takeRowFrame own a b) := by
  unfold State.takeRowFrame
  split
  · rename_i ho
    refine Keeps.trans (keeps_takeRow b (fun k => ?_)) (keeps_mendStop _ _)
    obtain ⟨e, he, _⟩ := k.own
    rw [h ho, he]
    rfl
  · exact keeps_takePeerRow s a b

/-! ## A MARK (R16 to R20, R54, R67) -/

/-- The claims after a MARK: a WAITING one that ages does not undercut its owner's ceiling (R18). -/
theorem markClaim_backed {roster : List RosterEntry} {aging : Nat} {commits : List (Addr × Byte × Window)}
    {lost : List Addr} {m : Window} {c d : Claim} (h : markClaim roster aging commits lost m c = some d) :
    (d.owner = c.owner ∧ d.id = c.id ∧ d.kind = c.kind) ∧ c.owner ∉ lost ∧ (backed roster c → backed roster d) := by
  unfold markClaim at h
  split at h
  · cases h
  · rename_i hl
    have hlost : c.owner ∉ lost := by simpa using hl
    split at h
    · split at h
      · cases h
      · cases h
        exact ⟨⟨rfl, rfl, rfl⟩, hlost, id⟩
    · split at h
      · cases h
        exact ⟨⟨rfl, rfl, rfl⟩, hlost, fun ⟨e, he, hx, hc⟩ => ⟨e, he, hx, hc⟩⟩
      · cases h
        unfold ageClaim
        split
        · refine ⟨⟨rfl, rfl, rfl⟩, hlost, fun ⟨e, he, hx, hc⟩ => ⟨e, he, hx, ?_⟩⟩
          simp only [ceilingOf, he]
          split <;> omega
        · exact ⟨⟨rfl, rfl, rfl⟩, hlost, fun ⟨e, he, hx, hc⟩ => ⟨e, he, hx, hc⟩⟩

/-- The records after the claim table's part in a MARK. -/
theorem same_markTable (s : State) (commits : List (Addr × Byte × Window)) (lost : List Addr) (m : Window) :
    SameRecords (s.setClaims (s.table.claims.filterMap (markClaim s.roster s.cfg.hall.a commits lost m)))
      (s.markTable commits lost m) := by
  have counted : ∀ (t : State) (n : Nat), SameRecords t (t.countStale n) := fun t n => ⟨rfl, rfl, rfl, rfl, rfl, rfl⟩
  exact (counted _ _).trans ((untouched_foldl _
    (fun t (x : Addr × Byte × Window) => untouched_roleCommitted t x.2.1 x.2.2) _ _).same.trans
      (untouched_foldl _ (fun t (c : Claim) => untouched_roleRemoved t c.id _) _ _).same)

theorem keeps_markTable (s : State) (commits : List (Addr × Byte × Window)) (lost : List Addr) (m : Window) :
    Keeps s (s.markTable commits lost m) := by
  refine Keeps.trans (keeps_setClaims (fun hl => ?_) (fun k d hd => ?_)) (same_markTable s commits lost m).keeps
  · exact tableLawful_filterMap hl (fun c _ d hd => (markClaim_backed hd).1)
  · obtain ⟨c, hc, hcd⟩ := List.mem_filterMap.1 hd
    exact (markClaim_backed hcd).2.2 (k.claims c hc)

/-- The roster's part in a MARK, where no owner that it declares lost holds a claim any more (R20, R67). -/
theorem keeps_markRoster {s : State} {sender : Addr}
    (h : ∀ c ∈ s.table.claims, c.owner ∉ lostAt s.own sender s.roster) : Keeps s (s.markRoster sender) := by
  have counted : Keeps s (s.setRoster (s.roster.filterMap (countMissed s.own sender))) := by
    refine keeps_setRoster (fun ho => rosterOrdered_filterMap ho (fun e d hd => ?_)) (fun a e ha he => ?_)
    · unfold countMissed at hd
      split at hd
      · cases hd; rfl
      · split at hd
        · cases hd; rfl
        · split at hd
          · cases hd
          · cases hd; rfl
    · refine entryOf_countMissed he ?_
      rcases ha with rfl | ⟨c, hc, rfl⟩
      · intro hm
        obtain ⟨x, hx, hxo⟩ := List.mem_map.1 hm
        have hp := (List.mem_filter.1 hx).2
        simp [hxo] at hp
      · exact h c hc
  have told : ∀ (l : List Addr) (t : State), SameRecords t (l.foldl (fun s a => s.report (.rosterChanged a)) t) := by
    intro l t
    exact (works_foldl t _ (fun s a => .report s (.rosterChanged a) rfl) l).same
  have cleared : ∀ t : State, SameRecords t { t with window := { t.window with asked := [] } } :=
    fun t => ⟨rfl, rfl, rfl, rfl, rfl, rfl⟩
  exact counted.trans ((told _ _).trans ((cleared _).trans (same_recomputePresence _))).keeps

theorem same_markWindow (s : State) (m : Window) : SameRecords s (s.markWindow m) := by
  have moved : SameRecords s { s with window := { s.window with number := m, timer := some 0, expiries := 0 } } :=
    ⟨rfl, rfl, rfl, rfl, rfl, rfl⟩
  unfold State.markWindow
  dsimp only
  split
  · exact (moved.trans (Works.pull _ _).same).trans ⟨rfl, rfl, rfl, rfl, rfl, rfl⟩
  · exact moved.trans (Works.pull _ _).same

theorem same_markPresent (s : State) (own joined : Bool) : SameRecords s (s.markPresent own joined) := by
  have sent : ∀ t : State, SameRecords t { t with window := { t.window with sent := false } } :=
    fun t => ⟨rfl, rfl, rfl, rfl, rfl, rfl⟩
  unfold State.markPresent
  dsimp only
  split
  · exact (Works.request s _ _ _).same.trans (sent _)
  · exact sent s

/-- The records as the claim table takes its part in a MARK: as they were when the MARK was taken. -/
theorem same_beforeMarkTable (s : State) (own : Bool) (b : MarkBody) (view : MarkView) (m : Window) (joined : Bool) :
    SameRecords s ((((s.markWindow m).markPresent own joined).rebuildPlan m).markSync view b) := by
  have planned : ∀ t : State, SameRecords t (t.rebuildPlan m) := fun t => ⟨rfl, rfl, rfl, rfl, rfl, rfl⟩
  exact (same_markWindow s m).trans ((same_markPresent _ _ _).trans ((planned _).trans (same_markSync _ _ _)))

theorem keeps_markRecords (s : State) (own : Bool) (sender : Addr) (b : MarkBody) :
    Keeps s (s.markRecords own sender b) := by
  unfold State.markRecords
  dsimp only
  generalize hu : (((s.markWindow b.window).markPresent own s.sync.status.joined).rebuildPlan b.window).markSync
    s.markView b = u
  have same : SameRecords s u := hu ▸ same_beforeMarkTable s own b s.markView b.window s.sync.status.joined
  have table := same_markTable u (commitsOf s.table.claims u.plan.entries b.window) (lostAt s.own sender s.roster)
    b.window
  refine same.keeps.trans ((keeps_markTable u _ _ _).trans (keeps_markRoster (fun c hc => ?_)))
  rw [table.claims] at hc
  obtain ⟨d, _, hd⟩ := List.mem_filterMap.1 hc
  obtain ⟨⟨ho, _, _⟩, hlost, _⟩ := markClaim_backed hd
  have owns : ∀ t : State, t.cfg = s.cfg → t.own = s.own := by
    intro t ht
    unfold State.own
    rw [ht]
  rw [owns _ (table.cfg.trans same.cfg), table.roster, setClaims_roster, same.roster, ho]
  exact hlost

theorem same_mapCrusher (s : State) (f : CrusherState → CrusherState) : SameRecords s (s.mapCrusher f) :=
  ⟨rfl, rfl, rfl, rfl, rfl, rfl⟩

theorem same_judgeHold (s : State) (n : Nat) : SameRecords s (s.judgeHold n) := by
  unfold State.judgeHold
  split
  · exact (same_mapCrusher s _).trans ((Works.raise _ _).trans (works_requestGate _)).same
  · exact .refl s

theorem same_consumeOne (m : Window) (s : State) (e : Inbound) : SameRecords s (s.consumeOne m e) := by
  unfold State.consumeOne
  generalize (if e.arrival = m then s.crusher.current else s.crusher.previous) = r
  have mixed : SameRecords s (if e.cls = r.position then s else s.countMixed.raise .mixedArrival) := by
    split
    · exact .refl s
    · exact ⟨rfl, rfl, rfl, rfl, rfl, rfl⟩
  dsimp only
  split
  · exact mixed.trans ((same_mapCrusher _ _).trans (same_judgeHold _ _))
  · exact same_mapCrusher s _

theorem same_foldl {α : Type} (f : State → α → State) (hf : ∀ s x, SameRecords s (f s x)) (l : List α) (s : State) :
    SameRecords s (l.foldl f s) := by
  induction l generalizing s with
  | nil => exact .refl s
  | cons x r ih => exact (hf s x).trans (ih _)

theorem same_markCrusher (s : State) (m : Window) : SameRecords s (s.markCrusher m) := by
  have turned : SameRecords s s.turnDiverter := by
    unfold State.turnDiverter
    exact same_mapCrusher s _
  have consumed : SameRecords s.turnDiverter (s.turnDiverter.consume m) :=
    (same_mapCrusher _ _).trans (same_foldl _ (same_consumeOne m) _ _)
  unfold State.markCrusher
  exact (turned.trans consumed).trans ((same_mapCrusher _ _).trans (works_tellHall _).same)

theorem untouched_markDischarge (s : State) (m : Window) : Untouched s (s.markDischarge m) := by
  have started : ∀ u : State, Untouched u (if u.mayDischarge m then u.startDischarge m else u) := by
    intro u
    split
    · exact untouched_startDischarge u m
    · exact .refl u
  unfold State.markDischarge
  exact (untouched_endDischarge s).trans ((started _).trans ((untouched_withdrawLots _ _).trans
    ((untouched_mapLots _ _).trans ((untouched_sealAged _).trans (untouched_withdrawOrphanLots _)))))

theorem untouched_markFilter (s : State) (settling : Bool) (m : Window) : Untouched s (s.markFilter settling m) := by
  have settled : ∀ u : State, Untouched u (if settling && u.filter.mode == .settling then
      u.mapFilter FilterState.settleOnce else u) := by
    intro u
    split
    · exact untouched_mapFilter u _ ⟨rfl, rfl⟩
    · exact .refl u
  have started : ∀ u : State, Untouched u (if u.mayFlush m then u.startFlush m
      else if u.filter.mode = .committed ∧ u.filter.discharge.any (fun w => dueBy w m) = true then u.withdrawFlush
      else u) := by
    intro u
    split
    · exact untouched_startFlush u m
    · split
      · exact untouched_withdrawFlush u
      · exact .refl u
  unfold State.markFilter
  exact (untouched_endFlush s _ _).trans ((settled _).trans ((started _).trans
    ((untouched_mapFilter _ _ ⟨rfl, rfl⟩).trans (untouched_withdrawOrphanFlushes _))))

theorem same_markRole (s : State) (settling again : Bool) (lost : List DoneBody) (m : Window) :
    SameRecords s (s.markRole settling again lost m) := by
  have requested : SameRecords s (s.requestDones lost) :=
    (works_foldl s _ (fun s b => .request s (.done b) .role false) lost).same
  unfold State.markRole
  generalize s.requestDones lost = u at requested
  dsimp only
  have part : SameRecords u (match u.cfg.role with
      | .discharge => u.markDischarge m
      | .filter => u.markFilter settling m
      | .crusher => u.markCrusher m) := by
    split
    · exact (untouched_markDischarge u m).same
    · exact (untouched_markFilter u settling m).same
    · exact same_markCrusher u m
  split
  · exact (requested.trans part).trans (works_withdrawCommitted _).same
  · exact requested.trans part

theorem same_markMode (s : State) : SameRecords s s.markMode := by
  unfold State.markMode
  split
  · exact ⟨rfl, rfl, rfl, rfl, rfl, rfl⟩
  · split
    · exact (Works.request s _ _ _).same
    · exact .refl s
  · exact .refl s

theorem same_markConfined (s : State) : SameRecords s s.markConfined := by
  unfold State.markConfined
  split
  · exact same_endConfinement s
  · exact .refl s

theorem keeps_takeMark (s : State) (own : Bool) (sender : Addr) (b : MarkBody) : Keeps s (s.takeMark own sender b) := by
  unfold State.takeMark
  split
  · exact .refl s
  · exact (keeps_markRecords s own sender b).trans
      ((same_markRole _ _ _ _ _).trans ((same_markMode _).trans (same_markConfined _))).keeps

end Sys2Proof.Machine
end


section
/-! SUPPORT. The laws of the records under every step: a station out of START_HOLD keeps them by `Keeps`, a start
makes them anew, and a station that does neither moves no record. -/

namespace Sys2Proof.Machine

/-! ## Steps -/

/-- Both laws of the records hold of `t` where they hold of `s`. -/
structure StepKeeps (s t : State) : Prop where
  records : s.recordsLawful → t.recordsLawful
  ranks : s.ranksLawful → t.ranksLawful

theorem StepKeeps.trans {s t u : State} (h : StepKeeps s t) (k : StepKeeps t u) : StepKeeps s u :=
  ⟨fun hs => k.records (h.records hs), fun hs => k.ranks (h.ranks hs)⟩

theorem ranksLawful_of_ranked {s : State} (h : s.ranked) : s.ranksLawful :=
  ⟨h.claims, fun hn => absurd h.good hn, fun _ => h.own⟩

theorem ranked_of_ranksLawful {s : State} (h : s.ranksLawful) (hg : s.mode.config = .good) : s.ranked :=
  ⟨hg, h.2.2 hg, h.1⟩

/-- Out of START_HOLD the configuration is good, so an operation that keeps the records' laws keeps them as the step
states them. -/
theorem Keeps.step {s t : State} (k : Keeps s t) (h : s.mode.mode ≠ .startHold ∨ s.mode.config = .good) :
    StepKeeps s t where
  records := k.records
  ranks := by
    intro hs
    have hg : s.mode.config = .good := by
      rcases h with h | h
      · by_contra hn
        exact h (hs.2.1 hn).2
      · exact h
    exact ranksLawful_of_ranked (k.ranks (ranked_of_ranksLawful hs hg))

theorem SameRecords.step {s t : State} (h : SameRecords s t) (hm : t.mode.mode = s.mode.mode) : StepKeeps s t where
  records := h.keeps.records
  ranks := by
    rintro ⟨hc, hn, hg⟩
    have own : t.own = s.own := by unfold State.own; rw [h.cfg]
    refine ⟨?_, ?_, ?_⟩
    · rwa [h.claims, h.roster]
    · rwa [h.config, h.claims, hm]
    · rwa [h.config, h.roster, own]

theorem startHold_ne_of_awake {s : State} (h : s.awake = true) : s.mode.mode ≠ .startHold := by
  intro hm
  simp [State.awake, hm] at h

theorem Keeps.step_awake {s t : State} (k : Keeps s t) (h : s.awake = true) : StepKeeps s t :=
  k.step (.inl (startHold_ne_of_awake h))

/-- A start makes both laws true: no claims, no roster, no stops, and START_HOLD (R178). -/
theorem start_lawful (s : State) (c : StartCause) : (s.start c).recordsLawful ∧ (s.start c).ranksLawful := by
  have mode : (s.start c).mode.config = .loading := rfl
  refine ⟨⟨⟨.nil, Nat.zero_le _, fun _ => ⟨Nat.zero_le _, Nat.zero_le _⟩⟩, .nil, .nil, Iff.intro (fun _ => rfl)
    (fun _ => rfl)⟩, ?_, fun _ => ⟨rfl, rfl⟩, fun h => ?_⟩
  · intro c hc
    cases hc
  · rw [mode] at h
    cases h

theorem stepKeeps_start (s : State) (c : StartCause) : StepKeeps s (s.start c) :=
  ⟨fun _ => (start_lawful s c).1, fun _ => (start_lawful s c).2⟩

/-! ## Events -/

theorem same_cleared (s : State) : SameRecords s s.cleared := ⟨rfl, rfl, rfl, rfl, rfl, rfl⟩

theorem stepKeeps_cleared (s : State) : StepKeeps s s.cleared := (same_cleared s).step rfl

theorem stepKeeps_concluded (q : SeqState) (s : State) : StepKeeps s (s.concluded q) := by
  have same := (concluded_concluded q s).same
  cases h : s.awake
  · refine same.step ?_
    rw [concluded_of_asleep q h, refreshTone_mode]
  · exact same.keeps.step_awake h

theorem stepKeeps_event {s : State} {f : State → State} (h : StepKeeps s.cleared (f s.cleared)) :
    StepKeeps s (s.event f) := by
  cases hr : s.inReset
  · rw [event_of_running f hr]
    exact (stepKeeps_cleared s).trans (h.trans (stepKeeps_concluded _ _))
  · rw [event_in_reset f hr]
    exact stepKeeps_cleared s

theorem stepKeeps_quiet {s : State} {f : State → State} (h : StepKeeps s.cleared (f s.cleared)) :
    StepKeeps s (s.quiet f) := by
  cases hr : s.inReset
  · rw [quiet_of_running f hr]
    exact (stepKeeps_cleared s).trans h
  · rw [quiet_in_reset f hr]
    exact stepKeeps_cleared s

theorem stepKeeps_refl (s : State) : StepKeeps s s := ⟨id, id⟩

/-- An event that only an awake station takes. -/
theorem stepKeeps_ite {s t : State} {c : Bool} (hc : c = true → s.awake = true) (k : SameRecords s t) :
    StepKeeps s (if c then t else s) := by
  split
  · rename_i h
    exact k.keeps.step_awake (hc h)
  · exact stepKeeps_refl s

theorem stepKeeps_command {s : State} (args : Nat) {f : State → State × PortResult}
    (h : ∀ u, SameRecords u (f u).1) : StepKeeps s (s.command args f) := by
  have transacted : ∀ (u : State) (r : PortResult), SameRecords u (u.transact args [] r) :=
    fun u r => ⟨rfl, rfl, rfl, rfl, rfl, rfl⟩
  cases hr : s.inReset
  · cases hc : s.closed
    · rw [command_of_open args f hr hc]
      have awakened : s.cleared.mode.mode ≠ .startHold := by
        intro hm
        have hm' : s.mode.mode = .startHold := hm
        simp [State.closed, hm'] at hc
      exact (stepKeeps_cleared s).trans ((((h _).trans (transacted _ _)).keeps.step (.inl awakened)).trans
        (stepKeeps_concluded _ _))
    · rw [command_of_closed args f hr hc]
      exact (stepKeeps_cleared s).trans (((transacted _ _).step rfl).trans (stepKeeps_concluded _ _))
  · unfold State.command
    rw [event_in_reset _ hr]
    exact stepKeeps_cleared s

/-! ## Frames -/

theorem same_askUnknown (s : State) (a : Addr) : SameRecords s (s.askUnknown a) := by
  have noted : SameRecords s { s with window := { s.window with asked := s.window.asked ++ [a] } } :=
    ⟨rfl, rfl, rfl, rfl, rfl, rfl⟩
  unfold State.askUnknown
  split
  · exact noted.trans (Works.request _ _ _ _).same
  · exact .refl s

theorem keeps_hearFrame (s : State) (a : Addr) (informs : Bool) : Keeps s (s.hearFrame a informs) := by
  have counted : SameRecords s (s.countValid.mapTrunk (fun t => { t.frameEnd (t.lastHeard a) with failHold := false })) :=
    ⟨rfl, rfl, rfl, rfl, rfl, rfl⟩
  have asked : ∀ u : State, SameRecords u (if informs then u else u.askUnknown a) := by
    intro u
    split
    · exact .refl u
    · exact same_askUnknown u a
  have conflicted : ∀ u : State, Keeps u (if a = u.own then u.onConflict else u) := by
    intro u
    split
    · exact keeps_onConflict u
    · exact .refl u
  exact counted.keeps.trans ((keeps_hear _ a).trans ((asked _).keeps.trans (conflicted _)))

theorem same_ownGood (s : State) (f : QFrame) : SameRecords s (s.ownGood f) := by
  have ended : SameRecords s (s.mapTrunk (fun t =>
      { t.frameEnd (some s.own) with failCount := 0, queue := t.queue.filter QFrame.waiting })) :=
    ⟨rfl, rfl, rfl, rfl, rfl, rfl⟩
  have sent : ∀ t : State, SameRecords t { t with window := { t.window with sent := true } } :=
    fun t => ⟨rfl, rfl, rfl, rfl, rfl, rfl⟩
  have told := ended.trans ((untouched_deliver _ f.who f.body .sent).same.trans
    ((sent _).trans (Works.pull _ (fun g => (fun g : QFrame => g.body == QBody.present) g && g.waiting)).same))
  unfold State.ownGood
  dsimp only
  split
  · exact told.trans (works_requestGate _).same
  · exact told

/-- The blocks take a frame that arrives: each taking keeps the laws, or is a start. -/
theorem stepKeeps_takeFrame {α : Type} {kind : FrameKind} {informs : Bool} {bodyOf : Body → Option α}
    {take : Bool → Addr → α → State → State} {s : State} (rx : Rx α)
    (h : ∀ own a b u, (own = true → a = u.own) →
      Keeps u (take own a b u) ∨ ((take own a b u).recordsLawful ∧ (take own a b u).ranksLawful)) :
    StepKeeps s (takeFrame kind informs bodyOf take rx s) := by
  have taken : ∀ own a b u, s.awake = true → Keeps s u → (own = true → a = u.own) →
      StepKeeps s (take own a b u) := by
    intro own a b u hs hu ho
    rcases h own a b u ho with k | ⟨hr, hk⟩
    · exact (hu.trans k).step_awake hs
    · exact ⟨fun _ => hr, fun _ => hk⟩
  unfold takeFrame
  split
  · unfold State.fromPeer
    split
    · rename_i hl
      exact taken _ _ _ _ (awake_of_listens hl) (keeps_hearFrame s _ _) (by simp)
    · exact stepKeeps_refl s
  · unfold State.fromOwn
    split
    · split
      · rename_i hs
        dsimp only
        split
        · exact taken _ _ _ _ hs (same_ownGood s _).keeps (fun _ => rfl)
        · exact (same_ownGood s _).keeps.step_awake hs
      · exact stepKeeps_refl s
    · exact stepKeeps_refl s

theorem same_afterOwnStop (s : State) : SameRecords s s.afterOwnStop := by
  unfold State.afterOwnStop
  split
  · exact (works_compareStop s).same
  · exact .refl s

theorem same_enterDormant (s : State) : SameRecords s s.enterDormant := by
  have mode : SameRecords s (s.setMode .dormant) := (concluded_setMode s _).same
  have stopped : ∀ t : State, SameRecords t { t with
      window := { t.window with timer := none }
      sync := { t.sync with listenTimer := none }
      seq := t.seq.off } := fun t => ⟨rfl, rfl, rfl, rfl, rfl, rfl⟩
  exact mode.trans ((untouched_dropAll _ _).same.trans (stopped _))

theorem takeHello_lawful (s : State) (own : Bool) (a : Addr) (b : HelloBody) :
    Keeps s (s.takeHello own a b) ∨ ((s.takeHello own a b).recordsLawful ∧ (s.takeHello own a b).ranksLawful) := by
  unfold State.takeHello
  split
  · exact .inl (keeps_takeInfo s a b.info)
  · exact .inl ((same_dropAsk s a).keeps.trans (keeps_removeLeaver _ a))
  · exact .inl (.refl s)
  · have removed : Keeps s (s.removeOwner s.own .leaving) := keeps_removeClaims s _ _
    dsimp only
    split
    · unfold State.helloLeft
      dsimp only
      split
      · exact .inr (start_lawful _ _)
      · exact .inl (removed.trans (same_enterDormant _).keeps)
    · exact .inl removed

theorem keeps_takeWithdraw (s : State) (a : Addr) (b : WithdrawBody) : Keeps s (s.takeWithdraw a b) := by
  unfold State.takeWithdraw
  split
  · exact keeps_removeClaims s _ _
  · exact .refl s

theorem same_addInbound (s : State) (a : Addr) (b : DoneBody) : SameRecords s (s.addInbound a b) := by
  unfold State.addInbound
  split
  · exact .refl s
  · split
    · exact .refl s
    · split <;> exact ⟨rfl, rfl, rfl, rfl, rfl, rfl⟩

theorem keeps_takeDone (s : State) (a : Addr) (b : DoneBody) : Keeps s (s.takeDone a b) := by
  have removed : Keeps s (s.removeClaim a b.id .done) := keeps_removeClaims s _ _
  unfold State.takeDone
  dsimp only
  split
  · exact removed.trans (same_addInbound _ _ _).keeps
  · exact removed

theorem same_takeAsk (s : State) (own : Bool) (b : AskBody) : SameRecords s (s.takeAsk own b) := by
  have hello : ∀ (p : Bool) (t : AskTarget), SameRecords s (s.answerHello p t) := by
    intro p t
    have dropped : ∀ u : State, SameRecords u (match p, t with
        | true, .station a => u.dropAsk a
        | _, _ => u) := by
      intro u
      split
      · exact same_dropAsk u _
      · exact .refl u
    have answered : ∀ (mine : Bool) (u : State), SameRecords u
        (if mine && u.lineActive && u.sync.status.joined && u.mode.mode != .leaving
            && !u.trunk.queue.any (fun f => f.waiting && f.body.kind == .hello) then
          u.request (.hello (u.helloBody false)) .roster
        else u) := by
      intro mine u
      split
      · exact (Works.request u _ _ _).same
      · exact .refl u
    exact (dropped s).trans (answered _ _)
  have opened : ∀ (c : Prop) [Decidable c], SameRecords s (if c then s.openRound else s) := by
    intro c _
    split
    · exact (same_mapSync s _).trans (same_clearRestated _)
    · exact .refl s
  unfold State.takeAsk
  split
  · exact hello _ _
  · exact (opened _).trans (same_answerRow _ _)
  · exact .refl s

/-! ## The line and the timers -/

theorem same_mapTrunk (s : State) (f : TrunkState → TrunkState) : SameRecords s (s.mapTrunk f) :=
  ⟨rfl, rfl, rfl, rfl, rfl, rfl⟩

theorem same_helloFailed (s : State) : SameRecords s s.helloFailed := by
  unfold State.helloFailed
  split
  · have moved : ∀ t : State, SameRecords t (t.mapMode
        (fun x => { x with quietWindows := 0, leaveRequest := false, wakeMark := false })) :=
      fun t => ⟨rfl, rfl, rfl, rfl, rfl, rfl⟩
    exact (concluded_setMode s _).same.trans (moved _)
  · exact (concluded_backToQuiet s).same

theorem same_applyPulled (s : State) : SameRecords s s.applyPulled := by
  have pulled : ∀ (q : List QFrame) (l : List (Block × QBody × Fate)), SameRecords s ((s.setQueue q).deliverAll l) :=
    fun q l => ((untouched_setQueue s q).trans (untouched_deliverAll _ l)).same
  unfold State.applyPulled
  dsimp only
  split
  · exact (pulled _ _).trans (same_helloFailed _)
  · exact pulled _ _

theorem keeps_failFrame (s : State) (received : Option Addr) : Keeps s (s.failFrame received) := by
  have failed : SameRecords s (s.countOwnFailure.mapTrunk (fun t =>
      { t.frameEnd received with
        failCount := t.failCount + 1, failHold := true, queue := t.queue.map QFrame.failed })) :=
    ⟨rfl, rfl, rfl, rfl, rfl, rfl⟩
  unfold State.failFrame
  split
  · dsimp only
    split
    · exact (failed.trans (same_applyPulled _)).keeps.trans (keeps_enterListenOnly _)
    · exact (failed.trans (same_applyPulled _)).keeps
  · exact .refl s

theorem failFrame_asleep {s : State} (received : Option Addr) (h : s.awake = false) : s.failFrame received = s := by
  simp [State.failFrame, h]

theorem same_enterSlot (s : State) (x : Slot) : SameRecords s (s.enterSlot x) ∧ (s.enterSlot x).mode = s.mode := by
  unfold State.enterSlot
  split
  · dsimp only
    split
    · exact ⟨(same_mapTrunk s _).trans (same_mapTrunk _ _), rfl⟩
    · exact ⟨same_mapTrunk s _, rfl⟩
  · exact ⟨.refl s, rfl⟩

theorem same_expireWindow (s : State) : SameRecords s s.expireWindow := by
  have confined : ∀ t : State, SameRecords t t.confinedExpiry := by
    intro t
    unfold State.confinedExpiry
    split
    · dsimp only
      split
      · exact (same_mapTrunk t _).trans (same_endConfinement _)
      · exact same_mapTrunk t _
    · exact .refl t
  have called : ∀ t : State, SameRecords t (if t.callsMark then t.request .mark .window else t) := by
    intro t
    split
    · exact (Works.request t _ _ _).same
    · exact .refl t
  have again : SameRecords s { s with window := { s.window with
      timer := some 0, expiries := min (s.window.expiries + 1) 2 } } := ⟨rfl, rfl, rfl, rfl, rfl, rfl⟩
  exact again.trans ((called _).trans (confined _))

theorem same_declareAlone (s : State) : SameRecords s s.declareAlone := by
  have timed : ∀ t : State, SameRecords t { t with window := { t.window with timer := some 0 } } :=
    fun t => ⟨rfl, rfl, rfl, rfl, rfl, rfl⟩
  exact (same_mapSync s _).trans ((same_becomeSynced _).trans ((same_requestHello _).trans (timed _)))

/-! ## Measurement, the supply and the field lines -/

theorem same_mapFilter (s : State) (f : FilterState → FilterState) : SameRecords s (s.mapFilter f) :=
  ⟨rfl, rfl, rfl, rfl, rfl, rfl⟩

theorem same_mapMode {s : State} {f : ModeState → ModeState} (h : (f s.mode).config = s.mode.config) :
    SameRecords s (s.mapMode f) := ⟨rfl, rfl, rfl, h, rfl, rfl⟩

theorem same_setBand (s : State) (b : Band) : SameRecords s (s.setBand b) := by
  have banded := same_mapFilter s (fun u => { u with band := b })
  have bypassed : ∀ t : State, SameRecords t
      (if b = .bypass then
        (if t.filter.bypassOpen then t else t.raise .bypassOpen).mapFilter
          (fun u => { u with bypassOpen := true, cleaned := false })
      else t.mapFilter FilterState.closeBypass) := by
    intro t
    split
    · split
      · exact same_mapFilter t _
      · exact (Works.raise t _).same.trans (same_mapFilter _ _)
    · exact same_mapFilter t _
  have reranked : ∀ t : State, SameRecords t (match t.bandRank with
      | some r => t.rerank r
      | none => t) := by
    intro t
    split
    · exact (untouched_rerank t _).same
    · exact .refl t
  unfold State.setBand
  dsimp only
  split
  · exact .refl s
  · split
    · exact (banded.trans (bypassed _)).trans (reranked _)
    · exact banded.trans (bypassed _)

theorem same_takeCapture (s : State) (avg : Nat) : SameRecords s (s.takeCapture avg) := by
  unfold State.takeCapture
  split
  · split
    · exact (untouched_setLots s _).same
    · exact (untouched_mapLots s _).same
  · split
    · have sealed : Untouched s ((s.mapLots (s.runningLot avg)).sealAged) :=
        (untouched_mapLots s _).trans (untouched_sealAged _)
      dsimp only
      split
      · exact (sealed.trans (untouched_requestCapture _ _)).same
      · exact sealed.same
    · exact .refl s

theorem same_captureReady (s : State) : SameRecords s s.captureReady := by
  have emptied : SameRecords s ({ s with measure := { s.measure with capture := .empty } }.report .captureReady) :=
    ⟨rfl, rfl, rfl, rfl, rfl, rfl⟩
  unfold State.captureReady
  split
  · exact emptied.trans (same_takeCapture _ _)
  · exact .refl s

theorem same_onEntered (s : State) (ch : Fin 4) (was now : ChannelStatus) (avg : Nat) :
    SameRecords s (s.onEntered ch was now avg) := by
  unfold State.onEntered
  split
  · split
    · exact (untouched_enterBeltFault s).same
    · exact .refl s
  · split
    · exact same_setBand s _
    · split
      · exact same_setBand s _
      · exact .refl s
  · split
    · exact (untouched_pumpFault s).same
    · exact .refl s
  · split
    · exact (untouched_jam s).same
    · exact .refl s
  · split
    · exact ⟨rfl, rfl, rfl, rfl, rfl, rfl⟩
    · exact .refl s
  · exact .refl s

theorem same_onAverage (s : State) (ch : Fin 4) (avg : Nat) : SameRecords s (s.onAverage ch avg) := by
  unfold State.onAverage
  split
  · split
    · exact .refl s
    · exact same_setBand s _
  · exact .refl s

theorem same_completeAverage (s : State) (ch : Fin 4) (avg : Nat) : SameRecords s (s.completeAverage ch avg) := by
  have entered : ∀ (t : State) (was now : ChannelStatus), SameRecords t
      (if now = was then t else (t.report (.entered ch now)).onEntered ch was now avg) := by
    intro t was now
    split
    · exact .refl t
    · exact (Works.report t _ rfl).same.trans (same_onEntered _ _ _ _ _)
  have measured : ∀ m : MeasureState, SameRecords s { s with measure := m } := fun m => ⟨rfl, rfl, rfl, rfl, rfl, rfl⟩
  exact (measured _).trans ((entered _ _ _).trans ((Works.report _ (.average ch avg _) rfl).same.trans
    ((same_onAverage _ _ _).trans (same_captureReady _))))

theorem same_judgeSupply (s : State) (avg : Nat) : SameRecords s (s.judgeSupply avg) := by
  unfold State.judgeSupply
  split
  · split
    · exact (same_mapMode rfl).trans ((works_requestOp _ safeStopOp).trans (.raise _ .supplyLow)).same |>.trans
        (untouched_roleSupplyLow _).same
    · exact .refl s
  · split
    · exact same_mapMode rfl
    · split
      · exact (same_mapMode rfl).trans ((Works.complete _ .safeStop).trans (.report _ .supplyNormal rfl)).same
      · exact same_mapMode rfl

theorem same_countEdge (s : State) : SameRecords s s.countEdge := by
  have measured : ∀ m : MeasureState, SameRecords s { s with measure := m } := fun m => ⟨rfl, rfl, rfl, rfl, rfl, rfl⟩
  unfold State.countEdge
  split
  · have told : ∀ m : MeasureState, SameRecords s ({ s with measure := m }.report .travel) :=
      fun m => ⟨rfl, rfl, rfl, rfl, rfl, rfl⟩
    unfold State.travelOne
    dsimp only
    split
    · exact (told _).trans (untouched_countTravel _).same
    · exact told _
  · exact measured _

theorem same_onStall (s : State) : SameRecords s s.onStall := by
  unfold State.onStall
  split
  · split
    · exact (untouched_enterBeltFault s).same
    · exact .refl s
  · exact .refl s
  · exact (untouched_jam s).same

theorem same_swapBin (s : State) (n : Nat) : SameRecords s (s.swapBin n) := by
  unfold State.swapBin
  split
  · exact (same_mapCrusher s _).trans (works_requestGate _).same
  · exact .refl s

theorem same_provePump (s : State) : SameRecords s s.provePump := by
  have spent : ∀ q : SeqState, SameRecords s { s with seq := q } := fun q => ⟨rfl, rfl, rfl, rfl, rfl, rfl⟩
  unfold State.provePump
  dsimp only
  split
  · exact (spent _).trans (same_mapFilter _ _)
  · exact (spent _).trans (untouched_pumpFault _).same

theorem stepKeeps_reachRunTime (s : State) (k : OpKind) : StepKeeps s (s.reachRunTime k) := by
  have spent : ∀ q : SeqState, SameRecords s { s with seq := q } := fun q => ⟨rfl, rfl, rfl, rfl, rfl, rfl⟩
  exact stepKeeps_ite (fun h => (Bool.and_eq_true_iff.1 h).1) ((spent _).trans (untouched_finishOp _ k).same)

/-! ## Modes and starts -/

theorem same_backByShift (s : State) : SameRecords s s.backByShift :=
  (concluded_setMode s _).same.trans (same_mapMode rfl)

theorem stepKeeps_wakeUp (s : State) : StepKeeps s s.wakeUp := by
  unfold State.wakeUp
  split
  · exact stepKeeps_start s _
  · rename_i hm
    have out : s.mode.mode ≠ .startHold := by simp [hm]
    dsimp only
    split
    · exact ((Works.pull s _).same.trans (same_mapMode rfl)).keeps.step (.inl out)
    · exact ((Works.pull s _).same.trans (same_backByShift _)).keeps.step (.inl out)
  · exact stepKeeps_refl s

theorem stepKeeps_onShift (s : State) (active : Bool) : StepKeeps s (s.onShift active) := by
  unfold State.onShift
  split
  · rename_i hm
    have out : s.mode.mode ≠ .startHold := by simp [hm]
    have quiet : SameRecords s ((s.setMode .quiet).mapMode (fun x => { x with quietWindows := 0 })) :=
      (concluded_setMode s _).same.trans (same_mapMode rfl)
    dsimp only
    split
    · exact (quiet.trans (untouched_sealOpen _ _).same).keeps.step (.inl out)
    · exact quiet.keeps.step (.inl out)
  · rename_i hm
    exact ((concluded_setMode s _).same.trans (same_mapMode rfl)).keeps.step (.inl (by simp [hm]))
  · exact stepKeeps_wakeUp s
  · exact stepKeeps_wakeUp s
  · exact stepKeeps_refl s

theorem same_checkClock (s : State) (n : Nat) : SameRecords s (s.checkClock n) := by
  have left : ∀ t : State, SameRecords t t.leaveStartHold := fun t =>
    (same_mapMode (f := fun x => { x with clock := .qualified }) rfl).trans
      ((same_mapSync _ _).trans (concluded_setMode _ _).same)
  unfold State.checkClock
  split
  · dsimp only
    split
    · exact (same_mapMode rfl).trans (left _)
    · exact same_mapMode rfl
  · dsimp only
    split
    · exact same_mapMode rfl
    · exact (same_mapMode rfl).trans (Works.raise _ _).same

/-- The image makes the own entry, and no claim stands yet (R57, R179). -/
theorem stepKeeps_loadImage {s : State} (image : Option (List Byte)) (hm : s.mode.mode = .startHold)
    (hc : s.mode.config = .loading) : StepKeeps s (s.loadImage image) := by
  have claims : s.ranksLawful → s.table.claims = [] := fun h => (h.2.1 (by simp [hc])).1
  unfold State.loadImage
  split
  · rename_i c _
    refine ⟨fun ⟨ht, _, hs⟩ => ⟨ht, List.pairwise_singleton _ _, hs⟩, fun h => ⟨?_, ?_, fun _ => ⟨ownEntry c, ?_, rfl⟩⟩⟩
    · intro x hx
      have e := claims h
      rw [show (s.configure c).table.claims = s.table.claims from rfl, e] at hx
      cases hx
    · intro hn
      exact absurd rfl hn
    · change entryOf [ownEntry c] c.address = _
      exact (entryOf_cons _ _ _).trans (if_pos rfl)
  · refine ⟨id, fun h => ⟨h.1, fun _ => ⟨claims h, hm⟩, fun hg => ?_⟩⟩
    have e : ConfigCond.fault = .good := hg
    cases e

/-! ## Control commands -/

theorem same_when (s : State) (c : Bool) {f : State → State} (h : SameRecords s (f s)) : SameRecords s (s.when c f).1 := by
  unfold State.when
  split
  · exact h
  · exact .refl s

theorem same_doHold (s : State) : SameRecords s s.doHold.1 := by
  have held : ∀ d : DischargeState, SameRecords s { s with discharge := d } := fun d => ⟨rfl, rfl, rfl, rfl, rfl, rfl⟩
  unfold State.doHold
  split
  · exact (held _).trans (works_withdrawLots _ _).same
  · change SameRecords s s.holdFlush
    unfold State.holdFlush
    dsimp only
    split
    · exact same_mapFilter s _
    · exact (same_mapFilter s _).trans (works_withdrawFlush _).same
  · exact .refl s

theorem same_doReleaseHold (s : State) : SameRecords s s.doReleaseHold.1 := by
  unfold State.doReleaseHold
  split
  · exact ⟨rfl, rfl, rfl, rfl, rfl, rfl⟩
  · exact same_mapFilter s (fun u => { u with held := false })
  · exact .refl s

theorem same_doLotClose (s : State) : SameRecords s s.doLotClose.1 := by
  unfold State.doLotClose
  split
  · exact same_when s _ (untouched_sealOpen s _).same
  · exact .refl s

theorem same_doFlushNow (s : State) : SameRecords s s.doFlushNow.1 := by
  unfold State.doFlushNow
  split
  · exact same_when s _ ((same_mapFilter s _).trans (untouched_rerank _ _).same)
  · exact .refl s

theorem same_doClearFault (s : State) : SameRecords s s.doClearFault.1 := by
  unfold State.doClearFault
  split
  · exact same_when s _ ⟨rfl, rfl, rfl, rfl, rfl, rfl⟩
  · exact same_when s _ (same_mapFilter s _)
  · exact same_when s _ (untouched_clearJam s).same

theorem same_hallRequest (s : State) (b : QBody) : SameRecords s (s.hallRequest b).1 := by
  unfold State.hallRequest
  split
  · exact (Works.request s b .port false).same
  · exact .refl s

theorem stepKeeps_portWake (s : State) : StepKeeps s s.portWake := by
  have transacted : ∀ (u : State) (r : PortResult), StepKeeps u (u.transact 0 [] r) :=
    fun u r => SameRecords.step ⟨rfl, rfl, rfl, rfl, rfl, rfl⟩ rfl
  have started : StepKeeps s (s.startByPort .wake) := (stepKeeps_start s _).trans
    (SameRecords.step ⟨rfl, rfl, rfl, rfl, rfl, rfl⟩ rfl)
  unfold State.portWake
  split
  · exact started
  · exact (stepKeeps_wakeUp s).trans (transacted _ _)
  · exact transacted s _

end Sys2Proof.Machine
end


section
/-! O55 and O56: every step keeps the laws of the records. -/

namespace Sys2Proof.Machine

theorem stepKeeps_tick (s : State) : StepKeeps s s.tick := by
  unfold State.tick
  dsimp only
  split
  · exact SameRecords.step ⟨rfl, rfl, rfl, rfl, rfl, rfl⟩ rfl
  · exact SameRecords.step ⟨rfl, rfl, rfl, rfl, rfl, rfl⟩ rfl

/-- A conjunction of conditions that begins with the station awake. -/
theorem awake_of_and {s : State} {c : Bool} (h : (s.awake && c) = true) : s.awake = true := (Bool.and_eq_true_iff.1 h).1

theorem awake_of_and₂ {s : State} {c d : Bool} (h : (s.awake && c && d) = true) : s.awake = true :=
  awake_of_and (Bool.and_eq_true_iff.1 h).1

theorem stepKeeps_failFrame (s : State) (received : Option Addr) : StepKeeps s (s.failFrame received) := by
  cases h : s.awake
  · rw [failFrame_asleep received h]
    exact stepKeeps_refl s
  · exact (keeps_failFrame s received).step_awake h

/-- A change of records that only the trunk, the port or the sequencer hold. -/
theorem stepKeeps_of_frame {s t : State} (hcfg : t.cfg = s.cfg) (hroster : t.roster = s.roster)
    (htable : t.table = s.table) (hhall : t.hall = s.hall) (hmode : t.mode = s.mode) : StepKeeps s t :=
  SameRecords.step ⟨hcfg, hroster, by rw [htable], by rw [hmode], by rw [hhall], by rw [hhall]⟩ (by rw [hmode])

theorem stepKeeps_readAt (s : State) (limit size : Nat) (arg : Byte) (f : State → Nat → List Byte) :
    StepKeeps s (s.readAt limit size arg f) := by
  refine stepKeeps_quiet ?_
  split <;> exact stepKeeps_of_frame rfl rfl rfl rfl rfl

theorem stepKeeps_read (s : State) (f : State → List Byte) : StepKeeps s (s.read f) :=
  stepKeeps_quiet (stepKeeps_of_frame rfl rfl rfl rfl rfl)

/-- The frames: what the blocks make of each keeps the laws. -/
theorem stepKeeps_frames (s : State) :
    (∀ rx, StepKeeps s (s.event (takeFrame .mark false Body.asMark State.takeMark rx))) ∧
    (∀ rx, StepKeeps s (s.event (takeFrame .hello true Body.asHello State.takeHello rx))) ∧
    (∀ rx, StepKeeps s (s.event (takeFrame .present false Body.asPresent (fun _ _ _ s => s) rx))) ∧
    (∀ rx, StepKeeps s (s.event (takeFrame .claim false Body.asClaim State.takeClaimFrame rx))) ∧
    (∀ rx, StepKeeps s (s.event (takeFrame .withdraw false Body.asWithdraw (fun _ => State.takeWithdraw) rx))) ∧
    (∀ rx, StepKeeps s (s.event (takeFrame .done false Body.asDone (fun _ => State.takeDone) rx))) ∧
    (∀ rx, StepKeeps s (s.event (takeFrame .gate false Body.asGate (fun _ a b s => s.takeGate a b) rx))) ∧
    (∀ rx, StepKeeps s (s.event (takeFrame .stop false Body.asStop
      (fun own a b s => if own then (s.takeStop a b).afterOwnStop else s.takeStop a b) rx))) ∧
    (∀ rx, StepKeeps s (s.event (takeFrame .release false Body.asRelease
      (fun own a b s => if own then (s.takeRelease a b).afterOwnStop else s.takeRelease a b) rx))) ∧
    (∀ rx, StepKeeps s (s.event (takeFrame .ask false Body.asAsk (fun own _ => State.takeAsk own) rx))) ∧
    (∀ rx, StepKeeps s (s.event (takeFrame .row true Body.asRow State.takeRowFrame rx))) := by
  refine ⟨fun rx => ?_, fun rx => ?_, fun rx => ?_, fun rx => ?_, fun rx => ?_, fun rx => ?_, fun rx => ?_, fun rx => ?_,
    fun rx => ?_, fun rx => ?_, fun rx => ?_⟩ <;> refine stepKeeps_event (stepKeeps_takeFrame rx (fun own a b u ho => ?_))
  · exact .inl (keeps_takeMark u own a b)
  · exact takeHello_lawful u own a b
  · exact .inl (.refl u)
  · exact .inl (keeps_takeClaim u own a b)
  · exact .inl (keeps_takeWithdraw u a b)
  · exact .inl (keeps_takeDone u a b)
  · exact .inl (same_takeGate u a b).keeps
  · refine .inl ?_
    split
    · exact (keeps_takeStop u a b).trans (same_afterOwnStop _).keeps
    · exact keeps_takeStop u a b
  · refine .inl ?_
    split
    · exact (keeps_takeRelease u a b).trans (same_afterOwnStop _).keeps
    · exact keeps_takeRelease u a b
  · exact .inl (same_takeAsk u own b).keeps
  · exact .inl (keeps_takeRowFrame u own a b ho)

/-- The station's own events that only an awake station takes, or that touch no record. -/
theorem stepKeeps_exec (i : Instr) {s t : State} (h : exec i s = .next t) : StepKeeps s t := by
  obtain ⟨mark, hello, present, claim, withdraw, done, gate, stop, release, ask, row⟩ := stepKeeps_frames s
  cases i <;> obtain rfl := Host.Outcome.next.inj h
  case mark rx => exact mark rx
  case hello rx => exact hello rx
  case present rx => exact present rx
  case claim rx => exact claim rx
  case withdraw rx => exact withdraw rx
  case done rx => exact done rx
  case gate rx => exact gate rx
  case stop rx => exact stop rx
  case release rx => exact release rx
  case ask rx => exact ask rx
  case row rx => exact row rx
  case corruptFrame => exact stepKeeps_quiet (stepKeeps_ite awake_of_listens ⟨rfl, rfl, rfl, rfl, rfl, rfl⟩)
  case listenBackFailure r => exact stepKeeps_event (stepKeeps_failFrame _ r)
  case contentionSlot x =>
    have h := same_enterSlot s.cleared x
    exact stepKeeps_quiet (h.1.step (by rw [h.2]))
  case quietCycle => exact stepKeeps_quiet (stepKeeps_ite awake_of_and₂ (same_mapTrunk _ _))
  case cyclePositionTaken => exact stepKeeps_quiet (stepKeeps_ite awake_of_and₂ (same_mapTrunk _ _))
  case windowTimerExpiry => exact stepKeeps_event (stepKeeps_ite awake_of_and (same_expireWindow _))
  case listeningTimerExpiry => exact stepKeeps_event (stepKeeps_ite awake_of_and₂ (same_declareAlone _))
  case channelAverage ch conv => exact stepKeeps_event (stepKeeps_ite id (same_completeAverage _ _ _))
  case vfsAverage conv => exact stepKeeps_event (stepKeeps_ite id (same_judgeSupply _ _))
  case encoderEdge => exact stepKeeps_event (stepKeeps_ite awake_of_and (same_countEdge _))
  case stall =>
    have told : ∀ u : State, SameRecords u ({ u with measure := { u.measure with stallTimer := some 0 } }.report .stall) :=
      fun u => ⟨rfl, rfl, rfl, rfl, rfl, rfl⟩
    exact stepKeeps_event (stepKeeps_ite awake_of_and ((told _).trans (same_onStall _)))
  case classCodeChange code =>
    have pins : StepKeeps s { s with pins := { s.pins with classCode := code } } :=
      stepKeeps_of_frame rfl rfl rfl rfl rfl
    refine pins.trans (stepKeeps_event (stepKeeps_ite (fun hc => ?_) (untouched_sealOpen _ _).same))
    exact awake_of_and (Bool.and_eq_true_iff.1 hc).2
  case lotEnd => exact stepKeeps_event (stepKeeps_ite awake_of_and (untouched_sealOpen _ _).same)
  case binSwap bin => exact stepKeeps_event (stepKeeps_ite awake_of_and (same_swapBin _ _))
  case jamClear => exact stepKeeps_event (stepKeeps_ite awake_of_and (untouched_clearJam _).same)
  case shiftChange active =>
    have pins : StepKeeps s { s with pins := { s.pins with shift := active } } :=
      stepKeeps_of_frame rfl rfl rfl rfl rfl
    exact pins.trans (stepKeeps_event (stepKeeps_onShift _ _))
  case indexComplete => exact stepKeeps_event (stepKeeps_reachRunTime _ _)
  case flushComplete => exact stepKeeps_event (stepKeeps_reachRunTime _ _)
  case reverseComplete => exact stepKeeps_event (stepKeeps_reachRunTime _ _)
  case pumpProving =>
    refine stepKeeps_event (stepKeeps_ite (fun hm => ?_) (same_provePump _))
    unfold State.mayProve at hm
    exact awake_of_and₂ (Bool.and_eq_true_iff.1 (Bool.and_eq_true_iff.1 hm).1).1
  case recurrenceIntervalExpiry => exact stepKeeps_quiet (stepKeeps_ite awake_of_and (same_mapCrusher _ _))
  case driveCycleStart => exact stepKeeps_quiet (stepKeeps_ite id ⟨rfl, rfl, rfl, rfl, rfl, rfl⟩)
  case clockCheck n =>
    refine stepKeeps_event ?_
    split
    · rename_i hc
      simp only [Bool.and_eq_true, beq_iff_eq] at hc
      obtain ⟨⟨_, hg⟩, _⟩ := hc
      exact (same_checkClock _ n).keeps.step (.inr hg)
    · exact stepKeeps_refl _
  case configLoad image =>
    refine stepKeeps_event ?_
    split
    · rename_i hc
      simp only [Bool.and_eq_true, beq_iff_eq] at hc
      exact stepKeeps_loadImage image hc.1 hc.2
    · exact stepKeeps_refl _
  case logicSupplyLow =>
    exact (stepKeeps_cleared s).trans ((stepKeeps_start _ _).trans (stepKeeps_of_frame rfl rfl rfl rfl rfl))
  case logicSupplySettled b => exact (stepKeeps_cleared s).trans (stepKeeps_start _ _)
  case spiIncomplete => exact stepKeeps_quiet (stepKeeps_of_frame rfl rfl rfl rfl rfl)
  case unknownCommand code => exact stepKeeps_quiet (stepKeeps_of_frame rfl rfl rfl rfl rfl)
  case readStatus => exact stepKeeps_read s _
  case readRoster arg => exact stepKeeps_readAt s _ _ _ _
  case readClaim arg => exact stepKeeps_readAt s _ _ _ _
  case readPlan arg => exact stepKeeps_readAt s _ _ _ _
  case readHallCondition => exact stepKeeps_read s _
  case readLot arg => exact stepKeeps_readAt s _ _ _ _
  case readChannel arg => exact stepKeeps_readAt s _ _ _ _
  case readCounters => exact stepKeeps_read s _
  case readStartCause => exact stepKeeps_read s _
  case peekAttention => exact stepKeeps_read s _
  case takeAttention => exact stepKeeps_quiet (stepKeeps_of_frame rfl rfl rfl rfl rfl)
  case hold => exact stepKeeps_command _ same_doHold
  case releaseHold => exact stepKeeps_command _ same_doReleaseHold
  case lotClose => exact stepKeeps_command _ same_doLotClose
  case flushNow => exact stepKeeps_command _ same_doFlushNow
  case clearFault => exact stepKeeps_command _ same_doClearFault
  case hallStop => exact stepKeeps_command _ (fun u => same_hallRequest u _)
  case hallRelease => exact stepKeeps_command _ (fun u => same_hallRequest u _)
  case forceRelease arg =>
    refine stepKeeps_command _ (fun u => ?_)
    split
    · exact .refl u
    · exact same_hallRequest u _
  case leave => exact stepKeeps_command _ (fun u => same_when u _ (same_mapMode rfl))
  case wake => exact stepKeeps_event (stepKeeps_portWake _)
  case reset =>
    exact stepKeeps_event ((stepKeeps_start _ _).trans (stepKeeps_of_frame rfl rfl rfl rfl rfl))
  case frameStart => exact stepKeeps_quiet (stepKeeps_ite id (same_mapTrunk _ _))
  case attentionCopy => exact stepKeeps_quiet (stepKeeps_of_frame rfl rfl rfl rfl rfl)

/-- A step is the front command's meaning, with the queue of waiting commands one shorter, or a tick. -/
theorem stepKeeps_step {s t : State} (h : step s = .next t) : StepKeeps s t := by
  unfold step at h
  split at h
  · rename_i c rest _
    have queued : StepKeeps s { s with pending := rest } := stepKeeps_of_frame rfl rfl rfl rfl rfl
    exact queued.trans (stepKeeps_exec c h)
  · obtain rfl := Host.Outcome.next.inj h
    exact stepKeeps_tick s

/-- Settles O55: each operation of the blocks keeps the table, the roster and the stop set lawful, and a start makes
them anew. -/
theorem recordsStayLawful : Obligations.RecordsStayLawful := fun _ _ hs h => (stepKeeps_step h).records hs

/-- Settles O56: out of START_HOLD the configuration is good, and each operation keeps every claim backed by an entry. -/
theorem ranksStayLawful : Obligations.RanksStayLawful := fun _ _ hs h => (stepKeeps_step h).ranks hs

end Sys2Proof.Machine
end


section
/-! O15 to O18: CLAIM, WITHDRAW, and DONE at a station that is no crusher. -/

namespace Sys2Proof.Machine

/-! ## A frame that is taken -/

/-- What a command about a frame answers when the frame arrives: what the blocks make of it, concluded. -/
theorem event_of_arrival {α : Type} {kind : FrameKind} {informs : Bool} {bodyOf : Body → Option α}
    (take : Bool → Addr → α → State → State) {rx : Rx α} {s h : State} {own : Bool} {a : Addr} {b : α}
    (ha : s.cleared.arrival kind informs bodyOf rx = some (own, a, b, h)) :
    s.event (takeFrame kind informs bodyOf take rx) = (take own a b h).concluded s.seq := by
  obtain ⟨awake, taken⟩ := takeFrame_of_arrival take ha
  have running : s.inReset = false := notReset_of_awake (s := s.cleared) awake
  rw [event_of_running _ running, taken]

/-! ## The judgement of a CLAIM (R4 to R7) -/

/-- A CLAIM passes the checks of R4, as one of kind `k` from the owner of entry `e`. -/
structure ClaimPasses (s : State) (a : Addr) (b : ClaimBody) (e : RosterEntry) (k : ClaimKind) : Prop where
  entry : entryOf s.roster a = some e
  present : e.isExcluded = false
  kind : claimKindOf b.kind = some k
  rank : ¬ 7 < b.rank.toNat
  suits : classSuits k b.cls.toNat = true
  volume : ¬ (b.volume.toNat < (s.boundsOf b.cls.toNat).min ∨ (s.boundsOf b.cls.toNat).max < b.volume.toNat)

theorem classSuits_of {k : ClaimKind} {n : Nat} (lot : k = .lot → 1 ≤ n ∧ n ≤ 6) (flush : k = .flush → n = 7) :
    classSuits k n = true := by
  cases k with
  | lot => simpa [classSuits] using lot rfl
  | flush => simpa [classSuits] using flush rfl

/-- The WAITING record that a CLAIM of kind `k` enters (R7). -/
def claimEntered (s : State) (a : Addr) (b : ClaimBody) (e : RosterEntry) (k : ClaimKind) : Claim :=
  { owner := a, id := b.id, kind := k, cls := b.cls.toNat, volume := b.volume.toNat,
    declared := b.rank.toNat, effective := max b.rank.toNat e.ceiling, posted := s.window.number, age := 0,
    status := .waiting, remainder := b.remainder }

/-- The record `c` with the fields that a CLAIM replaces (R5). -/
def claimRewritten (b : ClaimBody) (e : RosterEntry) (c : Claim) : Claim :=
  { c with cls := b.cls.toNat, volume := b.volume.toNat, declared := b.rank.toNat,
           effective := max b.rank.toNat e.ceiling, remainder := b.remainder }

section
variable {s : State} {a : Addr} {b : ClaimBody} {e : RosterEntry} {k : ClaimKind} {c : Claim}

theorem ClaimPasses.accepted (p : ClaimPasses s a b e k) (new : claimAt s.table.claims a b.id = none)
    (owner : countOf s.table.claims a k < k.capacity) (room : s.table.claims.length < 64) :
    s.judgeClaim a b = .accept (claimEntered s a b e k) := by
  simp [State.judgeClaim, p.entry, p.present, p.kind, p.rank, p.suits, p.volume, new, Nat.not_le.mpr owner,
    Nat.not_le.mpr room, claimEntered]

theorem ClaimPasses.replaced (p : ClaimPasses s a b e k) (held : claimAt s.table.claims a b.id = some c)
    (waiting : c.status = .waiting) (kind : c.kind = k) :
    s.judgeClaim a b = .replace (claimRewritten b e c) := by
  simp [State.judgeClaim, p.entry, p.present, p.kind, p.rank, p.suits, p.volume, held, Claim.isCommitted, waiting,
    kind, claimRewritten]

theorem ClaimPasses.committed (p : ClaimPasses s a b e k) (held : claimAt s.table.claims a b.id = some c)
    (status : c.status ≠ .waiting) : s.judgeClaim a b = .refuse .committed := by
  have h : c.isCommitted = true := by
    cases hs : c.status with
    | waiting => exact absurd hs status
    | committed w => simp [Claim.isCommitted, hs]
  simp [State.judgeClaim, p.entry, p.present, p.kind, p.rank, p.suits, p.volume, held, h]

theorem ClaimPasses.mismatched (p : ClaimPasses s a b e k) (held : claimAt s.table.claims a b.id = some c)
    (waiting : c.status = .waiting) (kind : c.kind ≠ k) : s.judgeClaim a b = .refuse .kindMismatch := by
  simp [State.judgeClaim, p.entry, p.present, p.kind, p.rank, p.suits, p.volume, held, Claim.isCommitted, waiting,
    kind]

theorem ClaimPasses.ownerFull (p : ClaimPasses s a b e k) (new : claimAt s.table.claims a b.id = none)
    (full : k.capacity ≤ countOf s.table.claims a k) : s.judgeClaim a b = .refuse .ownerFull := by
  simp [State.judgeClaim, p.entry, p.present, p.kind, p.rank, p.suits, p.volume, new, full]

theorem ClaimPasses.tableFull (p : ClaimPasses s a b e k) (new : claimAt s.table.claims a b.id = none)
    (owner : countOf s.table.claims a k < k.capacity) (full : 64 ≤ s.table.claims.length) :
    s.judgeClaim a b = .refuse .tableFull := by
  simp [State.judgeClaim, p.entry, p.present, p.kind, p.rank, p.suits, p.volume, new, Nat.not_le.mpr owner, full]

end

/-! ## What the table makes of the judgement -/

/-- The station's own CLAIM is refused: counted, flagged, and its role unit told (R8). -/
def State.ownRefused (s : State) (id : Byte) (cause : RefusalCause) : State :=
  ({ s with
    counters := { s.counters with ownRefused := min (s.counters.ownRefused + 1) 65535 }
    port := { s.port with flags := s.port.flags ||| 16#16 } } : State).roleRefused id cause

theorem takeClaim_accept {s : State} {own : Bool} {a : Addr} {b : ClaimBody} {c : Claim}
    (h : s.judgeClaim a b = .accept c) :
    s.takeClaimFrame own a b =
      let t := s.setClaims (insertClaim c s.table.claims)
      if a = s.own then t.roleAdmitted b.id else t := by
  simp only [State.takeClaimFrame, State.takeClaim, h]
  rfl

theorem takeClaim_replace {s : State} {own : Bool} {a : Addr} {b : ClaimBody} {c : Claim}
    (h : s.judgeClaim a b = .replace c) :
    s.takeClaimFrame own a b =
      let t := s.setClaims (replaceClaim c s.table.claims)
      if a = s.own then t.report (.replaced b.id) else t := by
  simp only [State.takeClaimFrame, State.takeClaim, h]
  rfl

theorem takeClaim_refuse {s : State} {own : Bool} {a : Addr} {b : ClaimBody} {cause : RefusalCause}
    (h : s.judgeClaim a b = .refuse cause) :
    s.takeClaimFrame own a b = if own then s.ownRefused b.id cause else s := by
  simp only [State.takeClaimFrame, State.takeClaim, h]
  rfl

theorem roleAdmitted_eq (s : State) (id : Byte) : s.roleAdmitted id = { s with
    reports := s.reports ++ [.admitted id]
    discharge := if s.cfg.role = .discharge then
        { s.discharge with lots := s.discharge.lots.map (fun l =>
          if l.claimId = some id ∧ l.status = .sealed then { l with status := .claimed } else l) }
      else s.discharge
    filter := if s.cfg.role = .filter ∧ s.filter.claimId = some id ∧ s.filter.mode = .online then
        { s.filter with mode := .claimed }
      else s.filter } := by
  cases hr : s.cfg.role with
  | discharge =>
    simp [State.roleAdmitted, State.report, State.mapLots, State.setLots, hr]
  | filter =>
    by_cases hf : s.filter.claimId = some id ∧ s.filter.mode = .online <;>
      simp [State.roleAdmitted, State.report, State.mapFilter, hr, hf]
  | crusher => simp [State.roleAdmitted, State.report, hr]

/-- Settles O15: a CLAIM that passes the checks is accepted, and `takeClaim_accept` enters it. -/
theorem claimAdmitted : Obligations.ClaimAdmitted := by
  refine ⟨fun rx s h own a b e k arrives entry present kind rank lot flush low high new owner room => ?_,
    roleAdmitted_eq⟩
  have passes : ClaimPasses h a b e k :=
    ⟨entry, present, kind, Nat.not_lt.mpr rank, classSuits_of lot flush, by omega⟩
  have capacity : countOf h.table.claims a k < k.capacity := by cases k <;> exact owner
  have taken := takeClaim_accept (own := own) (passes.accepted new capacity room)
  exact congrArg Host.Outcome.next ((event_of_arrival State.takeClaimFrame arrives).trans
    (congrArg (State.concluded s.seq) taken))

/-- Settles O16: the judgement of a CLAIM that passes the checks, outcome by outcome. -/
theorem claimReplacedOrRefused : Obligations.ClaimReplacedOrRefused := by
  intro rx s h own a b e k arrives entry present kind rank lot flush low high
  have passes : ClaimPasses h a b e k :=
    ⟨entry, present, kind, Nat.not_lt.mpr rank, classSuits_of lot flush, by omega⟩
  have answer : ∀ t, h.takeClaimFrame own a b = t → exec (.claim rx) s = .next (t.concluded s.seq) :=
    fun t taken => congrArg Host.Outcome.next ((event_of_arrival State.takeClaimFrame arrives).trans
      (congrArg (State.concluded s.seq) taken))
  refine ⟨fun c held waiting same => answer _ (takeClaim_replace (passes.replaced held waiting same)),
    fun c held status => answer _ (takeClaim_refuse (passes.committed held status)),
    fun c held waiting other => answer _ (takeClaim_refuse (passes.mismatched held waiting other)),
    fun new full => answer _ (takeClaim_refuse (passes.ownerFull new ?_)),
    fun new owner full => answer _ (takeClaim_refuse (passes.tableFull new ?_ full))⟩
  · cases k <;> exact full
  · cases k <;> exact owner

/-! ## The checks of R4, and the refusal (R8) -/

theorem claimKindOf_eq_none {x : Byte} (h : 1 < x.toNat) : claimKindOf x = none := by
  unfold claimKindOf
  split
  · omega
  · omega
  · rfl

theorem claimKindOf_zero : claimKindOf 0 = some .lot := rfl

theorem claimKindOf_one : claimKindOf 1 = some .flush := rfl

/-- Each check that fails, where those before it pass, gives its cause (R4). -/
theorem judgeClaim_checks (s : State) (a : Addr) (b : ClaimBody) {e : RosterEntry} (entry : entryOf s.roster a = some e)
    (present : e.isExcluded = false) :
    (1 < b.kind.toNat ∨ 7 < b.rank.toNat → s.judgeClaim a b = .refuse .badField) ∧
    (b.rank.toNat ≤ 7 → ∀ k, claimKindOf b.kind = some k →
      (classSuits k b.cls.toNat = false → s.judgeClaim a b = .refuse .badClass) ∧
      (classSuits k b.cls.toNat = true →
        b.volume.toNat < (s.boundsOf b.cls.toNat).min ∨ (s.boundsOf b.cls.toNat).max < b.volume.toNat →
        s.judgeClaim a b = .refuse .badVolume)) := by
  refine ⟨fun field => ?_, fun rank k kind => ⟨fun unsuited => ?_, fun suits volume => ?_⟩⟩
  · rcases field with kind | rank
    · simp [State.judgeClaim, entry, present, claimKindOf_eq_none kind]
    · cases hk : claimKindOf b.kind <;> simp [State.judgeClaim, entry, present, hk, rank]
  · simp [State.judgeClaim, entry, present, kind, Nat.not_lt.mpr rank, unsuited]
  · simp [State.judgeClaim, entry, present, kind, Nat.not_lt.mpr rank, suits, volume]

theorem roleRefused_reports (s : State) (id : Byte) (cause : RefusalCause) :
    (s.roleRefused id cause).reports = s.reports ++ [.refused id cause] := by
  cases hr : s.cfg.role <;> simp [State.roleRefused, State.report, State.mapLots, State.setLots, State.mapFilter, hr]

theorem roleRefused_table (s : State) (id : Byte) (cause : RefusalCause) :
    (s.roleRefused id cause).table = s.table := by
  cases hr : s.cfg.role <;> simp [State.roleRefused, State.report, State.mapLots, State.setLots, State.mapFilter, hr]

theorem roleRefused_lots {s : State} (id : Byte) (cause : RefusalCause) (hr : s.cfg.role = .discharge) :
    (s.roleRefused id cause).discharge.lots = s.discharge.lots.map (fun l =>
      if l.claimId = some id ∧ l.status = .sealed then { l with claimId := none, refused := true } else l) := by
  simp [State.roleRefused, State.report, State.mapLots, State.setLots, hr]

theorem roleRefused_filter {s : State} (id : Byte) (cause : RefusalCause) (hr : s.cfg.role = .filter) :
    (s.roleRefused id cause).filter = if s.filter.claimId = some id ∧ s.filter.mode = .online ∧ cause ≠ .committed then
      { s.filter with claimId := none, refused := true } else s.filter := by
  unfold State.roleRefused
  simp only [State.report, hr]
  rfl

/-- Settles O17: the first check that fails gives the cause, and a refusal moves the role unit alone. -/
theorem claimChecked : Obligations.ClaimChecked := by
  refine ⟨fun s a b => ⟨fun unknown => by simp [State.judgeClaim, unknown], fun e entry =>
    ⟨fun excluded => by simp [State.judgeClaim, entry, excluded], fun present => ?_⟩⟩,
    fun rx s h own a b cause arrives refused => ?_⟩
  · obtain ⟨field, suited⟩ := judgeClaim_checks s a b entry present
    refine ⟨field, fun kind rank => ⟨fun unsuited => ?_, fun suits => ?_⟩⟩
    · rcases unsuited with ⟨hk, hc⟩ | ⟨hk, hc⟩
      · exact (suited rank .lot (hk ▸ claimKindOf_zero)).1 (by simp [classSuits]; omega)
      · exact (suited rank .flush (hk ▸ claimKindOf_one)).1 (by simp [classSuits, hc])
    · rcases suits with ⟨hk, hc⟩ | ⟨hk, hc⟩
      · exact (suited rank .lot (hk ▸ claimKindOf_zero)).2 (by simp [classSuits, hc])
      · exact (suited rank .flush (hk ▸ claimKindOf_one)).2 (by simp [classSuits, hc])
  · have answer : exec (.claim rx) s = .next ((if own then h.ownRefused b.id cause else h).concluded s.seq) :=
      congrArg Host.Outcome.next ((event_of_arrival State.takeClaimFrame arrives).trans
        (congrArg (State.concluded s.seq) (takeClaim_refuse refused)))
    refine ⟨fun foreign => ?_, fun mine => ⟨h.ownRefused b.id cause, ?_, rfl, ?_, roleRefused_table _ _ _,
      fun role => roleRefused_lots _ _ role, fun role => roleRefused_filter _ _ role⟩⟩
    · rw [answer, foreign]
      rfl
    · rw [answer, mine]
      rfl
    · unfold State.ownRefused
      rw [roleRefused_reports]
      simp

/-! ## Removal of a named claim (R10) -/

theorem foldl_roleRemoved_reports (why : RemovalReason) (l : List Claim) (s : State) {c : Claim} (h : c ∈ l) :
    Report.removed c.id why ∈ (l.foldl (fun s c => s.roleRemoved c.id why) s).reports := by
  have kept : ∀ (l : List Claim) (s : State) (r : Report), r ∈ s.reports →
      r ∈ (l.foldl (fun s c => s.roleRemoved c.id why) s).reports := by
    intro l
    induction l with
    | nil => exact fun s r hr => hr
    | cons d l ih => exact fun s r hr => ih _ r ((works_roleRemoved _ d.id why).mem_reports (by simp [State.report, hr]))
  induction l generalizing s with
  | nil => cases h
  | cons d l ih =>
    rcases List.mem_cons.1 h with rfl | h
    · exact kept l _ _ ((works_roleRemoved _ _ why).mem_reports (by simp [State.report]))
    · exact ih _ h

/-- The state with the claim of an owner and id gone from the table. -/
def State.without (s : State) (a : Addr) (id : Byte) : State :=
  { s with table := { s.table with claims := s.table.claims.filter (fun c => !(c.owner == a && c.id == id)) } }

theorem removeClaim_facts (s : State) (a : Addr) (id : Byte) (why : RemovalReason) :
    Untouched (s.without a id) (s.removeClaim a id why) ∧
    (a ≠ s.own → s.removeClaim a id why = s.without a id) ∧
    (claimAt s.table.claims a id = none → s.removeClaim a id why = s.without a id) ∧
    (a = s.own → claimAt s.table.claims a id ≠ none → Report.removed id why ∈ (s.removeClaim a id why).reports) := by
  refine ⟨untouched_removeClaims s _ why, fun foreign => ?_, fun absent => ?_, fun mine held => ?_⟩
  · refine removeClaims_of_foreign s why (fun c _ hc => ?_)
    simp only [Bool.and_eq_true, beq_iff_eq] at hc
    rwa [hc.1]
  · refine removeClaims_of_foreign s why (fun c hc named => ?_)
    exact absurd named (by simpa using List.find?_eq_none.1 absent c hc)
  · obtain ⟨c, hc⟩ := Option.ne_none_iff_exists'.1 held
    obtain ⟨mem, owner, hid⟩ := claimAt_some hc
    subst hid
    refine foldl_roleRemoved_reports why _ _ (List.mem_filter.2 ⟨List.mem_filter.2 ⟨mem, ?_⟩, ?_⟩)
    · simp [owner]
    · rw [owner, mine]
      exact beq_self_eq_true _

/-- Settles O18: WITHDRAW and DONE both come to `removeClaim`, of which `removeClaim_facts` says the rest. -/
theorem claimRemoved : Obligations.ClaimRemoved := by
  refine ⟨fun rx s h own a b arrives => ?_, fun rx s h own a b arrives role => ?_⟩
  · have answer : exec (.withdraw rx) s = .next ((h.takeWithdraw a b).concluded s.seq) :=
      congrArg Host.Outcome.next (event_of_arrival (fun _ => State.takeWithdraw) arrives)
    refine ⟨fun unknown => ?_, fun known => ⟨h.removeClaim a b.id .withdrawn, ?_, removeClaim_facts h a b.id _⟩⟩
    · rw [answer]
      simp [State.takeWithdraw, unknown]
    · rw [answer]
      simp [State.takeWithdraw, Option.isSome_iff_ne_none.2 known]
  · have answer : exec (.done rx) s = .next ((h.takeDone a b).concluded s.seq) :=
      congrArg Host.Outcome.next (event_of_arrival (fun _ => State.takeDone) arrives)
    obtain ⟨removed, facts⟩ := removeClaim_facts h a b.id .done
    refine ⟨h.removeClaim a b.id .done, ?_, removed, facts⟩
    have same : (h.removeClaim a b.id .done).cfg.role ≠ .crusher := by
      rw [removed.cfg]
      exact role
    rw [answer]
    simp [State.takeDone, same]

end Sys2Proof.Machine
end


section
/-! O27: the slots of the contention cycle. -/

namespace Sys2Proof.Machine

/-! ## The head of the queue (R82) -/

/-- The queue's head is of the best class present. -/
theorem headOf_best (f : QFrame) (q : List QFrame) :
    ∃ h, headOf (f :: q) = some h ∧ h ∈ f :: q ∧ ∀ g ∈ f :: q, h.cls ≤ g.cls := by
  induction q generalizing f with
  | nil => exact ⟨f, rfl, by simp, by simp⟩
  | cons g q ih =>
    obtain ⟨h, head, mem, best⟩ := ih g
    have step : headOf (f :: g :: q) = if h.cls < f.cls then some h else some f := by
      unfold headOf at head ⊢
      rw [firstBy, head]
      simp
    by_cases better : h.cls < f.cls
    · refine ⟨h, by rw [step, if_pos better], List.mem_cons_of_mem _ mem, fun k hk => ?_⟩
      rcases List.mem_cons.1 hk with rfl | hk
      · exact Nat.le_of_lt better
      · exact best k hk
    · refine ⟨f, by rw [step, if_neg better], List.mem_cons_self, fun k hk => ?_⟩
      rcases List.mem_cons.1 hk with rfl | hk
      · exact Nat.le_refl _
      · exact Nat.le_trans (Nat.not_lt.1 better) (best k hk)

/-- Its index is that of the oldest frame of that class. -/
theorem headIdx_oldest {q : List QFrame} (hq : q ≠ []) : ∃ (i : Nat) (f : QFrame), headIdx q = some i ∧ q[i]? = some f ∧
    ∀ (j : Nat) (g : QFrame), q[j]? = some g → f.cls ≤ g.cls ∧ (j < i → f.cls < g.cls) := by
  cases q with
  | nil => exact absurd rfl hq
  | cons x q =>
    obtain ⟨h, head, mem, best⟩ := headOf_best x q
    have found : headIdx (x :: q) = (x :: q).findIdx? (fun g => g.cls == h.cls) := by simp [headIdx, head]
    rw [found]
    cases hi : (x :: q).findIdx? (fun g => g.cls == h.cls) with
    | none => exact absurd (List.findIdx?_eq_none_iff.1 hi h mem) (by simp)
    | some i =>
      obtain ⟨hlt, same, earlier⟩ := List.findIdx?_eq_some_iff_getElem.1 hi
      have same : (x :: q)[i].cls = h.cls := beq_iff_eq.1 same
      refine ⟨i, (x :: q)[i], rfl, List.getElem?_eq_getElem hlt, fun j g hg => ?_⟩
      have atLeast := best g (List.mem_of_getElem? hg)
      refine ⟨same ▸ atLeast, fun hj => ?_⟩
      have other : g.cls ≠ h.cls := by
        obtain ⟨hlt', rfl⟩ := List.getElem?_eq_some_iff.1 hg
        simpa using earlier j hj
      omega

/-! ## The slot (R74 to R77) -/

theorem accessSlot_val (a l : Addr) : (accessSlot a (some l)).val = (a.val + 63 - l.val) % 32 := by
  unfold accessSlot
  have := l.isLt
  simp only [Fin.val_sub]
  change (32 - 1 + (32 - l.val + a.val) % 32) % 32 = _
  omega

/-- The state in the slot now running. -/
def State.inSlot (s : State) (p : CyclePos) (x : Slot) : State :=
  { s.cleared with trunk := { s.trunk with cycle := some { p with slot := some x } } }

/-- The conditions of R76 on any start. -/
def State.mayStart (s : State) : Prop :=
  s.trunk.line = .active ∧ s.trunk.failHold = false ∧ ∀ c, s.sync.status ≠ .excluded c

section
variable {s : State} {x : Slot} {p : CyclePos}

theorem isExcluded_eq_false {x : SyncStatus} : x.isExcluded = false ↔ ∀ c, x ≠ .excluded c := by
  cases x <;> simp [SyncStatus.isExcluded]

/-- The slot starts: the frame that the station starts in it, if any, is started. -/
theorem contentionSlot_facts (awake : s.awake = true) (cycle : s.trunk.cycle = some p) (idle : s.trunk.busy = false)
    (next : ∀ y, p.slot = some y → slotPlace y < slotPlace x) :
    (∀ i, (s.inSlot p x).frameToStart x = some i → exec (.contentionSlot x) s = .next ((s.inSlot p x).startFrame i)) ∧
    ((s.inSlot p x).frameToStart x = none → exec (.contentionSlot x) s = .next (s.inSlot p x)) := by
  have reaches : s.cleared.trunk.reaches x = true := by
    cases hs : p.slot with
    | none => simp [TrunkState.reaches, State.cleared, cycle, idle, hs]
    | some y => simp [TrunkState.reaches, State.cleared, cycle, idle, hs, next y hs]
  have moved : s.cleared.mapTrunk (fun t => { t with cycle := t.cycle.map (fun c => { c with slot := some x }) }) =
      s.inSlot p x := by simp [State.mapTrunk, State.inSlot, State.cleared, cycle]
  have run : exec (.contentionSlot x) s = .next (s.cleared.enterSlot x) :=
    congrArg Host.Outcome.next (quiet_of_running _ (notReset_of_awake awake))
  have awake' : s.cleared.awake = true := awake
  rw [run]
  unfold State.enterSlot
  rw [moved, awake', reaches]
  exact ⟨fun i h => by simp [h], fun h => by simp [h]⟩

theorem frameToStart_of_clear (awake : s.awake = true) (clear : s.mayStart) :
    (∀ k, x = .rotating k → (s.inSlot p x).frameToStart x =
      if k = accessSlot s.own s.trunk.lastSender then headIdx s.trunk.queue else none) ∧
    (x = .urgent → (s.inSlot p x).frameToStart x =
      if s.cfg.role = .crusher ∧ s.sync.status = .synced then urgentIdx s.trunk.queue else none) := by
  obtain ⟨line, hold, sync⟩ := clear
  have may : ((s.inSlot p x).awake && (s.inSlot p x).lineActive && !(s.inSlot p x).trunk.failHold &&
      !(s.inSlot p x).sync.status.isExcluded) = true := by
    have hs : (s.inSlot p x).sync.status.isExcluded = false := isExcluded_eq_false.2 sync
    have ha : (s.inSlot p x).awake = true := awake
    rw [ha, hs]
    simp [State.lineActive, State.inSlot, line, hold]
  unfold State.frameToStart
  rw [may]
  exact ⟨fun k hx => by subst hx; rfl, fun hx => by subst hx; rfl⟩

theorem frameToStart_of_not_clear (clear : ¬s.mayStart) : (s.inSlot p x).frameToStart x = none := by
  unfold State.frameToStart
  rw [if_neg]
  intro h
  simp only [Bool.and_eq_true, Bool.not_eq_true'] at h
  obtain ⟨⟨⟨_, line⟩, hold⟩, sync⟩ := h
  exact clear ⟨beq_iff_eq.1 line, hold, isExcluded_eq_false.1 sync⟩

end

/-- The start of a frame writes its body and takes the line (R71, R83). -/
theorem startFrame_eq (s : State) {i : Nat} {f : QFrame} (h : s.trunk.queue[i]? = some f) :
    s.startFrame i = { s with trunk := { s.trunk with
      busy := true, queue := s.trunk.queue.set i { f with sent := some (s.bodyToSend f.body) } } } := by
  simp [State.startFrame, State.mapTrunk, List.modify_eq_set_getElem?, h]

/-- Settles O27: the slot's conditions give `frameToStart`, the head is the oldest of the best class, and
`bodyToSend` writes each body. -/
theorem slotStarts : Obligations.SlotStarts := by
  refine ⟨fun s x p awake cycle idle next => ?_, fun a l => ⟨rfl, accessSlot_val a l⟩,
    fun q hq => headIdx_oldest hq, fun s i f hf => ?_⟩
  · obtain ⟨starts, stays⟩ := contentionSlot_facts awake cycle idle next
    refine ⟨fun k i hx clear access head => starts i ?_, fun i hx clear role sync head => starts i ?_,
      fun h => stays ?_⟩
    · rw [(frameToStart_of_clear awake clear).1 k hx, if_pos access, head]
    · rw [(frameToStart_of_clear awake clear).2 hx, if_pos ⟨role, sync⟩, head]
    · by_cases clear : s.mayStart
      · obtain ⟨rotating, urgent⟩ := frameToStart_of_clear (x := x) (p := p) awake clear
        rcases h with h | empty | ⟨k, hx, access⟩ | ⟨hx, h⟩
        · exact absurd clear h
        · cases x with
          | urgent => simp [urgent rfl, empty, urgentIdx]
          | rotating k => simp [rotating k rfl, empty, headIdx, headOf, firstBy]
        · rw [rotating k hx, if_neg access]
        · rw [urgent hx]
          rcases h with role | sync | plain
          · exact if_neg (fun h => role h.1)
          · exact if_neg (fun h => sync h.2)
          · rw [urgentIdx, List.findIdx?_eq_none_iff.2 plain, ite_self]
      · exact frameToStart_of_not_clear clear
  · intro w own view wait offset record body
    have built : s.bodyToSend f.body = body := by
      have mine : s.stationInfo = own := by
        dsimp only [own]
        cases hr : s.cfg.role <;> simp [State.stationInfo, hr, roleCode]
      have seen : byteOf s.crusher.view.code = view := by
        dsimp only [view]
        cases hm : s.crusher.mode
        · by_cases hs : 0 < s.crusher.surge <;> simp [CrusherState.view, hm, hs, byteOf, GateView.code]
        · simp [CrusherState.view, hm, byteOf, GateView.code]
        · simp [CrusherState.view, hm, byteOf, GateView.code]
      have recorded : Claim.record s.window.number = record := by
        funext c
        dsimp only [record, Claim.record]
        cases c.status <;> rfl
      dsimp only [body]
      cases f.body with
      | gate => rw [← seen]; rfl
      | row => rw [← mine, ← recorded]; rfl
      | _ => rfl
    rw [startFrame_eq s hf, built]

end Sys2Proof.Machine
end


section
/-! O13: the own leaving HELLO. With it, what a removal of claims leaves of the queue and the reports, and the good
listen-back of an own frame. -/

namespace Sys2Proof.Machine

/-! ## Removals of claims: the queue and the reports -/

theorem foldl_roleRemoved_rule {P : State → State → Prop} (refl : ∀ s, P s s) (trans : ∀ a b c, P a b → P b c → P a c)
    (report : ∀ s id why, P s (s.report (.removed id why))) (works : ∀ s t, Works s t → P s t)
    (why : RemovalReason) (l : List Claim) (s : State) : P s (l.foldl (fun s c => s.roleRemoved c.id why) s) := by
  induction l generalizing s with
  | nil => exact refl s
  | cons c l ih => exact trans _ _ _ (trans _ _ _ (report s c.id why) (works _ _ (works_roleRemoved s c.id why))) (ih _)

/-- The frames after a removal are frames of the queue before it, or new ones that the role unit requests. -/
theorem framesFrom_removeClaims (s : State) (p : Claim → Bool) (why : RemovalReason) :
    FramesFrom s (s.removeClaims p why) := by
  have told : Untouched (s.setClaims (s.table.claims.filter (fun c => !p c))) (s.removeClaims p why) ∧
      FramesFrom (s.setClaims (s.table.claims.filter (fun c => !p c))) (s.removeClaims p why) :=
    foldl_roleRemoved_rule (P := fun s t => Untouched s t ∧ FramesFrom s t) (fun s => ⟨.refl s, .of_queue_eq rfl⟩)
      (fun a b c h k => ⟨h.1.trans k.1, h.2.trans h.1 k.2⟩)
      (fun s id why => ⟨untouched_report s _, .of_queue_eq rfl⟩) (fun s t h => ⟨h.untouched, h.framesFrom⟩) why _ _
  exact told.2

theorem mem_removeClaims_reports (s : State) (p : Claim → Bool) (why : RemovalReason) {r : Report}
    (h : r ∈ s.reports) : r ∈ (s.removeClaims p why).reports :=
  foldl_roleRemoved_rule (P := fun s t => r ∈ s.reports → r ∈ t.reports) (fun _ h => h) (fun _ _ _ h k x => k (h x))
    (fun _ _ _ h => List.mem_append_left _ h) (fun _ _ h => h.mem_reports) why _ _ h

/-! ## Good listen-back -/

theorem Untouched.sent {s t : State} (h : Untouched s t) :
    Untouched { s with window := { s.window with sent := true } } { t with window := { t.window with sent := true } } :=
  { h with window := by rw [h.window] }

/-- A good listen-back ends the frame, notes that the station has sent, and leaves the rest to the role unit and the
queue. -/
theorem untouched_ownGood (s : State) (f : QFrame) :
    Untouched { s with
        trunk := { s.trunk.frameEnd (some s.own) with failCount := 0, queue := s.trunk.queue.filter QFrame.waiting }
        window := { s.window with sent := true } } (s.ownGood f) := by
  have delivered := (untouched_deliver (s.mapTrunk (fun t =>
    { t.frameEnd (some s.own) with failCount := 0, queue := t.queue.filter QFrame.waiting })) f.who f.body .sent).sent
  have pulled := delivered.trans (untouched_pullWaiting _ (fun g => g.body == QBody.present))
  unfold State.ownGood
  dsimp only
  split
  · exact pulled.trans (untouched_requestGate _)
  · exact pulled

/-- After it no frame is in flight. -/
theorem ownGood_waiting (s : State) (f : QFrame) : ∀ g ∈ (s.ownGood f).trunk.queue, g.sent = none := by
  have ended : ∀ g ∈ s.trunk.queue.filter QFrame.waiting, g.sent = none := fun g hg =>
    Option.isNone_iff_eq_none.1 (List.mem_filter.1 hg).2
  have pulled : ∀ (u : State), (∀ g ∈ u.trunk.queue, g.sent = none) →
      ∀ g ∈ (u.pullWaiting (fun g => g.body == QBody.present)).trunk.queue, g.sent = none :=
    fun u hu => (framesFrom_pull u _).all_waiting hu
  have before := pulled { (s.mapTrunk (fun t =>
    { t.frameEnd (some s.own) with failCount := 0, queue := t.queue.filter QFrame.waiting })).deliver f.who f.body
      .sent with window := { ((s.mapTrunk (fun t =>
        { t.frameEnd (some s.own) with failCount := 0, queue := t.queue.filter QFrame.waiting })).deliver f.who f.body
          .sent).window with sent := true } } (by
      change ∀ g ∈ (State.deliver _ _ _ _).trunk.queue, g.sent = none
      rw [deliver_trunk]
      exact ended)
  unfold State.ownGood
  dsimp only
  split
  · exact (works_requestGate _).framesFrom.all_waiting before
  · exact before

/-- The station's own frame arrives by a good listen-back. -/
theorem arrival_own {α : Type} {s h : State} {kind : FrameKind} {informs : Bool} {bodyOf : Body → Option α} {a : Addr}
    {b : α} {own : Bool} (arrives : s.arrival kind informs bodyOf .own = some (own, a, b, h)) :
    own = true ∧ a = s.own ∧ ∃ g, h = s.ownGood g := by
  simp only [State.arrival] at arrives
  split at arrives
  · rename_i g body _
    split at arrives
    · cases hb : bodyOf body with
      | none => simp [hb] at arrives
      | some x =>
        obtain ⟨rfl, rfl, rfl, rfl⟩ : true = own ∧ s.own = a ∧ x = b ∧ s.ownGood g = h := by simpa [hb] using arrives
        exact ⟨rfl, rfl, g, rfl⟩
    · cases arrives
  · cases arrives

/-! ## Dormancy (R183) -/

theorem asleep_of_mode {s : State} (h : s.mode.mode = .dormant ∨ s.mode.mode = .startHold) : s.awake = false := by
  rcases h with h | h <;> simp [State.awake, h]

/-- What entering DORMANT leaves. -/
theorem enterDormant_facts (s : State) (waiting : ∀ f ∈ s.trunk.queue, f.sent = none) :
    s.enterDormant.mode.mode = .dormant ∧ s.enterDormant.trunk.queue = [] ∧ s.enterDormant.window.timer = none ∧
    s.enterDormant.sync.listenTimer = none ∧ s.enterDormant.table.claims = s.table.claims ∧
    s.enterDormant.roster = s.roster ∧
    s.enterDormant.seq = { s.seq with running := none, stack := [], deferred := none, shadow0 := 0, shadow1 := 0,
                                      out0 := 0, out1 := 0 } ∧
    s.enterDormant.pins = s.pins ∧ s.enterDormant.pending = s.pending := by
  have moved : Concluded s (s.setMode .dormant) := concluded_setMode s _
  have dropped := untouched_dropAll (s.setMode .dormant) .dormant
  have named : (s.setMode .dormant).mode.mode = .dormant := by
    unfold State.setMode
    dsimp only
    split <;> rfl
  have queue : (s.setMode .dormant).trunk.queue = s.trunk.queue := by
    unfold State.setMode
    dsimp only
    split <;> rfl
  have seq : (s.setMode .dormant).seq = s.seq := by
    unfold State.setMode
    dsimp only
    split <;> rfl
  obtain ⟨_, _, phase⟩ := dropped.drives
  refine ⟨(congrArg ModeState.mode dropped.mode).trans named, ?_, rfl, rfl, dropped.claims.trans moved.claims,
    dropped.roster.trans moved.roster, ?_, dropped.pins.trans moved.pins, dropped.pending.trans moved.pending⟩
  · have none_flying : s.trunk.queue.filter (fun f => !f.waiting) = [] :=
      List.filter_eq_nil_iff.2 (fun f hf => by simp [QFrame.waiting, waiting f hf])
    change ((s.setMode .dormant).dropAll .dormant).trunk.queue = []
    rw [dropAll_queue, queue, none_flying]
    rfl
  · change (((s.setMode .dormant).dropAll .dormant).seq).off = _
    unfold SeqState.off
    rw [phase, seq]

/-- An asleep station's tone is silent: DORMANT sounds nothing. -/
theorem refreshTone_dormant {s : State} (h : s.mode.mode = .dormant) : s.refreshTone.toneHertz = none := by
  have off : s.toneCond = .off := by simp [State.toneCond, h]
  have cond : s.refreshTone.tone.cond = .off := by
    unfold State.refreshTone
    split
    · rename_i same
      rw [← same, off]
    · exact off
  simp [State.toneHertz, cond]

/-- A fresh station sounds nothing, so the tone has nothing to follow. -/
theorem concluded_start (q : SeqState) (s : State) (c : StartCause) : (s.start c).concluded q = s.start c := by
  have asleep : (s.start c).awake = false := rfl
  rw [concluded_of_asleep q asleep]
  have same : (s.start c).toneCond = (s.start c).tone.cond := rfl
  unfold State.refreshTone
  rw [if_pos same]

/-- Settles O13: a good listen-back leaves no frame in flight, so that DORMANT finds every frame waiting, and a
start makes the state anew. -/
theorem ownLeavingHello : Obligations.OwnLeavingHello := by
  intro s h a b arrives leaving mode
  obtain ⟨_, _, g, good⟩ := arrival_own arrives
  have began := untouched_ownGood s.cleared g
  have waiting : ∀ f ∈ (h.removeOwner h.own .leaving).trunk.queue, f.sent = none :=
    (framesFrom_removeClaims h _ _).all_waiting (good ▸ ownGood_waiting s.cleared g)
  have removed := untouched_removeClaims h (fun c => c.owner == h.own) .leaving
  obtain ⟨dormant, queue, timer, listen, claims, roster, seq, pins, pending⟩ := enterDormant_facts _ waiting
  rw [← good] at began
  have modeKept : (h.removeOwner h.own .leaving).mode = h.mode := removed.mode
  have taken : h.takeHello true a b = (h.removeOwner h.own .leaving).helloLeft := by
    simp only [State.takeHello, leaving]
    rw [modeKept, if_pos mode]
  have answer : exec (.hello .own) s = .next ((h.takeHello true a b).concluded s.seq) :=
    congrArg Host.Outcome.next (event_of_arrival State.takeHello arrives)
  rw [taken] at answer
  refine ⟨_, answer, fun asleep => ?_, fun woken => ?_⟩
  · have left : (h.removeOwner h.own .leaving).helloLeft = (h.removeOwner h.own .leaving).enterDormant := by
      simp [State.helloLeft, modeKept, asleep]
    have still := asleep_of_mode (.inl dormant)
    have frame := refreshTone_frame (h.removeOwner h.own .leaving).enterDormant
    rw [left, concluded_of_asleep s.seq still]
    refine ⟨(congrArg (fun t => t.mode.mode) frame).trans dormant,
      (congrArg (fun t => t.trunk.queue) frame).trans queue, (congrArg (fun t => t.window.timer) frame).trans timer,
      (congrArg (fun t => t.sync.listenTimer) frame).trans listen,
      (congrArg (fun t => t.table.claims) frame).trans (claims.trans removed.claims),
      (congrArg (fun t => t.roster) frame).trans (roster.trans removed.roster),
      (congrArg (fun t => t.seq) frame).trans (seq.trans ?_), fun n => ?_, refreshTone_dormant dormant⟩
    · obtain ⟨_, _, phase⟩ := removed.drives
      exact congrArg (fun p => ({ h.seq.off with phase := p } : SeqState)) phase
    · have asleep' : (h.removeOwner h.own .leaving).enterDormant.refreshTone.awake = false :=
        asleep_of_mode (.inl ((congrArg ModeState.mode (refreshTone_mode _)).trans dormant))
      simp [State.discreteOut, asleep']
  · have left : (h.removeOwner h.own .leaving).helloLeft = (h.removeOwner h.own .leaving).enterDormant.start .wake := by
      simp [State.helloLeft, modeKept, woken]
    rw [left, concluded_start]
    refine ⟨?_, ?_⟩
    · have pins' := pins.trans (removed.pins.trans began.pins)
      have pending' := pending.trans (removed.pending.trans began.pending)
      exact (congrArg (fun p => State.fresh .wake p _) pins').trans (congrArg (State.fresh .wake s.pins) pending')
    · refine List.mem_append_right _ ?_
      simp [State.startReports, dormant]

end Sys2Proof.Machine
end


section
/-! O28: a listen-back failure. -/

namespace Sys2Proof.Machine

/-! ## A withdrawn request leaves nothing behind -/

theorem claimFate_withdrawn (s : State) (id : Byte) : s.claimFate id .withdrawn = s := by
  have lot : ∀ l : Lot, l.claimFate id .withdrawn = l := fun l => by simp [Lot.claimFate]
  have flush : s.filter.claimFate id .withdrawn = s.filter := by simp [FilterState.claimFate]
  cases hr : s.cfg.role <;> simp [State.claimFate, hr, flush, funext lot]

theorem doneFate_withdrawn (s : State) (b : DoneBody) : s.doneFate b .withdrawn = s := by
  have done : doneFates b .withdrawn s.discharge.pending = s.discharge.pending := by
    have keep : ∀ p : PendingDone, (if p.body = b then p.fate .withdrawn else some p) = some p := fun p => by
      simp [PendingDone.fate]
    simp [doneFates, keep]
  have flush : s.filter.doneFate b .withdrawn = s.filter := by
    unfold FilterState.doneFate
    cases hp : s.filter.pending with
    | none => rfl
    | some p =>
      by_cases hb : p.body = b
      · simp [hb, PendingDone.fate, ← hp]
      · simp [hb]
  cases hr : s.cfg.role <;> simp [State.doneFate, hr, flush, done]

theorem askFate_withdrawn (s : State) : s.askFate .withdrawn = s := by simp [State.askFate, Fate.lost]

/-- A withdrawal is reported, and its requester does nothing about it. -/
theorem deliver_withdrawn (s : State) (who : Block) (b : QBody) :
    s.deliver who b .withdrawn = s.report (.fate who b .withdrawn) := by
  unfold State.deliver
  dsimp only
  split
  · rw [claimFate_withdrawn]
  · rw [doneFate_withdrawn]
  · rw [askFate_withdrawn]
  · rfl

theorem deliverAll_withdrawn (s : State) (l : List QFrame) :
    s.deliverAll (l.map (fun f => (f.who, f.body, Fate.withdrawn))) =
      { s with reports := s.reports ++ l.map (fun f => Report.fate f.who f.body .withdrawn) } := by
  induction l generalizing s with
  | nil => simp [State.deliverAll]
  | cons f l ih =>
    have step : s.deliverAll ((f :: l).map (fun f => (f.who, f.body, Fate.withdrawn))) =
        (s.deliver f.who f.body .withdrawn).deliverAll (l.map (fun f => (f.who, f.body, Fate.withdrawn))) := rfl
    rw [step, deliver_withdrawn, ih]
    simp [State.report]

/-! ## The failed frame (R79, R87) -/

theorem QFrame.failed_eq (f : QFrame) :
    f.failed = if f.sent.isSome then { f with sent := none, followUp := false } else f := rfl

theorem failed_pulled (f : QFrame) : f.failed.pulled = f.pulled := by rw [f.failed_eq]; split <;> rfl
theorem failed_body (f : QFrame) : f.failed.body = f.body := by rw [f.failed_eq]; split <;> rfl
theorem failed_who (f : QFrame) : f.failed.who = f.who := by rw [f.failed_eq]; split <;> rfl

theorem failed_waiting (f : QFrame) : f.failed.waiting = true := by
  rw [f.failed_eq]
  cases hs : f.sent <;> simp [QFrame.waiting, hs]

theorem failed_leavingHello (f : QFrame) : f.failed.leavingHello = f.leavingHello := by
  simp [QFrame.leavingHello, failed_body]

/-- The state once a frame of the station's own has failed and the withdrawals asked for in flight are applied, the
mode aside. -/
def State.frameFailed (s : State) (received : Option Addr) : State :=
  { s with
    counters := { s.counters with ownFailures := min (s.counters.ownFailures + 1) 65535 }
    trunk := { s.trunk with
      lastSender := received, cycle := some ⟨none, 0⟩, busy := false, rest := 0,
      failCount := s.trunk.failCount + 1, failHold := true
      queue := (s.trunk.queue.filter (fun f => !f.pulled)).map (fun f =>
        if f.sent.isSome then { f with sent := none, followUp := false } else f) }
    reports := s.reports ++ (s.trunk.queue.filter (fun f => f.pulled)).map (fun f => .fate f.who f.body .withdrawn) }

/-- A leaving HELLO whose withdrawal was asked for is in the queue. -/
def State.helloPulled (s : State) : Prop := ∃ f ∈ s.trunk.queue, f.pulled = true ∧ f.leavingHello = true

/-- The queue and the trunk interface once the frame has failed, its withdrawal not yet applied (R79). -/
def State.frameBack (s : State) (received : Option Addr) : State :=
  s.countOwnFailure.mapTrunk (fun t =>
    { t.frameEnd received with
      failCount := t.failCount + 1, failHold := true, queue := t.queue.map QFrame.failed })

theorem applyPulled_frameBack (s : State) (received : Option Addr) :
    (s.helloPulled → (s.frameBack received).applyPulled = (s.frameFailed received).helloFailed) ∧
    (¬s.helloPulled → (s.frameBack received).applyPulled = s.frameFailed received) := by
  have gone : (s.frameBack received).trunk.queue.filter (fun f => f.pulled && f.waiting) =
      (s.trunk.queue.filter (fun f => f.pulled)).map QFrame.failed := by
    change (s.trunk.queue.map QFrame.failed).filter _ = _
    rw [List.filter_map]
    congr 2
    funext f
    simp [failed_pulled, failed_waiting]
  have kept : (s.frameBack received).trunk.queue.filter (fun f => !(f.pulled && f.waiting)) =
      (s.trunk.queue.filter (fun f => !f.pulled)).map QFrame.failed := by
    change (s.trunk.queue.map QFrame.failed).filter _ = _
    rw [List.filter_map]
    congr 2
    funext f
    simp [failed_pulled, failed_waiting]
  have reported : ((s.trunk.queue.filter (fun f => f.pulled)).map QFrame.failed).map
      (fun f => Report.fate f.who f.body .withdrawn) =
      (s.trunk.queue.filter (fun f => f.pulled)).map (fun f => Report.fate f.who f.body .withdrawn) := by
    simp [failed_body, failed_who]
  have hello : ((s.trunk.queue.filter (fun f => f.pulled)).map QFrame.failed).any QFrame.leavingHello = true ↔
      s.helloPulled := by
    simp [State.helloPulled, failed_leavingHello]
  have applied : (s.frameBack received).applyPulled =
      if ((s.trunk.queue.filter (fun f => f.pulled)).map QFrame.failed).any QFrame.leavingHello then
        (s.frameFailed received).helloFailed else s.frameFailed received := by
    unfold State.applyPulled
    dsimp only
    rw [gone, kept, deliverAll_withdrawn, reported]
    rfl
  exact ⟨fun h => applied.trans (if_pos (hello.2 h)), fun h => applied.trans (if_neg (fun k => h (hello.1 k)))⟩

/-- The mode after the leaving HELLO in flight has failed (R182, R183). -/
def State.modeFailed (s : State) : ModeState :=
  if s.mode.wakeMark then
    { s.mode with
      mode := if s.pins.shift then .run else .quiet, quietWindows := 0, leaveRequest := false, wakeMark := false }
  else { s.mode with mode := .quiet, quietWindows := 0 }

theorem State.modeFailed_mode (s : State) : s.modeFailed.mode = .run ∨ s.modeFailed.mode = .quiet := by
  unfold State.modeFailed
  split
  · cases s.pins.shift
    · exact .inr rfl
    · exact .inl rfl
  · exact .inr rfl

theorem setMode_mode (s : State) (x : StationMode) : (s.setMode x).mode = { s.mode with mode := x } := by
  unfold State.setMode
  dsimp only
  split <;> rfl

theorem setMode_frame (s : State) (x : StationMode) : { s.setMode x with mode := s.mode, reports := s.reports } = s := by
  unfold State.setMode
  dsimp only
  split <;> rfl

theorem helloFailed_facts (s : State) :
    s.helloFailed.mode = s.modeFailed ∧ { s.helloFailed with mode := s.mode, reports := s.reports } = s ∧
    ∀ r ∈ s.reports, r ∈ s.helloFailed.reports := by
  unfold State.helloFailed State.modeFailed
  split
  · refine ⟨?_, setMode_frame s _, fun r hr => mem_setMode_reports _ hr⟩
    change { (s.setMode _).mode with quietWindows := 0, leaveRequest := false, wakeMark := false } = _
    rw [setMode_mode]
  · refine ⟨?_, setMode_frame s _, fun r hr => mem_setMode_reports _ hr⟩
    change { (s.setMode .quiet).mode with quietWindows := 0 } = _
    rw [setMode_mode]

/-- What the failure comes to, short of the eighth (R79, R87, R182, R183). -/
theorem applyPulled_facts (s : State) (received : Option Addr) :
    ∃ t, (s.frameBack received).applyPulled = t ∧
      { t with mode := s.mode, reports := s.reports } = { s.frameFailed received with reports := s.reports } ∧
      (¬s.helloPulled → t.mode = s.mode) ∧ (s.helloPulled → t.mode = s.modeFailed) ∧
      (∀ f ∈ s.trunk.queue, f.pulled = true → Report.fate f.who f.body .withdrawn ∈ t.reports) ∧
      ((∀ f ∈ s.trunk.queue, f.pulled = false) → t.reports = s.reports) := by
  obtain ⟨hello, plain⟩ := applyPulled_frameBack s received
  have fates : ∀ f ∈ s.trunk.queue, f.pulled = true →
      Report.fate f.who f.body .withdrawn ∈ (s.frameFailed received).reports := fun f hf hp =>
    List.mem_append_right _ (List.mem_map.2 ⟨f, List.mem_filter.2 ⟨hf, hp⟩, rfl⟩)
  by_cases h : s.helloPulled
  · obtain ⟨mode, frame, reports⟩ := helloFailed_facts (s.frameFailed received)
    refine ⟨_, hello h, congrArg (fun t => { t with reports := s.reports }) frame, fun k => absurd h k, fun _ => mode,
      fun f hf hp => reports _ (fates f hf hp), fun none => ?_⟩
    obtain ⟨f, hf, hp, _⟩ := h
    simp [none f hf] at hp
  · refine ⟨_, plain h, rfl, fun _ => rfl, fun k => absurd k h, fates, fun none => ?_⟩
    have nil : s.trunk.queue.filter (fun f => f.pulled) = [] := List.filter_eq_nil_iff.2 (fun f hf => by simp [none f hf])
    simp [State.frameFailed, nil]

/-! ## Confinement (R80, R104) -/

/-- The leaving condition never holds of a station whose requests are refused (R182). -/
theorem mayLeave_of_muted {s : State} (h : s.muted) : s.mayLeave = false := by
  rcases h with h | h
  · cases hx : s.sync.status <;> simp_all [State.mayLeave, SyncStatus.isExcluded]
  · simp [State.mayLeave, State.lineActive, h]

/-- In a station whose requests are refused, and whose queue is empty, LEAVING is abandoned (R182). -/
theorem settleMode_of_muted {s : State} (h : s.muted) (empty : s.trunk.queue = []) :
    s.settleMode.trunk.queue = [] ∧
    (s.mode.mode = .leaving → s.settleMode.mode = { s.mode with mode := .quiet, quietWindows := 0 }) ∧
    (s.mode.mode ≠ .leaving → s.settleMode = s) := by
  have barred := mayLeave_of_muted h
  have pulled : (s.pull QFrame.leavingHello).trunk.queue = [] := by rw [pull_queue, empty]; rfl
  have still : s.helloInFlight = false := by simp [State.helloInFlight, empty]
  by_cases hl : s.mode.mode = .leaving
  · have back : s.settleMode = (s.pull QFrame.leavingHello).backToQuiet := by
      simp [State.settleMode, hl, barred, still]
    refine ⟨?_, fun _ => ?_, fun hn => absurd hl hn⟩
    · rw [back, State.backToQuiet]
      exact (congrArg (fun t => t.trunk.queue) (setMode_frame (s.pull QFrame.leavingHello) .quiet)).trans pulled
    · rw [back, State.backToQuiet]
      change { ((s.pull QFrame.leavingHello).setMode .quiet).mode with quietWindows := 0 } = _
      rw [setMode_mode, (untouched_pull s _).mode]
  · have stays : s.settleMode = s := by
      cases hm : s.mode.mode <;> simp [State.settleMode, hm, barred]
      exact absurd hm hl
    exact ⟨by rw [stays, empty], fun k => absurd k hl, fun _ => stays⟩

/-- The standing conditions leave the queue of such a station empty, and take it out of LEAVING. -/
theorem concluded_of_muted {s : State} (q : SeqState) (h : s.muted) (empty : s.trunk.queue = [])
    (awake : s.awake = true) :
    (s.concluded q).trunk.queue = [] ∧
    (s.concluded q).mode =
      if s.mode.mode = .leaving then { s.mode with mode := .quiet, quietWindows := 0 } else s.mode := by
  have first := (works_completeSpent s 3 q.runningKind).trans (works_settleRole _ (q.runs .feed))
  unfold State.concluded
  rw [settle_of_awake q awake, refreshTone_trunk, refreshTone_mode]
  dsimp only
  generalize (s.completeSpent 3 q.runningKind).settleRole (q.runs .feed) = u at first ⊢
  have muted : u.muted := (muted_of_untouched first.untouched).2 h
  obtain ⟨emptied, left, stayed⟩ := settleMode_of_muted muted (first.queue_nil h empty)
  have last := works_settleRole u.settleMode u.feedRunning
  have mode : u.mode = s.mode := first.untouched.mode
  refine ⟨last.queue_nil ((concluded_settleMode u).muted_iff.2 muted) emptied, ?_⟩
  rw [last.untouched.mode, ← mode]
  split
  · rename_i leaving
    exact left leaving
  · rename_i other
    rw [stayed other]

theorem Untouched.raised {s t : State} (h : Untouched s t) (i : Nat) (hi : s.port.flags.getLsbD i = true) :
    t.port.flags.getLsbD i = true := by
  have both := congrArg (fun x => x.getLsbD i) h.flags
  simpa [hi] using both

/-- The sync controller SYNCING again, its round closed, before the role unit is told (R104). -/
def State.resyncing (s : State) : State :=
  ((s.setSync .syncing).mapSync (fun x => { x.closeRound with attempts := 0 })).markRestated

theorem resyncing_frame (s : State) :
    { s.resyncing with hall := s.hall, sync := s.sync, reports := s.reports } = s ∧
    (∀ r ∈ s.reports, r ∈ s.resyncing.reports) ∧ s.resyncing.sync.status = .syncing ∧
    s.resyncing.sync.round = .idle ∧ s.resyncing.sync.attempts = 0 := by
  unfold State.resyncing State.setSync
  dsimp only
  split
  · exact ⟨rfl, fun r hr => hr, rfl, rfl, rfl⟩
  · exact ⟨rfl, fun r hr => List.mem_append_left _ hr, rfl, rfl, rfl⟩

theorem onConfined_cases (s : State) :
    (s.onConfined = s ∧ ¬(s.sync.status = .synced ∨ s.sync.status = .syncing ∨ s.sync.status = .diverged)) ∨
    s.onConfined = s.resyncing.roleSyncLost := by
  cases hs : s.sync.status with
  | listening => exact .inl ⟨by simp [State.onConfined, hs], by simp⟩
  | excluded c => exact .inl ⟨by simp [State.onConfined, hs], by simp⟩
  | _ => exact .inr (by simp [State.onConfined, State.resyncing, hs])

/-- What the sync controller makes of LISTEN_ONLY: the sync state and the restated marks move, the rest is work of the
role unit, whose requests are refused. -/
theorem onConfined_facts (s : State) (confined : s.trunk.line = .listenOnly) (empty : s.trunk.queue = []) :
    Untouched { s with hall := s.onConfined.hall, sync := s.onConfined.sync } s.onConfined ∧
    s.onConfined.trunk.queue = [] ∧ (∀ r ∈ s.reports, r ∈ s.onConfined.reports) ∧
    (s.sync.status = .synced ∨ s.sync.status = .syncing ∨ s.sync.status = .diverged →
      s.onConfined.sync.status = .syncing ∧ s.onConfined.sync.round = .idle ∧ s.onConfined.sync.attempts = 0) := by
  rcases onConfined_cases s with ⟨same, other⟩ | lost
  · rw [same]
    exact ⟨.refl s, empty, fun r hr => hr, fun h => absurd h other⟩
  · obtain ⟨frame, reports, status, round, attempts⟩ := resyncing_frame s
    have works := works_roleSyncLost s.resyncing
    have trunk : s.resyncing.trunk = s.trunk := (congrArg (fun t => t.trunk) frame).trans rfl
    have sync := works.untouched.sync
    rw [lost]
    refine ⟨?_, works.queue_nil (.inr (trunk ▸ confined)) (trunk ▸ empty), fun r hr => works.mem_reports (reports r hr),
      fun _ => ⟨(congrArg SyncState.status sync).trans status, (congrArg SyncState.round sync).trans round,
        (congrArg SyncState.attempts sync).trans attempts⟩⟩
    have begun : Untouched { s with hall := s.resyncing.roleSyncLost.hall, sync := s.resyncing.roleSyncLost.sync }
        { s.resyncing with hall := s.resyncing.roleSyncLost.hall, sync := s.resyncing.roleSyncLost.sync } := by
      have same : ({ s with hall := s.resyncing.roleSyncLost.hall, sync := s.resyncing.roleSyncLost.sync } : State) =
          { s.resyncing with hall := s.resyncing.roleSyncLost.hall, sync := s.resyncing.roleSyncLost.sync,
                             reports := s.reports } :=
        congrArg (fun t => { t with
          hall := s.resyncing.roleSyncLost.hall, sync := s.resyncing.roleSyncLost.sync }) frame.symm
      rw [same]
      exact { Untouched.refl _ with }
    exact begun.trans { works.untouched with hall := rfl, sync := rfl }

/-- The line state LISTEN_ONLY, its counts cleared (R80). -/
def State.confinedLine (s : State) : State :=
  { s with trunk := { s.trunk with line := .listenOnly, failHold := false, confMarks := 0, confExpiries := 0 } }

/-- The queue is emptied and LISTEN_ONLY flagged and reported (R80, R82). -/
def State.confinedTold (s : State) : State :=
  ((s.confinedLine.dropAll .listenOnly).raise .listenOnly).report .listenOnly

theorem confinedTold_facts (s : State) (waiting : ∀ f ∈ s.trunk.queue, f.waiting = true) :
    Untouched s.confinedLine s.confinedTold ∧ s.confinedTold.trunk.queue = [] ∧
    s.confinedTold.port.flags.getLsbD 2 = true ∧ ∀ r ∈ s.reports, r ∈ s.confinedTold.reports := by
  refine ⟨((untouched_dropAll s.confinedLine _).trans (Works.raise _ .listenOnly).untouched).trans
    (untouched_report _ _), ?_, ?_, fun r hr => List.mem_append_left _ ?_⟩
  · have none : s.trunk.queue.filter (fun f => !f.waiting) = [] :=
      List.filter_eq_nil_iff.2 (fun f hf => by simp [waiting f hf])
    change (s.confinedLine.dropAll .listenOnly).trunk.queue = []
    rw [dropAll_queue]
    exact congrArg _ none
  · change ((s.confinedLine.dropAll .listenOnly).port.flags ||| BitVec.twoPow 16 2).getLsbD 2 = true
    simp
  · change r ∈ (State.deliverAll _ _).reports
    rw [deliverAll_reports]
    exact List.mem_append_left _ hr

/-- Entry into LISTEN_ONLY of a station with no frame in flight (R80, R104). -/
theorem enterListenOnly_facts (s : State) (waiting : ∀ f ∈ s.trunk.queue, f.waiting = true) :
    Untouched { s with
      trunk := { s.trunk with line := .listenOnly, failHold := false, confMarks := 0, confExpiries := 0 }
      table := { s.table with claims := s.table.claims.filter (fun c => c.owner != s.own) }
      hall := s.enterListenOnly.hall, sync := s.enterListenOnly.sync } s.enterListenOnly ∧
    s.enterListenOnly.trunk.queue = [] ∧ s.enterListenOnly.port.flags.getLsbD 2 = true ∧
    (∀ r ∈ s.reports, r ∈ s.enterListenOnly.reports) ∧
    (s.sync.status = .synced ∨ s.sync.status = .syncing ∨ s.sync.status = .diverged →
      s.enterListenOnly.sync.status = .syncing ∧ s.enterListenOnly.sync.round = .idle ∧
      s.enterListenOnly.sync.attempts = 0) := by
  obtain ⟨untold, queue, raised, kept⟩ := confinedTold_facts s waiting
  have result : s.enterListenOnly =
      (s.confinedTold.removeClaims (fun c => c.owner == s.confinedTold.own) .listenOnly).onConfined := rfl
  rw [result]
  generalize s.confinedTold = told at *
  have unremoved := untouched_removeClaims told (fun c => c.owner == told.own) .listenOnly
  have frames := framesFrom_removeClaims told (fun c => c.owner == told.own) .listenOnly
  have stays := fun r (hr : r ∈ told.reports) =>
    mem_removeClaims_reports told (fun c => c.owner == told.own) .listenOnly hr
  generalize told.removeClaims (fun c => c.owner == told.own) .listenOnly = removed at *
  have line : told.trunk.line = .listenOnly := untold.line_eq
  have gone : removed.trunk.queue = [] := by
    refine List.eq_nil_iff_forall_not_mem.2 (fun f hf => ?_)
    rcases frames f hf with ⟨g, hg, _⟩ | ⟨unmuted, _⟩
    · simp [queue] at hg
    · exact unmuted (.inr line)
  have claims : told.table.claims.filter (fun c => !(c.owner == told.own)) =
      s.table.claims.filter (fun c => c.owner != s.own) := by
    rw [untold.claims, untold.own_eq]
    rfl
  have status : removed.sync.status = s.sync.status := unremoved.status_eq.trans untold.status_eq
  obtain ⟨untouched, emptied, reports, synced⟩ := onConfined_facts removed (unremoved.line_eq.trans line) gone
  refine ⟨?_, emptied, untouched.raised 2 (unremoved.raised 2 raised), fun r hr => reports r (stays r (kept r hr)),
    fun h => synced (status ▸ h)⟩
  have first : Untouched { s.confinedLine with
        table := { s.table with claims := s.table.claims.filter (fun c => c.owner != s.own) }
        hall := removed.onConfined.hall, sync := removed.onConfined.sync }
      { told.setClaims (told.table.claims.filter (fun c => !(c.owner == told.own))) with
        hall := removed.onConfined.hall, sync := removed.onConfined.sync } :=
    { untold with claims := claims, hall := rfl, sync := rfl }
  have second : Untouched { told.setClaims (told.table.claims.filter (fun c => !(c.owner == told.own))) with
        hall := removed.onConfined.hall, sync := removed.onConfined.sync }
      { removed with hall := removed.onConfined.hall, sync := removed.onConfined.sync } :=
    { unremoved with hall := rfl, sync := rfl }
  exact (first.trans second).trans untouched

/-! ## The statement -/

theorem listenBackFailure_eq {s : State} (received : Option Addr) (awake : s.awake = true)
    (flying : ∃ f ∈ s.trunk.queue, f.sent.isSome = true) :
    exec (.listenBackFailure received) s = .next ((let t := (s.cleared.frameBack received).applyPulled
      if 8 ≤ t.trunk.failCount then t.enterListenOnly else t).concluded s.seq) := by
  have sending : (s.cleared.awake && (inFlight s.cleared.trunk.queue).isSome) = true := by
    have found : (inFlight s.cleared.trunk.queue).isSome = true := List.find?_isSome.2 flying
    have awake' : s.cleared.awake = true := awake
    rw [found, awake']
    rfl
  change Host.Outcome.next (s.event _) = _
  rw [event_of_running _ (notReset_of_awake awake)]
  unfold State.failFrame
  rw [if_pos sending]
  rfl

/-- Settles O28: `applyPulled_facts` gives the state short of the eighth failure; at the eighth the station is confined,
and the standing conditions leave its queue empty and take it out of LEAVING. -/
theorem listenBackFails : Obligations.ListenBackFails := by
  intro s received awake flying backByShift backToQuiet helloPulled
  have answer := listenBackFailure_eq received awake flying
  obtain ⟨t, applied, frame, kept, moved, fates, silent⟩ := applyPulled_facts s.cleared received
  rw [applied] at answer
  have count : t.trunk.failCount = s.trunk.failCount + 1 := (congrArg (fun t => t.trunk.failCount) frame).trans rfl
  refine ⟨fun short => ⟨t, ?_, ?_, kept, moved, fates, silent⟩, fun eighth => ?_⟩
  · rw [answer]
    dsimp only
    rw [if_neg (by omega)]
  · exact frame
  · have queue : t.trunk.queue = (s.trunk.queue.filter (fun f => !f.pulled)).map QFrame.failed :=
      (congrArg (fun t => t.trunk.queue) frame).trans rfl
    have waiting : ∀ f ∈ t.trunk.queue, f.waiting = true := by
      intro f hf
      rw [queue] at hf
      obtain ⟨g, _, rfl⟩ := List.mem_map.1 hf
      exact failed_waiting g
    obtain ⟨confined, empty, raised, reports, syncing⟩ := enterListenOnly_facts t waiting
    have line : t.enterListenOnly.trunk.line = .listenOnly := confined.line_eq
    have mode : t.enterListenOnly.mode = t.mode := confined.mode
    have ownModes : t.mode = s.mode ∨ t.mode = s.modeFailed := by
      by_cases h : s.cleared.helloPulled
      · exact .inr (moved h)
      · exact .inl (kept h)
    have awake' : t.enterListenOnly.awake = true := by
      have reset : t.enterListenOnly.inReset = s.inReset :=
        confined.inReset.trans ((congrArg (fun t => t.inReset) frame).trans rfl)
      have failed := s.modeFailed_mode
      unfold State.awake at awake ⊢
      rw [reset, mode]
      rcases ownModes with h | h
      · rw [h, awake]
      · rcases failed with f | f <;> simp [h, f, notReset_of_awake awake]
    obtain ⟨queue', mode'⟩ := concluded_of_muted s.seq (.inr line) empty awake'
    have concluded := concluded_concluded s.seq t.enterListenOnly
    have untouched : Untouched t.enterListenOnly _ := concluded
    have trunk := concluded.trunk
    have confinedTrunk := confined.trunk
    have sync := concluded.sync
    refine ⟨_, ?_, concluded.line_eq.trans line, queue',
      (congrArg TrunkState.failHold trunk).trans (congrArg TrunkState.failHold confinedTrunk),
      (congrArg TrunkState.failCount trunk).trans ((congrArg TrunkState.failCount confinedTrunk).trans count),
      (congrArg TrunkState.lastSender trunk).trans ((congrArg TrunkState.lastSender confinedTrunk).trans ?_),
      untouched.raised 2 raised, concluded.claims.trans (confined.claims.trans ?_),
      concluded.roster.trans (confined.roster.trans ?_), fun f hf hp => ?_,
      fun leaving => ⟨fun woken => ?_, fun other => ?_⟩,
      fun joined => ?_⟩
    · rw [answer]
      dsimp only
      rw [if_pos (by omega)]
    · exact (congrArg (fun t => t.trunk.lastSender) frame).trans rfl
    · exact (congrArg (fun t => t.table.claims.filter (fun c => c.owner != t.own)) frame).trans rfl
    · exact (congrArg (fun t => t.roster) frame).trans rfl
    · exact mem_concluded_reports _ (reports _ (fates f hf hp))
    · obtain ⟨hello, wake⟩ := woken
      have back : t.mode = backByShift := by rw [moved hello]; exact if_pos wake
      have named : t.mode.mode ≠ .leaving := by
        rw [back]
        dsimp only [backByShift]
        split <;> simp
      rw [mode', mode, if_neg named, back]
    · by_cases hello : helloPulled
      · have asleep : ¬ s.mode.wakeMark = true := fun h => other ⟨hello, h⟩
        have back : t.mode = backToQuiet := by rw [moved hello]; exact if_neg asleep
        rw [mode', mode, back]
        exact if_neg (by simp [backToQuiet])
      · rw [mode', mode, kept hello]
        exact if_pos leaving
    · have status : t.sync.status = s.sync.status := (congrArg (fun t => t.sync.status) frame).trans rfl
      obtain ⟨hs, hr, ha⟩ := syncing (status ▸ joined)
      exact ⟨(congrArg SyncState.status sync).trans hs, (congrArg SyncState.round sync).trans hr,
        (congrArg SyncState.attempts sync).trans ha⟩

end Sys2Proof.Machine
end


section
/-! O19: DONEs at a crusher, its window records and bins at a MARK, and its GATE and STOP. -/

namespace Sys2Proof.Machine

/-! ## A DONE at a crusher (R11, R150) -/

/-- At a crusher a removal is reported, and no unit does anything about it. -/
theorem removeClaims_crusher (s : State) (p : Claim → Bool) (why : RemovalReason) (role : s.cfg.role = .crusher) :
    { s.removeClaims p why with reports := s.reports } = s.setClaims (s.table.claims.filter (fun c => !p c)) := by
  have reported : ∀ (l : List Claim) (u : State), u.cfg.role = .crusher →
      { l.foldl (fun u c => u.roleRemoved c.id why) u with reports := u.reports } = u := by
    intro l
    induction l with
    | nil => exact fun u _ => rfl
    | cons c l ih =>
      intro u hu
      have first : u.roleRemoved c.id why = u.report (.removed c.id why) := by
        unfold State.roleRemoved
        simp [State.report, hu]
      have rest := ih (u.roleRemoved c.id why) (by rw [first]; exact hu)
      rw [List.foldl_cons]
      exact (congrArg (fun t => { t with reports := u.reports }) rest).trans (by rw [first])
  exact reported _ (s.setClaims (s.table.claims.filter (fun c => !p c))) role

/-- The DONE names material that the inbound list does not hold yet (R150). -/
def State.namesMaterial (s : State) (a : Addr) (b : DoneBody) : Prop :=
  1 ≤ b.cls.toNat ∧ b.cls.toNat ≤ 7 ∧ b.volume ≠ 0 ∧
    ∀ x ∈ s.crusher.inbound, ¬(x.owner = a ∧ x.id = b.id ∧ x.arrival = b.arrival)

theorem addInbound_room {s : State} {a : Addr} {b : DoneBody} (names : s.namesMaterial a b)
    (room : s.crusher.inbound.length < 48) : s.addInbound a b = s.mapCrusher (fun c => { c with
      inbound := insertBy (fun a b => earlier a.arrival b.arrival)
        ⟨a, b.id, b.cls.toNat, b.volume.toNat, b.arrival⟩ c.inbound }) := by
  obtain ⟨low, high, volume, fresh⟩ := names
  unfold State.addInbound
  rw [if_neg (by rw [not_or, not_or, Nat.not_lt, Nat.not_lt]; exact ⟨low, high, volume⟩),
    if_neg (by simpa using fresh), if_pos room]

theorem addInbound_full {s : State} {a : Addr} {b : DoneBody} (names : s.namesMaterial a b)
    (full : 48 ≤ s.crusher.inbound.length) : s.addInbound a b = s.countInboundLost.raise .inboundLost := by
  obtain ⟨low, high, volume, fresh⟩ := names
  unfold State.addInbound
  rw [if_neg (by rw [not_or, not_or, Nat.not_lt, Nat.not_lt]; exact ⟨low, high, volume⟩),
    if_neg (by simpa using fresh), if_neg (Nat.not_lt.2 full)]

theorem addInbound_nothing {s : State} {a : Addr} {b : DoneBody} (names : ¬s.namesMaterial a b) :
    s.addInbound a b = s := by
  unfold State.addInbound
  split
  · rfl
  · rename_i field
    split
    · rfl
    · rename_i fresh
      simp only [not_or, Nat.not_lt] at field
      exact absurd ⟨field.1, field.2.1, field.2.2, by simpa using fresh⟩ names

/-- The inbound list aside, a DONE leaves the unit alone. -/
theorem addInbound_frame (s : State) (a : Addr) (b : DoneBody) :
    { s.addInbound a b with crusher := s.crusher, counters := s.counters, port := s.port } = s ∧
    { (s.addInbound a b).crusher with inbound := s.crusher.inbound } = s.crusher := by
  by_cases names : s.namesMaterial a b
  · by_cases room : s.crusher.inbound.length < 48
    · rw [addInbound_room names room]
      exact ⟨rfl, rfl⟩
    · rw [addInbound_full names (Nat.not_lt.1 room)]
      exact ⟨rfl, rfl⟩
  · rw [addInbound_nothing names]
    exact ⟨rfl, rfl⟩

theorem doneAtCrusher {rx : Rx DoneBody} {s h : State} {own : Bool} {a : Addr} {b : DoneBody}
    (arrives : s.cleared.arrival .done false Body.asDone rx = some (own, a, b, h)) (role : h.cfg.role = .crusher) :
    exec (.done rx) s = .next ((if h.senderExcluded a = false then (h.removeClaim a b.id .done).addInbound a b
      else h.removeClaim a b.id .done).concluded s.seq) := by
  have answer : exec (.done rx) s = .next ((h.takeDone a b).concluded s.seq) :=
    congrArg Host.Outcome.next (event_of_arrival (fun _ => State.takeDone) arrives)
  have frame := removeClaims_crusher h (fun c => c.owner == a && c.id == b.id) .done role
  have cfg : (h.removeClaim a b.id .done).cfg = h.cfg := (congrArg (fun t => t.cfg) frame).trans rfl
  have excluded : (h.removeClaim a b.id .done).senderExcluded a = h.senderExcluded a :=
    (congrArg (fun t => t.senderExcluded a) frame).trans rfl
  rw [answer]
  unfold State.takeDone
  dsimp only
  rw [cfg, excluded]
  simp [role]

/-- What a DONE taken at a crusher makes of the table and the inbound list (R11, R150). -/
theorem doneAtCrusher_facts (h : State) (a : Addr) (b : DoneBody) (role : h.cfg.role = .crusher) :
    ∃ t, (if h.senderExcluded a = false then (h.removeClaim a b.id .done).addInbound a b
        else h.removeClaim a b.id .done) = t ∧
      { t with crusher := h.crusher, counters := h.counters, port := h.port, reports := h.reports } =
        h.without a b.id ∧
      { t.crusher with inbound := h.crusher.inbound } = h.crusher ∧
      (h.senderExcluded a = false ∧ h.namesMaterial a b → h.crusher.inbound.length < 48 →
        (∀ x, x ∈ t.crusher.inbound ↔ x = ⟨a, b.id, b.cls.toNat, b.volume.toNat, b.arrival⟩ ∨ x ∈ h.crusher.inbound) ∧
        t.crusher.inbound.length = h.crusher.inbound.length + 1 ∧ t.counters = h.counters) ∧
      (h.senderExcluded a = false ∧ h.namesMaterial a b → 48 ≤ h.crusher.inbound.length →
        t.crusher = h.crusher ∧ t.counters.inboundLost = min (h.counters.inboundLost + 1) 65535 ∧
        t.port.flags.getLsbD 12 = true) ∧
      (¬(h.senderExcluded a = false ∧ h.namesMaterial a b) →
        t.crusher = h.crusher ∧ t.counters = h.counters ∧ t.port = h.port) := by
  have frame : { h.removeClaim a b.id .done with reports := h.reports } = h.without a b.id :=
    removeClaims_crusher h _ .done role
  generalize h.removeClaim a b.id .done = r at frame
  have crusher : r.crusher = h.crusher := (congrArg (fun t => t.crusher) frame).trans rfl
  have counters : r.counters = h.counters := (congrArg (fun t => t.counters) frame).trans rfl
  have port : r.port = h.port := (congrArg (fun t => t.port) frame).trans rfl
  have names : r.namesMaterial a b ↔ h.namesMaterial a b := by unfold State.namesMaterial; rw [crusher]
  have plain : { r with crusher := h.crusher, counters := h.counters, port := h.port, reports := h.reports } =
      h.without a b.id :=
    congrArg (fun t => { t with crusher := h.crusher, counters := h.counters, port := h.port }) frame
  by_cases excluded : h.senderExcluded a = false
  · rw [if_pos excluded]
    obtain ⟨added, list⟩ := addInbound_frame r a b
    refine ⟨_, rfl, ?_, crusher ▸ list, fun counts room => ?_, fun counts full => ?_, fun idle => ?_⟩
    · exact (congrArg (fun t => { t with
        crusher := h.crusher, counters := h.counters, port := h.port, reports := h.reports }) added).trans plain
    · rw [addInbound_room (names.2 counts.2) (crusher ▸ room)]
      refine ⟨fun x => ?_, ?_, counters⟩
      · rw [← crusher]
        exact mem_insertBy
      · rw [← crusher]
        exact (perm_insertBy _ _).length_eq
    · rw [addInbound_full (names.2 counts.2) (crusher ▸ full), ← counters]
      refine ⟨crusher, rfl, ?_⟩
      change (r.port.flags ||| BitVec.twoPow 16 12).getLsbD 12 = true
      simp
    · rw [addInbound_nothing (fun k => idle ⟨excluded, names.1 k⟩)]
      exact ⟨crusher, counters, port⟩
  · rw [if_neg excluded]
    exact ⟨_, rfl, plain, by rw [crusher], fun counts => absurd counts.1 excluded, fun counts => absurd counts.1 excluded,
      fun _ => ⟨crusher, counters, port⟩⟩

/-! ## The MARK at a crusher (R149, R151 to R153) -/

/-- One inbound entry against a record that was accepting goes into its bin, and the rest into the surge level. -/
def State.intoBin (s : State) (position : Nat) (e : Inbound) : State :=
  let n := s.crusher.fills.getD (position - 1) 0
  let room := s.cfg.cru.capacities.getD (position - 1) 0 - n
  { s with
    crusher := { s.crusher with
      fills := s.crusher.fills.set (position - 1) (n + min e.volume room)
      surge := min (s.crusher.surge + (e.volume - room)) 65535 }
    counters := if e.cls = position then s.counters
      else { s.counters with mixed := min (s.counters.mixed + 1) 65535 }
    port := if e.cls = position then s.port else { s.port with flags := s.port.flags ||| 0x0800#16 } }

theorem consumeOne_refused {s : State} {m : Window} {e : Inbound}
    (h : (if e.arrival = m then s.crusher.current else s.crusher.previous).accepting = false) :
    s.consumeOne m e =
      { s with crusher := { s.crusher with surge := min (s.crusher.surge + e.volume) 65535 } } := by
  unfold State.consumeOne
  dsimp only
  rw [h]
  rfl

theorem consumeOne_accepted {s : State} {m : Window} {e : Inbound} {r : WindowRecord}
    (hr : (if e.arrival = m then s.crusher.current else s.crusher.previous) = r) (h : r.accepting = true) :
    s.consumeOne m e = (s.intoBin r.position e).judgeHold r.position := by
  unfold State.consumeOne
  rw [hr]
  dsimp only
  rw [if_pos h]
  congr 1
  by_cases hc : e.cls = r.position <;> simp only [hc, if_true, if_false, State.intoBin] <;> rfl

/-- The window records move on, and the diverter takes the arriving entry's class, if set (R149). -/
theorem turnDiverter_eq (s : State) :
    s.turnDiverter = { s with crusher := { s.crusher with
      previous := s.crusher.current, diverter := s.plan.arriving.cls.getD s.crusher.diverter
      current := ⟨s.plan.arriving.cls.getD s.crusher.diverter,
        decide (s.crusher.mode = .running) && s.seq.runs .feed⟩ } } := by
  unfold State.turnDiverter
  cases s.plan.arriving.cls <;> rfl

theorem markCrusher_eq (s : State) (m : Window) :
    let u := s.turnDiverter.consume m
    let level := u.crusher.surge - if u.crusher.current.accepting then s.cfg.cru.drainRate else 0
    s.markCrusher m = ({ u with crusher := { u.crusher with
      surge := level
      surgeStop := if u.crusher.surgeStop then decide (s.cfg.cru.surgeCapacity / 2 < level)
        else decide (s.cfg.cru.surgeCapacity ≤ level) } } : State).tellHall := by
  intro u level
  have cfg : u.cfg = s.cfg := by
    have consumed : SameRecords s.turnDiverter u := (same_mapCrusher _ _).trans (same_foldl _ (same_consumeOne m) _ _)
    exact consumed.cfg.trans rfl
  have drained : u.crusher.drain u.cfg.cru = { u.crusher with
      surge := level
      surgeStop := if u.crusher.surgeStop then decide (s.cfg.cru.surgeCapacity / 2 < level)
        else decide (s.cfg.cru.surgeCapacity ≤ level) } := by
    have surge : (if u.crusher.current.accepting then u.crusher.surge - u.cfg.cru.drainRate else u.crusher.surge) =
        level := by
      dsimp only [level]
      rw [cfg]
      split <;> simp
    have stop : (!decide (level ≤ u.cfg.cru.surgeCapacity / 2)) = decide (s.cfg.cru.surgeCapacity / 2 < level) := by
      rw [cfg, ← decide_not]
      simp only [Nat.not_le]
    unfold CrusherState.drain
    dsimp only
    rw [surge, stop, cfg]
  exact congrArg (fun c => State.tellHall { u with crusher := c }) drained

/-! ## GATE and STOP (R155, R156) -/

theorem mayGate_iff (s : State) : s.mayGate = true ↔ s.trunk.line = .active ∧
    (s.sync.status = .syncing ∨ s.sync.status = .synced ∨ s.sync.status = .diverged) := by
  unfold State.mayGate State.lineActive
  cases s.sync.status <;> simp [SyncStatus.joined]

theorem compareStop_of_none {s : State} (h : stopCall s.own s.ownStop s.crusher.wantedStop = none) :
    s.compareStop = s := by
  unfold State.compareStop
  rw [h]
  split <;> rfl

theorem compareStop_of_some {s : State} {b : QBody} (may : s.mayGate = true)
    (h : stopCall s.own s.ownStop s.crusher.wantedStop = some b) :
    s.compareStop =
      let u := s.pullWaiting (fun f => f.unitStop && f.body != b)
      if u.trunk.queue.any (fun f => f.unitStop && f.body == b) then u else u.request b .role true := by
  unfold State.compareStop
  rw [h, if_pos may]

/-- Settles O19: the removal at a crusher is reported alone, `addInbound` has its three outcomes, the MARK's part is
`markCrusher_eq` over `consumeOne`, and `stopCall` names the frame that the comparison calls for. -/
theorem doneInbound : Obligations.DoneInbound := by
  refine ⟨fun rx s h own a b arrives role => ?_, fun s m => ?_, fun s m e => ?_, fun s => ?_⟩
  · obtain ⟨t, taken, frame, list, room, full, idle⟩ := doneAtCrusher_facts h a b role
    refine ⟨t, by rw [doneAtCrusher arrives role, taken], (congrArg (fun t => t.table.claims) frame).trans rfl, list,
      (congrArg (fun t => t.roster) frame).trans rfl, (congrArg (fun t => t.hall) frame).trans rfl,
      (congrArg (fun t => t.plan) frame).trans rfl, (congrArg (fun t => t.seq) frame).trans rfl,
      (congrArg (fun t => t.trunk) frame).trans rfl, room, full, idle⟩
  · intro later place moved
    have kept : (fun e : Inbound => !dueBy e.arrival m) = later := by
      funext e
      exact (Bool.not_not _).trans (Bool.decide_and _ _).symm
    have due : (fun e : Inbound => dueBy e.arrival m) = fun e => !later e := by
      funext e
      rw [← kept, Bool.not_not]
    have turned : s.turnDiverter.mapCrusher
        (fun c => { c with inbound := c.inbound.filter (fun e => !dueBy e.arrival m) }) = moved := by
      rw [turnDiverter_eq, kept]
      rfl
    have listed : s.turnDiverter.crusher.inbound = s.crusher.inbound := by rw [turnDiverter_eq]
    have consumed : s.turnDiverter.consume m =
        (s.crusher.inbound.filter (fun e => !later e)).foldl (State.consumeOne m) moved := by
      unfold State.consume
      dsimp only
      rw [turned, listed, due]
    rw [← consumed]
    exact markCrusher_eq s m
  · intro r
    refine ⟨consumeOne_refused, fun accepting => ?_⟩
    rw [consumeOne_accepted (r := r) rfl accepting]
    rfl
  · intro may entry wanted mine calls
    have called : s.mayGate = true → ∀ b, stopCall s.own entry wanted = some b → calls b :=
      fun h b hb => compareStop_of_some h hb
    have byMay := mayGate_iff s
    refine ⟨fun no => ?_, fun yes => if_pos (byMay.2 yes), rfl, fun same => compareStop_of_none ?_,
      fun yes held none => called (byMay.2 yes) _ ?_, fun yes operator other jam => called (byMay.2 yes) _ ?_,
      fun yes operator other full => called (byMay.2 yes) _ ?_⟩
    · have barred : ¬s.mayGate = true := fun h => no (byMay.1 h)
      exact ⟨if_neg barred, if_neg barred⟩
    · change stopCall s.own entry wanted = none
      rcases same with h | h
      · simp [h, stopCall]
      · rw [h]
        cases wanted with
        | none => rfl
        | some c => cases c <;> simp [stopCall]
    · rw [none]
      rcases held with h | h <;> rw [h] <;> rfl
    · rw [jam]
      cases he : entry with
      | none => rfl
      | some c =>
        cases c with
        | jam => exact absurd he other
        | surgeFull => rfl
        | operator => exact absurd he operator
    · rw [full]
      cases he : entry with
      | none => rfl
      | some c =>
        cases c with
        | jam => rfl
        | surgeFull => exact absurd he other
        | operator => exact absurd he operator

end Sys2Proof.Machine
end


section
/-! O3: what the standing conditions make of a state. -/

namespace Sys2Proof.Machine

/-! ## Seal order (R119) -/

/-- Lots are returned in seal order: no COMMITTED lot whose older lots do not all lead to it. -/
theorem firstOutOfOrder_eq_none {older lots : List Lot} : firstOutOfOrder older lots = none ↔
    ∀ i l, lots[i]? = some l → l.status = .committed →
      ∀ k ∈ older ++ lots.take i, k.leadsTo (l.discharge.getD 0) = true := by
  induction lots generalizing older with
  | nil => simp [firstOutOfOrder]
  | cons x lots ih =>
    unfold firstOutOfOrder
    split
    · rename_i late
      obtain ⟨committed, late⟩ := late
      simp only [reduceCtorEq, false_iff]
      intro ordered
      have leads : older.all (Lot.leadsTo (x.discharge.getD 0)) = true := List.all_eq_true.2 (fun k hk =>
        ordered 0 x rfl committed k (by simpa using hk))
      rw [leads] at late
      cases late
    · rename_i first
      rw [ih]
      refine ⟨fun ordered i l hi committed k hk => ?_, fun ordered i l hi committed k hk => ?_⟩
      · cases i with
        | zero =>
          obtain rfl : x = l := by simpa using hi
          have leads : older.all (Lot.leadsTo (x.discharge.getD 0)) = true := by
            by_contra h
            exact first ⟨committed, Bool.eq_false_iff.2 h⟩
          exact List.all_eq_true.1 leads k (by simpa using hk)
        | succ i => exact ordered i l (by simpa using hi) committed k (by simpa using hk)
      · exact ordered (i + 1) l (by simpa using hi) committed k (by simpa using hk)

theorem firstOutOfOrder_eq_some {older lots : List Lot} {l : Lot} (h : firstOutOfOrder older lots = some l) :
    l ∈ lots ∧ l.status = .committed := by
  induction lots generalizing older with
  | nil => cases h
  | cons x lots ih =>
    unfold firstOutOfOrder at h
    split at h
    · rename_i late
      obtain rfl : x = l := by simpa using h
      exact ⟨List.mem_cons_self, late.1⟩
    · obtain ⟨mem, committed⟩ := ih h
      exact ⟨List.mem_cons_of_mem _ mem, committed⟩

/-- A COMMITTED lot `l` that the older lot `k` does not lead to (R119). -/
def lateAfter (l k : Lot) : Prop := ¬((k.status = .committed ∨ k.status = .discharging) ∧
  ∃ w, k.discharge = some w ∧ 1 ≤ (l.discharge.getD 0 - w).toNat ∧ (l.discharge.getD 0 - w).toNat ≤ 255)

/-- Some COMMITTED lot is out of seal order. -/
def unrulyLots (lots : List Lot) : Prop := ∃ (i j : Nat) (l k : Lot), lots[i]? = some l ∧
  lots[j]? = some k ∧ j < i ∧ l.status = .committed ∧ lateAfter l k

theorem earlier_iff {a b : Window} : earlier a b = true ↔ 1 ≤ (b - a).toNat ∧ (b - a).toNat ≤ 255 := by
  unfold earlier fwd
  rw [Bool.and_eq_true, decide_eq_true_iff, decide_eq_true_iff]

theorem leadsTo_iff {l k : Lot} : k.leadsTo (l.discharge.getD 0) = true ↔ ¬lateAfter l k := by
  unfold lateAfter Lot.leadsTo
  rw [not_not]
  cases hk : k.discharge <;> simp [earlier_iff]

theorem firstOutOfOrder_iff {lots : List Lot} : firstOutOfOrder [] lots = none ↔ ¬unrulyLots lots := by
  rw [firstOutOfOrder_eq_none]
  refine ⟨fun ordered unruly => ?_, fun ruly i l hi committed k hk => ?_⟩
  · obtain ⟨i, j, l, k, hi, hj, lt, committed, late⟩ := unruly
    refine leadsTo_iff.1 (ordered i l hi committed k ?_) late
    exact List.mem_of_getElem? (i := j) (by simpa [List.getElem?_take, lt] using hj)
  · refine leadsTo_iff.2 (fun late => ruly ?_)
    obtain ⟨j, hj⟩ := List.mem_iff_getElem?.1 (by simpa using hk : k ∈ lots.take i)
    have lt : j < i := by
      by_contra h
      simp [h] at hj
    exact ⟨i, j, l, k, hi, by simpa [List.getElem?_take, lt] using hj, lt, committed, late⟩

/-! ### The withdrawals come to an end -/

/-- The fates of a request move SEALED lots alone, and leave them SEALED (R118). -/
def SealedMoves (s t : State) : Prop := ∃ g : Lot → Lot, t.discharge.lots = s.discharge.lots.map g ∧
  ∀ l, (g l).status = l.status ∧ (l.status ≠ .sealed → g l = l)

theorem SealedMoves.of_lots_eq {s t : State} (h : t.discharge.lots = s.discharge.lots) : SealedMoves s t :=
  ⟨id, by simp [h], fun _ => ⟨rfl, fun _ => rfl⟩⟩

theorem SealedMoves.trans {a b c : State} (h : SealedMoves a b) (k : SealedMoves b c) : SealedMoves a c := by
  obtain ⟨f, hf, fixes⟩ := h
  obtain ⟨g, hg, gixes⟩ := k
  refine ⟨g ∘ f, by rw [hg, hf, List.map_map], fun l => ⟨(gixes _).1.trans (fixes l).1, fun other => ?_⟩⟩
  have same := (fixes l).2 other
  rw [Function.comp, same]
  exact (gixes l).2 other

theorem Lot.claimFate_moves (id : Byte) (f : Fate) (l : Lot) :
    (l.claimFate id f).status = l.status ∧ (l.status ≠ .sealed → l.claimFate id f = l) := by
  unfold Lot.claimFate
  split
  · rename_i posted
    exact ⟨by split <;> rfl, fun other => absurd posted.2 other⟩
  · exact ⟨rfl, fun _ => rfl⟩

theorem sealedMoves_deliver (s : State) (who : Block) (b : QBody) (f : Fate) : SealedMoves s (s.deliver who b f) := by
  unfold State.deliver
  dsimp only
  split
  · unfold State.claimFate
    split
    · exact ⟨_, rfl, fun l => l.claimFate_moves _ f⟩
    · exact .of_lots_eq rfl
    · exact .of_lots_eq rfl
  · exact .of_lots_eq (by unfold State.doneFate; split <;> rfl)
  · exact .of_lots_eq rfl
  · exact .of_lots_eq rfl

theorem sealedMoves_request (s : State) (b : QBody) (who : Block) (u : Bool) : SealedMoves s (s.request b who u) := by
  have all : ∀ (l : List (Block × QBody × Fate)) (t : State), SealedMoves t (t.deliverAll l) := by
    intro l
    induction l with
    | nil => exact fun t => .of_lots_eq rfl
    | cons x l ih => exact fun t => (sealedMoves_deliver t _ _ _).trans (ih _)
  have queued : SealedMoves s (s.setQueue (s.settleOf b who u).queue) := .of_lots_eq rfl
  exact (queued.trans (all _ _)).trans (sealedMoves_deliver _ _ _ _)

/-- The COMMITTED lots of a list. -/
def committedCount (lots : List Lot) : Nat := lots.countP (fun l => l.status == .committed)

theorem countP_lt_of_imp {α : Type} {p q : α → Bool} (imp : ∀ x, q x = true → p x = true) {l : List α} {x : α}
    (hx : x ∈ l) (hp : p x = true) (hq : q x = false) : l.countP q < l.countP p := by
  obtain ⟨before, after, rfl⟩ := List.append_of_mem hx
  have left := List.countP_mono_left (l := before) (fun y _ => imp y)
  have right := List.countP_mono_left (l := after) (fun y _ => imp y)
  simp [List.countP_append, hp, hq]
  omega

/-- A withdrawal returns its lot, and commits none. -/
theorem withdrawLot_commits (s : State) {l : Lot} {id : Byte} (mem : l ∈ s.discharge.lots)
    (committed : l.status = .committed) (named : l.claimId = some id) :
    committedCount (s.withdrawLot id).discharge.lots < committedCount s.discharge.lots ∧
    ((∀ k ∈ s.discharge.lots, k.status = .committed → k.claimId ≠ none) →
      ∀ k ∈ (s.withdrawLot id).discharge.lots, k.status = .committed → k.claimId ≠ none) := by
  obtain ⟨g, lots, moves⟩ := sealedMoves_request
    (s.mapLots (fun l => if l.claimId = some id ∧ l.status ≠ .discharging then l.unclaim else l))
    (.withdraw ⟨id⟩) .role false
  have withdrawn : (s.withdrawLot id).discharge.lots = s.discharge.lots.map (fun l =>
      g (if l.claimId = some id ∧ l.status ≠ .discharging then l.unclaim else l)) := by
    refine lots.trans ?_
    change (s.discharge.lots.map _).map g = _
    rw [List.map_map]
    rfl
  have stays : ∀ k : Lot, (g (if k.claimId = some id ∧ k.status ≠ .discharging then k.unclaim else k)).status =
      .committed → k.status = .committed ∧
      g (if k.claimId = some id ∧ k.status ≠ .discharging then k.unclaim else k) = k := by
    intro k hk
    rw [(moves _).1] at hk
    split at hk
    · cases hk
    · rename_i other
      rw [if_neg other]
      exact ⟨hk, (moves k).2 (by rw [hk]; simp)⟩
  rw [withdrawn]
  refine ⟨?_, fun all k hk hc => ?_⟩
  · unfold committedCount
    rw [List.countP_map]
    refine countP_lt_of_imp (fun k hk => ?_) mem (by simp [committed]) ?_
    · exact beq_iff_eq.2 (stays k (beq_iff_eq.1 hk)).1
    · have gone : (g (if l.claimId = some id ∧ l.status ≠ .discharging then l.unclaim else l)).status = .sealed := by
        rw [(moves _).1, if_pos ⟨named, by rw [committed]; simp⟩]
        rfl
      simp [gone]
  · obtain ⟨x, hx, rfl⟩ := List.mem_map.1 hk
    obtain ⟨xc, same⟩ := stays x hc
    rw [same]
    exact all x hx xc

/-- As many withdrawals as there are COMMITTED lots leave the lots in seal order. -/
theorem keepSealOrder_ruly (n : Nat) (s : State) (count : committedCount s.discharge.lots ≤ n)
    (named : ∀ l ∈ s.discharge.lots, l.status = .committed → l.claimId ≠ none) :
    ¬unrulyLots (State.keepSealOrder n s).discharge.lots := by
  induction n generalizing s with
  | zero =>
    rintro ⟨i, _, l, _, hi, _, _, committed, _⟩
    have none : ∀ l ∈ s.discharge.lots, ¬(l.status == .committed) = true := by
      simpa [committedCount, List.countP_eq_zero] using count
    exact none l (List.mem_of_getElem? hi) (by simp [committed])
  | succ n ih =>
    unfold State.keepSealOrder
    split
    · rename_i l found
      obtain ⟨mem, committed⟩ := firstOutOfOrder_eq_some found
      obtain ⟨id, hid⟩ := Option.ne_none_iff_exists'.1 (named l mem committed)
      obtain ⟨fewer, still⟩ := withdrawLot_commits s mem committed hid
      rw [hid]
      exact ih _ (Nat.le_of_lt_succ (Nat.lt_of_lt_of_le fewer count)) (still named)
    · rename_i none
      exact firstOutOfOrder_iff.1 none

/-! ## Opening and indexing (R111, R115) -/

theorem skipLot_eq_none {lots : List Lot} :
    skipLot lots = none ↔ ∀ l, lots.getLast? = some l → l.onTrack = true := by
  unfold skipLot
  cases lots.getLast? with
  | none => simp
  | some l => cases h : l.onTrack <;> simp [h]

theorem skipLot_eq_some {lots : List Lot} {l : Lot} :
    skipLot lots = some l ↔ lots.getLast? = some l ∧ l.onTrack = false := by
  unfold skipLot
  cases lots.getLast? with
  | none => simp
  | some k =>
    by_cases h : k.onTrack = true
    · simp only [h, if_true, Option.some.injEq, reduceCtorEq, false_iff]
      rintro ⟨rfl, off⟩
      exact absurd h (by simp [off])
    · simp only [h, Option.some.injEq]
      exact ⟨fun same => ⟨Option.some.inj same, Option.some.inj same ▸ Bool.eq_false_iff.2 h⟩,
        fun same => congrArg some same.1⟩

theorem mayOpen_iff (s : State) : s.mayOpen = true ↔
    (∀ l, s.discharge.lots.getLast? = some l → l.onTrack = true) ∧ s.mode.mode = .run ∧
      s.discharge.beltFault = false ∧ s.seq.runs .index = false ∧
      1 ≤ s.pins.classCode.toNat ∧ s.pins.classCode.toNat ≤ 6 := by
  have code : ((s.pins.classCode != 0) && (s.pins.classCode != 7)) = true ↔
      1 ≤ s.pins.classCode.toNat ∧ s.pins.classCode.toNat ≤ 6 := by
    have bound := s.pins.classCode.isLt
    rw [Bool.and_eq_true, bne_iff_ne, bne_iff_ne, ne_eq, ne_eq, ← BitVec.toNat_inj, ← BitVec.toNat_inj]
    simp
    omega
  have skip : (skipLot s.discharge.lots).isNone = true ↔ ∀ l, s.discharge.lots.getLast? = some l → l.onTrack = true := by
    rw [Option.isNone_iff_eq_none, skipLot_eq_none]
  unfold State.mayOpen
  rw [Bool.and_assoc, Bool.and_eq_true, code, Bool.and_eq_true, Bool.and_eq_true, Bool.and_eq_true, skip, beq_iff_eq]
  constructor
  · rintro ⟨⟨⟨⟨track, run⟩, belt⟩, hold⟩, pins⟩
    have idle : s.seq.runs .index = false := by
      cases hr : s.seq.runs .index
      · rfl
      · simp [State.machineHold, hr] at hold
    exact ⟨track, run, by simpa using belt, idle, pins⟩
  · rintro ⟨track, run, belt, idle, pins⟩
    have sealed : skipSealed s.discharge.lots = false := by simp [skipSealed, skipLot_eq_none.2 track]
    exact ⟨⟨⟨⟨track, run⟩, by simp [belt]⟩, by simp [State.machineHold, sealed, idle, belt, State.working, run]⟩, pins⟩

theorem mayIndex_iff (s : State) : s.mayIndex = true ↔
    (∃ l, s.discharge.lots.getLast? = some l ∧ l.onTrack = false ∧ l.status ≠ .opened ∧ l.volume ≠ none) ∧
      (s.discharge.lots.filter (fun l => l.onTrack)).length < 5 ∧ s.discharge.beltFault = false ∧
      s.seq.holdsOp .index = false := by
  unfold State.mayIndex
  rw [Bool.and_eq_true, Bool.and_eq_true, Bool.and_eq_true, decide_eq_true_iff, Bool.not_eq_true', Bool.not_eq_true',
    and_assoc, and_assoc]
  refine and_congr_left (fun _ => ?_)
  cases skip : skipLot s.discharge.lots with
  | none =>
    simp only [Bool.false_eq_true, false_iff]
    rintro ⟨l, last, off, _⟩
    rw [skipLot_eq_some.2 ⟨last, off⟩] at skip
    cases skip
  | some l =>
    obtain ⟨last, off⟩ := skipLot_eq_some.1 skip
    simp only [Bool.and_eq_true, bne_iff_ne, Option.isSome_iff_ne_none]
    exact ⟨fun h => ⟨l, last, off, h⟩, fun ⟨k, last', _, h⟩ => by
      obtain rfl : l = k := by simpa [last] using last'
      exact h⟩

/-! ## Ids and posting (R2, R117) -/

/-- An id is in use (R2). -/
def State.usesId (s : State) (id : Byte) : Prop := (∃ c ∈ s.table.claims, c.owner = s.own ∧ c.id = id) ∨
  ∃ f ∈ s.trunk.queue, f.sent = none ∧ ∃ b, f.body = .claim b ∧ b.id = id

theorem waitingClaim_iff {id : Byte} {f : QFrame} :
    f.waitingClaim id = true ↔ f.sent = none ∧ ∃ b, f.body = .claim b ∧ b.id = id := by
  unfold QFrame.waitingClaim
  split
  · rename_i b body
    simp [QFrame.waiting, body]
  · rename_i other
    simp only [Bool.false_eq_true, false_iff]
    rintro ⟨_, b, body, _⟩
    exact other b body

theorem idInUse_iff (s : State) (id : Byte) : s.idInUse id = true ↔ s.usesId id := by
  unfold State.idInUse State.usesId State.ownClaim
  simp [List.find?_isSome, waitingClaim_iff]

/-- The first free id is issued, the ids before it being in use. -/
theorem freeFrom_eq (s : State) (fuel n : Nat) (id : Byte) (enough : n < fuel)
    (used : ∀ k < n, s.usesId (id + BitVec.ofNat 8 k)) (free : ¬s.usesId (id + BitVec.ofNat 8 n)) :
    s.freeFrom fuel id = id + BitVec.ofNat 8 n := by
  induction n generalizing fuel id with
  | zero =>
    cases fuel with
    | zero => cases enough
    | succ fuel =>
      have free' : ¬s.idInUse id = true := fun h => free (by simpa using (idInUse_iff s id).1 h)
      unfold State.freeFrom
      rw [if_neg free']
      simp
  | succ n ih =>
    cases fuel with
    | zero => cases enough
    | succ fuel =>
      have next : ∀ k, id + 1 + BitVec.ofNat 8 k = id + BitVec.ofNat 8 (k + 1) := fun k => by
        rw [BitVec.add_assoc, Nat.add_comm k 1, BitVec.ofNat_add]
        rfl
      have first : s.idInUse id = true := (idInUse_iff s id).2 (by simpa using used 0 (Nat.succ_pos n))
      unfold State.freeFrom
      rw [if_pos first, ← next]
      exact ih fuel (id + 1) (Nat.lt_of_succ_lt_succ enough) (fun k hk => next k ▸ used (k + 1) (Nat.succ_lt_succ hk))
        (next n ▸ free)

/-- The lot's claim is CLAIMED, COMMITTED or DISCHARGING. -/
def Lot.holdsClaim (l : Lot) : Prop := l.status = .claimed ∨ l.status = .committed ∨ l.status = .discharging

theorem firstUnclaimed_skip {older : List Lot} (h : ∀ k ∈ older, k.holdsClaim) (rest : List Lot) :
    firstUnclaimed (older ++ rest) = firstUnclaimed rest := by
  unfold firstUnclaimed
  have none : older.find? (fun l => !(l.status == .claimed || l.status == .committed || l.status == .discharging)) =
      none := by
    rw [List.find?_eq_none]
    intro k hk
    rcases h k hk with e | e | e <;> simp [e]
  rw [List.find?_append, none, Option.none_or]

theorem firstUnclaimed_head {l : Lot} (h : ¬l.holdsClaim) (rest : List Lot) : firstUnclaimed (l :: rest) = some l := by
  simp only [Lot.holdsClaim, not_or] at h
  simp [firstUnclaimed, h.1, h.2.1, h.2.2]

theorem markPosted_eq {older : List Lot} (held : ∀ k ∈ older, k.holdsClaim) {l : Lot} (h : ¬l.holdsClaim) (id : Byte)
    (younger : List Lot) :
    markPosted id (older ++ l :: younger) = older ++ { l with claimId := some id } :: younger := by
  induction older with
  | nil => exact if_neg h
  | cons k older ih =>
    have rest := ih (fun x hx => held x (List.mem_cons_of_mem _ hx))
    exact (if_pos (held k List.mem_cons_self)).trans (congrArg (k :: ·) rest)

theorem mayPost_iff (s : State) (l : Lot) : (s.mayPostLots && l.postable) = true ↔
    l.status = .sealed ∧ l.volume ≠ none ∧ l.claimId = none ∧ l.refused = false ∧
      s.sync.status = .synced ∧ s.trunk.line = .active ∧ s.discharge.held = false ∧ s.mode.supply = .normal ∧
      s.discharge.beltFault = false := by
  simp only [State.mayPostLots, Lot.postable, State.lineActive, Bool.and_eq_true, beq_iff_eq, Bool.not_eq_true',
    Option.isSome_iff_ne_none, Option.isNone_iff_eq_none]
  tauto

theorem postLot_of_none {s : State} (h : firstUnclaimed s.discharge.lots = none) : s.postLot = s := by
  simp [State.postLot, h]

theorem postLot_of_some {s : State} {l : Lot} (h : firstUnclaimed s.discharge.lots = some l) :
    s.postLot = if s.mayPostLots && l.postable then
      ((s.issued s.freshId).setLots (markPosted s.freshId s.discharge.lots)).request
        (.claim (s.lotClaim l s.freshId)) .role
    else s := by
  simp only [State.postLot, h]
  rfl

/-! ## The statement -/

/-- No operation is spent that the event did not find running, so none completes now. -/
theorem completeSpent_of_seen {s : State} {before : Option OpKind} (n : Nat)
    (seen : ∀ o, s.seq.running = some o → o.spent = true → before = some o.kind) : s.completeSpent n before = s := by
  cases n with
  | zero => rfl
  | succ n =>
    unfold State.completeSpent
    split
    · rename_i o running
      exact if_neg (fun h => h.2 (seen o running h.1))
    · rfl

theorem settleRole_crusher {s : State} (ran : Bool) (role : s.cfg.role = .crusher) :
    (∀ u : State, (if ran = false ∧ u.seq.runs .feed = true ∧ u.channelIs 0 .above = true then u.jam else u) =
      if !ran && u.feedRunning && u.channelIs 0 .above then u.jam else u) ∧
    s.settleRole ran = (let u := if s.mayFeed then s.requestOp (feedOp s.feedLevel) else s
      if !ran && u.feedRunning && u.channelIs 0 .above then u.jam else u) := by
  refine ⟨fun u => ?_, ?_⟩
  · simp [State.feedRunning, and_assoc]
  · simp only [State.settleRole, role]
    rfl

theorem mayFeed_iff (s : State) : s.mayFeed = true ↔
    s.crusher.mode = .running ∧ (s.mode.mode = .run ∨ s.mode.mode = .quiet) ∧ s.seq.holdsOp .feed = false := by
  simp [State.mayFeed, State.working, and_assoc]

theorem feedLevel_eq (s : State) :
    s.feedLevel = if s.channelIs 1 .above then s.cfg.cru.reducedFeed else s.cfg.cru.feed := by
  simp [State.feedLevel, State.channelIs]

/-- Settles O3: each standing condition by the lemma that says when it acts; the withdrawals of R119 end because each
returns a COMMITTED lot and none commits one. -/
theorem concludingKeepsRecords : Obligations.ConcludingKeepsRecords := by
  refine ⟨fun q s => ⟨concluded_concluded q s, fun asleep => ?_⟩, fun q s awake seen => ?_, fun s ran role => ?_,
    fun s => ?_, fun s => ?_, fun s => ?_, fun s n => ?_, fun s older younger l => ?_, fun s ran role => ?_⟩
  · rw [concluded_of_asleep q asleep]
    exact refreshTone_frame s
  · intro u
    have none_spent : s.completeSpent 3 q.runningKind = s := completeSpent_of_seen 3 seen
    unfold State.concluded
    rw [settle_of_awake q awake, none_spent]
  · simp only [State.settleRole, role]
    rfl
  · intro late unruly
    refine ⟨fun ruly => ?_, fun few named => ⟨keepSealOrder_ruly 6 s ?_ named, (works_keepSealOrder s 6).untouched⟩⟩
    · have none : firstOutOfOrder [] s.discharge.lots = none := firstOutOfOrder_iff.2 ruly
      simp [State.keepSealOrder, none]
    · exact List.countP_le_length.trans few
  · intro may
    have iff : s.mayOpen = true ↔ may := mayOpen_iff s
    exact ⟨fun h => if_pos (iff.2 h), fun h => if_neg (fun k => h (iff.1 k))⟩
  · intro may
    have iff : s.mayIndex = true ↔ may := mayIndex_iff s
    exact ⟨fun h => if_pos (iff.2 h), fun h => if_neg (fun k => h (iff.1 k))⟩
  · exact fun small used free => freeFrom_eq s 256 n s.table.nextId small used free
  · intro claimed held
    refine ⟨fun lots => postLot_of_none ?_, fun lots free => ?_⟩
    · rw [lots, ← List.append_nil older, firstUnclaimed_skip held]
      rfl
    · intro may rank volume
      have first : firstUnclaimed s.discharge.lots = some l := by
        rw [lots, firstUnclaimed_skip held, firstUnclaimed_head free]
      have iff : (s.mayPostLots && l.postable) = true ↔ may := mayPost_iff s l
      rw [postLot_of_some first, lots, markPosted_eq held free]
      exact ⟨fun h => if_pos (iff.2 h), fun h => if_neg (fun k => h (iff.1 k))⟩
  · intro may level fed after
    obtain ⟨jams, settled⟩ := settleRole_crusher ran role
    have iff : s.mayFeed = true ↔ may := mayFeed_iff s
    have fedEq : s.requestOp (feedOp s.feedLevel) = fed := by rw [feedLevel_eq]; rfl
    rw [settled, fedEq]
    refine ⟨fun h => ?_, fun h => ?_⟩
    · rw [if_pos (iff.2 h)]
      exact (jams fed).symm
    · rw [if_neg (fun k => h (iff.1 k))]
      exact (jams s).symm

end Sys2Proof.Machine
end


section
/-! SUPPORT. What station information, a leaver, and an exclusion make of the state, for HELLO and ROW frames (R14, R28,
R59 to R63, R94, R95). -/

namespace Sys2Proof.Machine

/-! ## A queued ASK that is no longer needed (R65) -/

/-- The queue without the waiting ASK for a HELLO from `a`. -/
theorem dropAsk_facts (s : State) (a : Addr) :
    { s.dropAsk a with trunk := s.trunk, reports := s.reports } = s ∧
    { (s.dropAsk a).trunk with queue := s.trunk.queue } = s.trunk ∧
    (∀ f ∈ (s.dropAsk a).trunk.queue, f.body = .ask (askHello a) → f.sent.isSome = true) ∧
    ∀ r ∈ s.reports, r ∈ (s.dropAsk a).reports := by
  have made : s.dropAsk a = { s with
      trunk := { s.trunk with queue := (s.dropAsk a).trunk.queue }, reports := (s.dropAsk a).reports } := by
    unfold State.dropAsk State.pullWaiting State.pull
    dsimp only
    rw [deliverAll_withdrawn]
    rfl
  refine ⟨by rw [made], by rw [made], fun f hf asks => ?_, fun r hr => (Works.pull s _).mem_reports hr⟩
  change f ∈ (s.pull (fun f => f.body == .ask (askHello a) && f.waiting)).trunk.queue at hf
  rw [pull_queue] at hf
  obtain ⟨g, hg, rfl⟩ := List.mem_map.1 hf
  have kept := (List.mem_filter.1 hg).2
  have body : g.body = .ask (askHello a) := by
    rw [← asks]
    split <;> rfl
  have flying : g.sent.isSome = true := by
    cases hs : g.sent with
    | none => simp [body, QFrame.waiting, hs] at kept
    | some b => rfl
  split <;> exact flying

/-! ## Crusher presence (R28) -/

/-- The hall condition as the roster's crushers leave it: the gate fields at their start values where none serves, and
presence. -/
def presenceHall (roster : List RosterEntry) (h : HallState) : HallState :=
  let g := if roster.any (fun e => e.role == .crusher && !e.isExcluded) then h
    else { h with gate := .running, holds := 0, resume := 0 }
  { g with presence := roster.any (fun e => e.role == .crusher && e.status == .present) }

theorem recomputePresence_facts (s : State) :
    { s.recomputePresence with hall := s.hall, reports := s.reports } = s ∧
    s.recomputePresence.hall = presenceHall s.roster s.hall ∧
    (s.recomputePresence.hall.presence ≠ s.hall.presence →
      Report.presenceChanged s.recomputePresence.hall.presence ∈ s.recomputePresence.reports) ∧
    ∀ r ∈ s.reports, r ∈ s.recomputePresence.reports := by
  unfold State.recomputePresence
  dsimp only
  split
  · rename_i same
    exact ⟨rfl, rfl, fun other => absurd same other, fun r hr => hr⟩
  · exact ⟨rfl, rfl, fun _ => List.mem_append_right _ (List.mem_singleton.2 rfl), fun r hr => List.mem_append_left _ hr⟩

/-! ## Station information (R59 to R61) -/

/-- `t` is `h` with a peer's station information applied: the entry `e` of `a` stands in the roster, its claims and
crusher presence follow, and no ASK for a HELLO from `a` waits. -/
structure Informed (h t : State) (a : Addr) (e : RosterEntry) : Prop where
  frame : { t with trunk := h.trunk, roster := h.roster, table := h.table, hall := h.hall, reports := h.reports } = h
  trunk : { t.trunk with queue := h.trunk.queue } = h.trunk
  roster : t.roster = putEntry e h.roster
  table : t.table = { h.table with claims := claimsAfter a e h.table.claims }
  hall : t.hall = if presenceMoment (entryOf h.roster a) e then presenceHall t.roster h.hall else h.hall
  told : t.hall.presence ≠ h.hall.presence → Report.presenceChanged t.hall.presence ∈ t.reports
  unasked : ∀ f ∈ t.trunk.queue, f.body = .ask (askHello a) → f.sent.isSome = true

theorem informed_applyInfo (h : State) {a : Addr} (role : Role) (i : StationInfo) (peer : a ≠ h.own) :
    Informed h ((h.dropAsk a).applyInfo a role i) a (h.entryAfter a role i) := by
  obtain ⟨frame, trunk, unasked, _⟩ := dropAsk_facts h a
  generalize h.dropAsk a = d at *
  have roster : d.roster = h.roster := (congrArg (fun t => t.roster) frame).trans rfl
  have table : d.table = h.table := (congrArg (fun t => t.table) frame).trans rfl
  have hall : d.hall = h.hall := (congrArg (fun t => t.hall) frame).trans rfl
  have entry : d.entryAfter a role i = h.entryAfter a role i :=
    (congrArg (fun t => t.entryAfter a role i) frame).trans rfl
  have own : a ≠ d.own := by
    have same : d.own = h.own := (congrArg (fun t => t.own) frame).trans rfl
    rwa [same]
  rw [applyInfo_eq d role i own, entry, roster, table]
  dsimp only
  generalize h.entryAfter a role i = e
  generalize ht : ({ d with
    roster := putEntry e h.roster
    table := { h.table with claims := claimsAfter a e h.table.claims }
    reports := d.reports ++ (if entryOf h.roster a = some e then [] else [Report.rosterChanged a]) } : State) = t
  have tframe : { t with trunk := h.trunk, roster := h.roster, table := h.table, reports := h.reports } = h := by
    rw [← ht, ← roster, ← table]
    exact frame
  have troster : t.roster = putEntry e h.roster := by rw [← ht]
  have ttable : t.table = { h.table with claims := claimsAfter a e h.table.claims } := by rw [← ht]
  have ttrunk : t.trunk = d.trunk := by rw [← ht]
  have thall : t.hall = h.hall := by rw [← ht]; exact hall
  obtain ⟨same, served, told, _⟩ := recomputePresence_facts t
  have strunk : t.recomputePresence.trunk = d.trunk := ((congrArg (fun t => t.trunk) same).trans rfl).trans ttrunk
  have sroster : t.recomputePresence.roster = t.roster := (congrArg (fun t => t.roster) same).trans rfl
  split <;> rename_i moment
  · refine ⟨?_, by rw [strunk]; exact trunk, sroster.trans troster,
      ((congrArg (fun t => t.table) same).trans rfl).trans ttable, ?_, ?_, by rw [strunk]; exact unasked⟩
    · exact (congrArg (fun t => { t with
        trunk := h.trunk, roster := h.roster, table := h.table, hall := h.hall, reports := h.reports }) same).trans
          ((congrArg (fun t => { t with hall := h.hall }) tframe).trans rfl)
    · rw [served, sroster, thall, if_pos moment]
    · rw [← thall]
      exact told
  · refine ⟨?_, by rw [ttrunk]; exact trunk, troster, ttable, by rw [thall, if_neg moment],
      fun moved => absurd (by rw [thall]) moved, by rw [ttrunk]; exact unasked⟩
    exact (congrArg (fun t => { t with hall := h.hall }) tframe).trans rfl

/-- The state of the entry after the exclusion test (R59, R61). -/
theorem entryAfter_status (s : State) (a : Addr) (role : Role) (i : StationInfo) :
    (s.entryAfter a role i).status =
      if i.digest ≠ s.cfg.hall.digest then .excluded .parameters
      else if role = .crusher ∧ s.otherCrusher a = true then .excluded .role
      else statusAfter none (entryOf s.roster a) := by
  unfold State.entryAfter State.exclusionOf
  dsimp only
  by_cases digest : i.digest = s.cfg.hall.digest
  · by_cases other : role = .crusher ∧ s.otherCrusher a = true <;> simp [digest, other, statusAfter]
  · simp [digest, statusAfter]

theorem claimsAfter_eq (a : Addr) (e : RosterEntry) (l : List Claim) :
    claimsAfter a e l = if e.isExcluded then l.filter (fun c => c.owner != a) else l.map (fun c =>
      if c.owner = a ∧ c.effective < e.ceiling then { c with effective := e.ceiling } else c) := rfl

/-! ## Exclusion of the station itself (R95) -/

/-- `t` is `s` excluded for `c`: the round closed, the waiting frames and own claims gone, the rest the work of the
role unit. -/
structure Expelled (s t : State) (c : ExclusionCause) : Prop where
  untouched : Untouched { s with
    table := { s.table with claims := s.table.claims.filter (fun c => c.owner != s.own) }, sync := t.sync } t
  status : t.sync.status = .excluded c
  round : t.sync.round = .idle
  received : t.sync.received = []
  listenTimer : t.sync.listenTimer = none
  flying : ∀ f ∈ t.trunk.queue, f.sent.isSome = true
  flagged : t.port.flags.getLsbD 1 = true
  reports : ∀ r ∈ s.reports, r ∈ t.reports

/-- The sync controller EXCLUDED, before the queue, the claims and the role unit follow. -/
def State.expelling (s : State) (c : ExclusionCause) : State :=
  (s.setSync (.excluded c)).mapSync (fun x => { x with listenTimer := none, round := .idle, received := [] })

theorem expelling_facts (s : State) (c : ExclusionCause) :
    { s.expelling c with sync := s.sync, reports := s.reports } = s ∧
    (s.expelling c).sync = { s.sync with status := .excluded c, listenTimer := none, round := .idle, received := [] } ∧
    ∀ r ∈ s.reports, r ∈ (s.expelling c).reports := by
  unfold State.expelling State.setSync
  dsimp only
  split
  · exact ⟨rfl, rfl, fun r hr => hr⟩
  · exact ⟨rfl, rfl, fun r hr => List.mem_append_left _ hr⟩

theorem expelled_enterExcluded (s : State) (c : ExclusionCause) : Expelled s (s.enterExcluded c) c := by
  obtain ⟨frame, sync, kept⟩ := expelling_facts s c
  have result : s.enterExcluded c = ((((s.expelling c).dropAll .excluded).removeClaims
    (fun d => d.owner == (s.expelling c).own) .excluded).roleExcluded).raise .excluded := rfl
  have own : (s.expelling c).own = s.own := (congrArg (fun t => t.own) frame).trans rfl
  rw [result, own]
  generalize s.expelling c = x at *
  have dropped := untouched_dropAll x .excluded
  have queue : ∀ f ∈ (x.dropAll .excluded).trunk.queue, f.sent.isSome = true := by
    intro f hf
    rw [dropAll_queue] at hf
    obtain ⟨g, hg, rfl⟩ := List.mem_map.1 hf
    have flying := (List.mem_filter.1 hg).2
    cases hs : g.sent with
    | none => simp [QFrame.waiting, hs] at flying
    | some b => rfl
  have reported : ∀ r ∈ s.reports, r ∈ (x.dropAll .excluded).reports := fun r hr => by
    change r ∈ (State.deliverAll _ _).reports
    rw [deliverAll_reports]
    exact List.mem_append_left _ (kept r hr)
  generalize x.dropAll .excluded = d at *
  have removed := untouched_removeClaims d (fun e => e.owner == s.own) .excluded
  have frames := framesFrom_removeClaims d (fun e => e.owner == s.own) .excluded
  have stays := fun r (hr : r ∈ d.reports) => mem_removeClaims_reports d (fun e => e.owner == s.own) .excluded hr
  generalize d.removeClaims (fun e => e.owner == s.own) .excluded = r at *
  have works : Works r (r.roleExcluded.raise .excluded) := (works_roleExcluded r).trans (Works.raise _ _)
  have status : d.sync.status = .excluded c := dropped.status_eq.trans (congrArg SyncState.status sync)
  have muted : d.muted := .inl (by rw [status]; rfl)
  have rsync : { r.sync with askLost := x.sync.askLost } = x.sync :=
    ((congrArg (fun y => { y with askLost := x.sync.askLost }) removed.sync).trans dropped.sync)
  have tsync : { (r.roleExcluded.raise .excluded).sync with askLost := x.sync.askLost } =
      { s.sync with status := .excluded c, listenTimer := none, round := .idle, received := [] } :=
    (congrArg (fun y => { y with askLost := x.sync.askLost }) works.untouched.sync).trans (rsync.trans sync)
  refine ⟨?_, (congrArg SyncState.status tsync).trans rfl, (congrArg SyncState.round tsync).trans rfl,
    (congrArg SyncState.received tsync).trans rfl, (congrArg SyncState.listenTimer tsync).trans rfl,
    works.framesFrom.all_flying ((muted_of_untouched removed).2 muted) (frames.all_flying muted queue), ?_,
    fun r hr => works.mem_reports (stays r (reported r hr))⟩
  · generalize r.roleExcluded.raise .excluded = t at *
    have claims : d.table.claims.filter (fun e => !(e.owner == s.own)) =
        s.table.claims.filter (fun e => e.owner != s.own) := by
      have held : x.table = s.table := (congrArg (fun t => t.table) frame).trans rfl
      rw [dropped.claims, held]
      rfl
    have first : Untouched { s with
          table := { s.table with claims := s.table.claims.filter (fun e => e.owner != s.own) }, sync := t.sync }
        { x with table := { s.table with claims := s.table.claims.filter (fun e => e.owner != s.own) }, sync := t.sync } := by
      have same : ({ s with
          table := { s.table with claims := s.table.claims.filter (fun e => e.owner != s.own) }, sync := t.sync } : State) =
          { x with table := { s.table with claims := s.table.claims.filter (fun e => e.owner != s.own) }, sync := t.sync,
                   reports := s.reports } :=
        (congrArg (fun y => { y with
          table := { s.table with claims := s.table.claims.filter (fun e => e.owner != s.own) }
          sync := t.sync }) frame).symm
      rw [same]
      exact { Untouched.refl _ with }
    have second : Untouched
        { x with table := { s.table with claims := s.table.claims.filter (fun e => e.owner != s.own) }, sync := t.sync }
        { d.setClaims (d.table.claims.filter (fun e => !(e.owner == s.own))) with sync := t.sync } :=
      { dropped with claims := claims, sync := rfl }
    have third : Untouched { d.setClaims (d.table.claims.filter (fun e => !(e.owner == s.own))) with sync := t.sync }
        { r with sync := t.sync } := { removed with sync := rfl }
    have fourth : Untouched { r with sync := t.sync } t := { works.untouched with sync := rfl }
    exact ((first.trans second).trans third).trans fourth
  · change (r.roleExcluded.port.flags ||| BitVec.twoPow 16 1).getLsbD 1 = true
    simp

/-! ## What a peer's information leaves, whatever follows -/

theorem entryOf_informed {h t : State} {a : Addr} {e : RosterEntry} (i : Informed h t a e) (addr : e.addr = a) :
    entryOf t.roster a = some e ∧ ∀ x, x ≠ a → entryOf t.roster x = entryOf h.roster x := by
  rw [i.roster]
  refine ⟨by rw [entryOf_putEntry, if_pos addr], fun x other => ?_⟩
  rw [entryOf_putEntry, if_neg (fun k => other (k.symm.trans addr))]

/-- What a HELLO or ROW of the peer `a` leaves in every case: its entry `e`, crusher presence as it follows on the hall
condition `k`, and no ASK for a HELLO from `a` waiting. -/
structure PeerRow (h t : State) (a : Addr) (e : RosterEntry) (k : HallState) : Prop where
  entry : entryOf t.roster a = some e
  others : ∀ x, x ≠ a → entryOf t.roster x = entryOf h.roster x
  unasked : ∀ f ∈ t.trunk.queue, f.body = .ask (askHello a) → f.sent.isSome = true
  plan : t.plan = h.plan
  window : t.window = h.window
  hall : t.hall = if presenceMoment (entryOf h.roster a) e then presenceHall t.roster k else k
  told : t.hall.presence ≠ h.hall.presence → Report.presenceChanged t.hall.presence ∈ t.reports

theorem Informed.peerRow {h x : State} {a : Addr} {e : RosterEntry} (i : Informed h x a e) (addr : e.addr = a) :
    PeerRow h x a e h.hall where
  entry := (entryOf_informed i addr).1
  others := (entryOf_informed i addr).2
  unasked := i.unasked
  plan := (congrArg (fun t => t.plan) i.frame).trans rfl
  window := (congrArg (fun t => t.window) i.frame).trans rfl
  hall := i.hall
  told := i.told

theorem PeerRow.expelled {h w t : State} {a : Addr} {e : RosterEntry} {k : HallState} {c : ExclusionCause}
    (p : PeerRow h w a e k) (x : Expelled w t c) : PeerRow h t a e k := by
  have untouched := x.untouched
  have roster : t.roster = w.roster := untouched.roster
  have hall : t.hall = w.hall := untouched.hall
  refine ⟨roster ▸ p.entry, roster ▸ p.others, fun f hf _ => x.flying f hf, untouched.plan.trans p.plan,
    untouched.window.trans p.window, by rw [hall, roster]; exact p.hall, fun moved => ?_⟩
  rw [hall] at moved ⊢
  exact x.reports _ (p.told moved)

end Sys2Proof.Machine
end


section
/-! O12: a HELLO taken. -/

namespace Sys2Proof.Machine

/-! ## A leaving HELLO (R14, R63) -/

/-- A peer's leaving HELLO takes its entry and claims, and crusher presence follows where it had an entry. -/
theorem removeLeaver_peer (h : State) {a : Addr} (peer : a ≠ h.own) :
    ∃ t, (h.dropAsk a).removeLeaver a = t ∧
      { t with trunk := h.trunk, roster := h.roster, table := h.table, hall := h.hall, reports := h.reports } = h ∧
      t.roster = h.roster.filter (fun e => e.addr != a) ∧
      t.table.claims = h.table.claims.filter (fun c => c.owner != a) ∧
      t.hall = (if (entryOf h.roster a).isSome then presenceHall t.roster h.hall else h.hall) ∧
      (t.hall.presence ≠ h.hall.presence → Report.presenceChanged t.hall.presence ∈ t.reports) := by
  obtain ⟨frame, _, _, _⟩ := dropAsk_facts h a
  generalize h.dropAsk a = d at *
  have own : d.own = h.own := (congrArg (fun t => t.own) frame).trans rfl
  have roster : d.roster = h.roster := (congrArg (fun t => t.roster) frame).trans rfl
  have table : d.table = h.table := (congrArg (fun t => t.table) frame).trans rfl
  have hall : d.hall = h.hall := (congrArg (fun t => t.hall) frame).trans rfl
  refine ⟨_, rfl, ?_⟩
  have removed : d.removeOwner a .leaving = d.setClaims (h.table.claims.filter (fun c => c.owner != a)) := by
    rw [removeOwner_of_ne d .leaving (own ▸ peer), table]
  unfold State.removeLeaver
  rw [removed, roster]
  dsimp only
  have other : (a != (d.setClaims (h.table.claims.filter (fun c => c.owner != a))).own) = true :=
    bne_iff_ne.2 (fun k => peer (k.trans own))
  rw [other, Bool.and_true]
  have gone : { d.setClaims (h.table.claims.filter (fun c => c.owner != a)) with
      trunk := h.trunk, table := h.table, reports := h.reports } = h := by
    rw [← table]
    exact frame
  split
  · generalize hx : ((d.setClaims (h.table.claims.filter (fun c => c.owner != a))).setRoster
      ((d.setClaims (h.table.claims.filter (fun c => c.owner != a))).roster.filter (fun e => e.addr != a))).report
        (.rosterChanged a) = x
    have xroster : x.roster = h.roster.filter (fun e => e.addr != a) := by
      rw [← hx, ← roster]
      rfl
    have xhall : x.hall = h.hall := by
      rw [← hx]
      exact hall
    have xclaims : x.table.claims = h.table.claims.filter (fun c => c.owner != a) := by
      rw [← hx]
      rfl
    have xframe : { x with trunk := h.trunk, roster := h.roster, table := h.table, reports := h.reports } = h := by
      rw [← hx]
      exact (congrArg (fun t => { t with roster := h.roster }) gone).trans rfl
    obtain ⟨same, served, told, _⟩ := recomputePresence_facts x
    have sroster : x.recomputePresence.roster = x.roster := (congrArg (fun t => t.roster) same).trans rfl
    refine ⟨?_, sroster.trans xroster, ((congrArg (fun t => t.table.claims) same).trans rfl).trans xclaims, ?_, ?_⟩
    · exact (congrArg (fun t => { t with
        trunk := h.trunk, roster := h.roster, table := h.table, hall := h.hall, reports := h.reports }) same).trans
          ((congrArg (fun t => { t with hall := h.hall }) xframe).trans rfl)
    · rw [served, sroster, xhall]
    · rw [← xhall]
      exact told
  · rename_i unknown
    have absent : entryOf h.roster a = none := by simpa using unknown
    refine ⟨?_, ?_, rfl, hall, fun moved => absurd (congrArg (·.presence) hall) moved⟩
    · exact (congrArg (fun t => { t with roster := h.roster, hall := h.hall }) gone).trans rfl
    · refine (roster : _ = h.roster).trans (List.filter_eq_self.2 (fun e he => ?_)).symm
      simpa using List.find?_eq_none.1 absent e he

/-- A leaving HELLO under the own address takes the own claims, and the entry stays (R66). -/
theorem removeLeaver_own (h : State) :
    Untouched (h.setClaims (h.table.claims.filter (fun c => c.owner != h.own)))
      ((h.dropAsk h.own).removeLeaver h.own) := by
  have dropped : Untouched h (h.dropAsk h.own) := (Works.pull h _).untouched
  have own : (h.dropAsk h.own).own = h.own := dropped.own_eq
  generalize h.dropAsk h.own = d at *
  have removed := untouched_removeClaims d (fun c => c.owner == h.own) .leaving
  have kept : (d.removeOwner h.own .leaving).own = h.own := removed.own_eq.trans own
  have result : d.removeLeaver h.own = d.removeOwner h.own .leaving := by
    simp [State.removeLeaver, kept]
  rw [result]
  have first : Untouched (h.setClaims (h.table.claims.filter (fun c => c.owner != h.own)))
      (d.setClaims (d.table.claims.filter (fun c => !(c.owner == h.own)))) :=
    { dropped with claims := congrArg (fun l => l.filter (fun c => !(c.owner == h.own))) dropped.claims }
  exact first.trans removed

/-! ## A joining crusher hears of another (R62, R94) -/

theorem onRoleConflict_joining {s : State} (a : Addr) (joining : s.sync.status = .listening ∨ s.sync.status = .syncing) :
    Expelled s (s.onRoleConflict a) .role ∧ Report.roleConflict a ∈ (s.onRoleConflict a).reports := by
  have result : s.onRoleConflict a = (s.report (.roleConflict a)).enterExcluded .role := by
    rcases joining with h | h <;> simp [State.onRoleConflict, h]
  have expelled := expelled_enterExcluded (s.report (.roleConflict a)) .role
  rw [result]
  have told : Untouched { s with
      table := { s.table with claims := s.table.claims.filter (fun c => c.owner != s.own) }
      sync := ((s.report (.roleConflict a)).enterExcluded .role).sync } _ := untouched_report _ (.roleConflict a)
  exact ⟨{ expelled with
      untouched := told.trans expelled.untouched
      reports := fun r hr => expelled.reports r (List.mem_append_left _ hr) },
    expelled.reports _ (List.mem_append_right _ (List.mem_singleton.2 rfl))⟩

theorem countsOwnCrusher_eq (s : State) : s.countsOwnCrusher = true ↔
    ¬(s.sync.status = .listening ∨ s.sync.status = .syncing) := by
  simp [State.countsOwnCrusher]

theorem takeInfo_role {h : State} {a : Addr} {i : StationInfo} {r : Role} (peer : a ≠ h.own)
    (role : roleOfCode i.role = some r) :
    h.takeInfo a i =
      if h.roleConflicts r then ((h.dropAsk a).applyInfo a r i).onRoleConflict a else (h.dropAsk a).applyInfo a r i := by
  unfold State.takeInfo
  rw [if_neg peer, role]

theorem takeInfo_own {h : State} {a : Addr} (i : StationInfo) (own : a = h.own) : h.takeInfo a i = h := if_pos own

theorem roleOfCode_zero : roleOfCode 0 = none := rfl

theorem roleOfCode_three : roleOfCode 3 = some .crusher := rfl

theorem takeInfo_zero {h : State} (a : Addr) {i : StationInfo} (zero : i.role = 0) : h.takeInfo a i = h := by
  unfold State.takeInfo
  rw [zero, roleOfCode_zero, ite_self]

/-- The conflict of R62: a joining crusher, and another that says it is one. -/
theorem roleConflicts_iff (h : State) (r : Role) : h.roleConflicts r = true ↔
    h.cfg.role = .crusher ∧ r = .crusher ∧ (h.sync.status = .listening ∨ h.sync.status = .syncing) := by
  simp [State.roleConflicts, State.countsOwnCrusher, and_assoc]

/-- While the station is joining, its own entry is not counted (R62). -/
theorem otherCrusher_joining {h : State} (a : Addr) (joining : h.sync.status = .listening ∨ h.sync.status = .syncing) :
    h.otherCrusher a = h.roster.any (fun x => x.addr != a && x.addr != h.own && x.role == .crusher && !x.isExcluded) := by
  have counts : h.countsOwnCrusher = false := by
    rw [Bool.eq_false_iff, ne_eq, countsOwnCrusher_eq, not_not]
    exact joining
  unfold State.otherCrusher
  rw [counts]
  congr 1
  funext x
  rw [Bool.or_false]
  cases x.addr != a <;> cases x.addr != h.own <;> simp

/-- Settles O12: the information is `Informed`, a leaver `removeLeaver`, and a ROLE_CONFLICT expels the station. -/
theorem helloTaken : Obligations.HelloTaken := by
  intro rx s h own a b arrives hallOf told moves
  have answer : ∀ t, h.takeHello own a b = t → exec (.hello rx) s = .next (t.concluded s.seq) := fun t taken =>
    congrArg Host.Outcome.next ((event_of_arrival State.takeHello arrives).trans (congrArg (State.concluded s.seq) taken))
  have moment : ∀ e, presenceMoment (entryOf h.roster a) e = moves e := by
    intro e
    dsimp only [moves]
    cases entryOf h.roster a <;> rfl
  refine ⟨fun mine staying => answer h ?_, fun foreign peer staying => ⟨fun zero => answer h ?_,
    fun r role quiet => ?_⟩, fun foreign mine staying => answer h ?_, fun foreign leaving => ?_,
    fun foreign peer staying three crusher joining => ?_⟩
  · simp [State.takeHello, mine, staying]
  · simp only [State.takeHello, foreign, staying]
    exact takeInfo_zero a zero
  · have taken : h.takeHello own a b = (h.dropAsk a).applyInfo a r b.info := by
      simp only [State.takeHello, foreign, staying]
      rw [takeInfo_role peer role, quiet]
      rfl
    have informed := informed_applyInfo h r b.info peer
    have seen := informed.peerRow rfl
    have frame := informed.frame
    refine ⟨_, h.entryAfter a r b.info, answer _ taken, seen.entry, rfl, rfl, rfl, rfl, rfl, rfl, ?_, seen.others, ?_, ?_,
      seen.told, seen.plan, seen.window,
      (congrArg (fun t => t.discharge) frame).trans rfl, (congrArg (fun t => t.filter) frame).trans rfl,
      (congrArg (fun t => t.crusher) frame).trans rfl, (congrArg (fun t => t.seq) frame).trans rfl⟩
    · rw [entryAfter_status]
      cases entryOf h.roster a <;> rfl
    · rw [informed.table]
      exact claimsAfter_eq a _ _
    · rw [informed.hall, moment]
      rfl
  · simp only [State.takeHello, foreign, staying]
    exact takeInfo_own _ mine
  · have taken : h.takeHello own a b = (h.dropAsk a).removeLeaver a := by
      simp only [State.takeHello, foreign, leaving]
    by_cases mine : a = h.own
    · have untouched := removeLeaver_own h
      rw [← mine] at untouched
      refine ⟨_, answer _ taken, untouched.roster.trans (if_pos mine).symm, untouched.claims, ?_, ?_, untouched.plan,
        untouched.window, fun peer => absurd mine peer⟩
      · rw [if_neg (fun k => k.1 mine)]
        exact untouched.hall
      · exact fun moved => absurd (congrArg HallState.presence untouched.hall) moved
    · obtain ⟨t, left, frame, roster, claims, hall, news⟩ := removeLeaver_peer h mine
      refine ⟨t, answer _ (taken.trans left), by rw [if_neg mine]; exact roster, claims, ?_, news,
        (congrArg (fun t => t.plan) frame).trans rfl, (congrArg (fun t => t.window) frame).trans rfl, fun _ =>
        ⟨(congrArg (fun t => t.discharge) frame).trans rfl, (congrArg (fun t => t.filter) frame).trans rfl,
          (congrArg (fun t => t.crusher) frame).trans rfl, (congrArg (fun t => t.seq) frame).trans rfl⟩⟩
      rw [hall]
      by_cases known : (entryOf h.roster a).isSome = true
      · rw [if_pos known, if_pos ⟨mine, known⟩]
        rfl
      · rw [if_neg known, if_neg (fun k => known k.2)]
  · have role : roleOfCode b.info.role = some .crusher := three ▸ roleOfCode_three
    have taken : h.takeHello own a b = ((h.dropAsk a).applyInfo a .crusher b.info).onRoleConflict a := by
      simp only [State.takeHello, foreign, staying]
      rw [takeInfo_role peer role, if_pos ((roleConflicts_iff h .crusher).2 ⟨crusher, rfl, joining⟩)]
    have informed := informed_applyInfo h .crusher b.info peer
    generalize (h.dropAsk a).applyInfo a .crusher b.info = x at *
    have frame := informed.frame
    have sync : x.sync = h.sync := (congrArg (fun t => t.sync) frame).trans rfl
    have xown : x.own = h.own := (congrArg (fun t => t.own) frame).trans rfl
    obtain ⟨expelled, conflict⟩ := onRoleConflict_joining (s := x) a (sync ▸ joining)
    have seen := (informed.peerRow rfl).expelled expelled
    refine ⟨_, h.entryAfter a .crusher b.info, answer _ taken, conflict, expelled.status, expelled.round,
      expelled.listenTimer, expelled.received, expelled.flying, expelled.flagged, seen.entry, rfl, rfl, rfl, ?_,
      seen.others, fun c hc => ?_, seen.plan, seen.window, ?_, seen.told⟩
    · rw [entryAfter_status, otherCrusher_joining a joining]
      simp only [true_and]
      cases entryOf h.roster a <;> rfl
    · rw [expelled.untouched.claims] at hc
      have stranger := (List.mem_filter.1 hc).2
      rw [xown] at stranger
      exact bne_iff_ne.1 stranger
    · rw [seen.hall, moment]
      rfl

end Sys2Proof.Machine
end


section
/-! O24: a ROW taken. -/

namespace Sys2Proof.Machine

/-! ## The records that enter (R12, R13) -/

theorem mem_rowTable {s : State} {a : Addr} {b : RowBody} {c : Claim} :
    c ∈ (s.rowTable a b).table.claims ↔ c ∈ s.table.claims.filter (fun c => c.owner != a) ∨
      (s.senderExcluded a = false ∧ ∃ r ∈ enteringRecords (keptRecords b.records)
        (s.table.claims.filter (fun c => c.owner != a)).length,
        c = claimOfRecord a b.window (ceilingOf s.roster a) s.cfg.hall.a r) := by
  have entered : c ∈ (s.rowTable a b).table.claims ↔
      c ∈ s.rowEntered a b ∨ c ∈ s.table.claims.filter (fun c => c.owner != a) := mem_enterRow
  rw [entered, or_comm]
  refine or_congr_right ?_
  unfold State.rowEntered
  split
  · rename_i excluded
    simp [excluded]
  · rename_i present
    rw [mem_rowClaims]
    simp [present]

/-- The claims of the other owners are those before the station information was applied. -/
theorem claimsAfter_filter_ne (a : Addr) (e : RosterEntry) (l : List Claim) :
    (claimsAfter a e l).filter (fun c => c.owner != a) = l.filter (fun c => c.owner != a) := by
  unfold claimsAfter
  split
  · rw [List.filter_filter]
    simp
  · exact raiseTo_filter_ne a _ l

/-! ## The stop of the sender, and the round (R35, R98) -/

/-- The hall condition once a resynchronising station has dropped the stop of a ROW's sender (R35). -/
def mendHall (x : SyncStatus) (a : Addr) (k : HallState) : HallState :=
  if (x = .syncing ∨ x = .diverged) ∧ k.stops.any (fun e => e.addr == a && !e.restated) = true then
    { k with
      stops := k.stops.filter (fun e => e.addr != a)
      firstCause := if k.stops.all (fun e => e.addr == a) then none else k.firstCause }
  else k

theorem mending_iff (x : SyncStatus) : x.mending = true ↔ x = .syncing ∨ x = .diverged := by
  cases x <;> simp [SyncStatus.mending]

theorem mendHall_presence (x : SyncStatus) (a : Addr) (k : HallState) : (mendHall x a k).presence = k.presence := by
  unfold mendHall
  split <;> rfl

/-- Presence and the stop set do not meet. -/
theorem mendHall_presenceHall (x : SyncStatus) (a : Addr) (l : List RosterEntry) (k : HallState) :
    mendHall x a (presenceHall l k) = presenceHall l (mendHall x a k) := by
  have stops : (presenceHall l k).stops = k.stops := by
    unfold presenceHall
    dsimp only
    split <;> rfl
  unfold mendHall
  rw [stops]
  split
  · unfold presenceHall
    dsimp only
    split <;> rfl
  · rfl

theorem mendStop_facts (s : State) (a : Addr) :
    { s.mendStop a with hall := s.hall, reports := s.reports } = s ∧
    (s.mendStop a).hall = mendHall s.sync.status a s.hall ∧ AddsNoRemoval s (s.mendStop a) := by
  have empty : (s.hall.stops.filter (fun e => e.addr != a)).isEmpty = s.hall.stops.all (fun e => e.addr == a) := by
    rw [Bool.eq_iff_iff]
    simp
  have cond : (s.sync.status.mending && s.hall.stops.any (fun e => e.addr == a && !e.restated)) = true ↔
      (s.sync.status = .syncing ∨ s.sync.status = .diverged) ∧
        s.hall.stops.any (fun e => e.addr == a && !e.restated) = true := by
    rw [Bool.and_eq_true, mending_iff]
  unfold State.mendStop mendHall
  by_cases mends : (s.sync.status = .syncing ∨ s.sync.status = .diverged) ∧
      s.hall.stops.any (fun e => e.addr == a && !e.restated) = true
  · rw [if_pos (cond.2 mends), if_pos mends]
    have stopped : s.hall.stopped a = true := by
      obtain ⟨e, he, hp⟩ := List.any_eq_true.1 mends.2
      exact List.any_eq_true.2 ⟨e, he, (Bool.and_eq_true _ _ ▸ hp).1⟩
    have dropped : s.hall.dropStop a = { s.hall with
        stops := s.hall.stops.filter (fun e => e.addr != a)
        firstCause := if s.hall.stops.all (fun e => e.addr == a) then none else s.hall.firstCause } := by
      unfold HallState.dropStop
      dsimp only
      rw [empty]
    unfold State.removeStop
    rw [if_pos stopped]
    dsimp only
    split
    · exact ⟨rfl, dropped, ⟨_, rfl, by simp [Report.isRemoval]⟩⟩
    · exact ⟨rfl, dropped, .of_eq rfl⟩
  · rw [if_neg (fun k => mends (cond.1 k)), if_neg mends]
    exact ⟨rfl, rfl, .of_eq rfl⟩

theorem mem_addAddr (a : Addr) (l : List Addr) : a ∈ addAddr a l := by
  unfold addAddr
  split
  · rename_i h
    simpa using h
  · simp

theorem recordRow_facts (s : State) (a : Addr) :
    { s.recordRow a with sync := s.sync } = s ∧ (s.recordRow a).sync.status = s.sync.status ∧
    (s.sync.round = .opened → a ∈ (s.recordRow a).sync.received) ∧
    (s.sync.round ≠ .opened → s.recordRow a = s) := by
  unfold State.recordRow
  split
  · rename_i opened
    exact ⟨rfl, rfl, fun _ => mem_addAddr a _, fun other => absurd opened other⟩
  · rename_i other
    exact ⟨rfl, rfl, fun opened => absurd opened other, fun _ => rfl⟩

theorem AddsNoRemoval.mem {s t : State} (h : AddsNoRemoval s t) {r : Report} (hr : r ∈ s.reports) : r ∈ t.reports := by
  obtain ⟨l, eq, _⟩ := h
  rw [eq]
  exact List.mem_append_left _ hr

theorem AddsNoRemoval.removed_iff {s t : State} (h : AddsNoRemoval s t) (id : Byte) (why : RemovalReason) :
    Report.removed id why ∈ t.reports ↔ Report.removed id why ∈ s.reports := by
  obtain ⟨l, eq, none⟩ := h
  rw [eq, List.mem_append]
  refine or_iff_left (fun mem => ?_)
  have := none _ mem
  simp [Report.isRemoval] at this

/-! ## A peer's ROW -/

/-- The state once a peer's claims have entered, its stop is mended and its ROW is recorded. -/
def State.rowRecorded (s : State) (a : Addr) (b : RowBody) : State := ((s.rowTable a b).mendStop a).recordRow a

theorem rowRecorded_facts (s : State) (a : Addr) (b : RowBody) :
    { s.rowRecorded a b with table := s.table, hall := s.hall, sync := s.sync, reports := s.reports } = s ∧
    (s.rowRecorded a b).table = (s.rowTable a b).table ∧
    (s.rowRecorded a b).hall = mendHall s.sync.status a s.hall ∧
    (s.rowRecorded a b).sync.status = s.sync.status ∧
    (s.sync.round = .opened → a ∈ (s.rowRecorded a b).sync.received) ∧
    (s.sync.round ≠ .opened → (s.rowRecorded a b).sync = s.sync) ∧
    ∀ r ∈ s.reports, r ∈ (s.rowRecorded a b).reports := by
  obtain ⟨mframe, mhall, adds⟩ := mendStop_facts (s.rowTable a b) a
  obtain ⟨rframe, status, opened, other⟩ := recordRow_facts ((s.rowTable a b).mendStop a) a
  have msync : ((s.rowTable a b).mendStop a).sync = s.sync := (congrArg (fun t => t.sync) mframe).trans rfl
  unfold State.rowRecorded
  refine ⟨?_, ((congrArg (fun t => t.table) rframe).trans rfl).trans ((congrArg (fun t => t.table) mframe).trans rfl),
    ((congrArg (fun t => t.hall) rframe).trans rfl).trans mhall, by rw [status, msync], ?_, fun k => ?_, fun r hr => ?_⟩
  · exact (congrArg (fun t => { t with
      table := s.table, hall := s.hall, sync := s.sync, reports := s.reports }) rframe).trans
      ((congrArg (fun t => { t with table := s.table, sync := s.sync }) mframe).trans rfl)
  · rw [← msync]
    exact opened
  · rw [other (by rw [msync]; exact k), msync]
  · have kept := adds.mem (r := r) hr
    have same : (((s.rowTable a b).mendStop a).recordRow a).reports = ((s.rowTable a b).mendStop a).reports :=
      (congrArg (fun t => t.reports) rframe).trans rfl
    rw [same]
    exact kept

theorem takePeerRow_role {h : State} {a : Addr} {b : RowBody} {r : Role} (role : roleOfCode b.info.role = some r)
    (peer : a ≠ (h.takeInfo a b.info).own) :
    h.takePeerRow a b = ((h.takeInfo a b.info).rowRecorded a b).onParameters b.info := by
  unfold State.takePeerRow
  rw [role]
  dsimp only
  rw [takeRow_foreign _ b peer]
  rfl

theorem onParameters_same {s : State} {i : StationInfo} (h : ¬(s.sync.status = .syncing ∧ i.digest ≠ s.cfg.hall.digest)) :
    s.onParameters i = s := if_neg h

theorem onParameters_differs {s : State} {i : StationInfo} (h : s.sync.status = .syncing ∧ i.digest ≠ s.cfg.hall.digest) :
    s.onParameters i = s.enterExcluded .parameters := if_pos h

/-- The claims enter, the stop is mended and the ROW recorded: the roster stays. -/
theorem PeerRow.recorded {h x : State} {a : Addr} {e : RosterEntry} {k : HallState} (p : PeerRow h x a e k) (b : RowBody) :
    PeerRow h (x.rowRecorded a b) a e (mendHall x.sync.status a k) := by
  obtain ⟨frame, _, hall, _, _, _, reports⟩ := rowRecorded_facts x a b
  have roster : (x.rowRecorded a b).roster = x.roster := (congrArg (fun t => t.roster) frame).trans rfl
  have trunk : (x.rowRecorded a b).trunk = x.trunk := (congrArg (fun t => t.trunk) frame).trans rfl
  have presence : (x.rowRecorded a b).hall.presence = x.hall.presence := by rw [hall, mendHall_presence]
  refine ⟨roster ▸ p.entry, roster ▸ p.others, trunk ▸ p.unasked,
    ((congrArg (fun t => t.plan) frame).trans rfl).trans p.plan,
    ((congrArg (fun t => t.window) frame).trans rfl).trans p.window, ?_, fun moved => ?_⟩
  · rw [hall, p.hall, roster]
    split
    · exact mendHall_presenceHall _ _ _ _
    · rfl
  · rw [presence] at moved ⊢
    exact reports _ (p.told moved)

/-- The claims after a ROW of the peer `a`, of those of the other owners and of the records that enter (R12, R13). -/
def rowHolds (h t : State) (a : Addr) (b : RowBody) (rest : List Claim) (ceiling : Nat) (enter : Prop) : Prop :=
  ∀ c, c ∈ t.table.claims ↔ c ∈ rest ∨ (enter ∧ ∃ r ∈ enteringRecords (keptRecords b.records) rest.length,
    c = claimOfRecord a b.window ceiling h.cfg.hall.a r)

theorem rowHolds_rowTable {h x t : State} {a : Addr} {b : RowBody} {e : RosterEntry} {rest : List Claim}
    (entry : entryOf x.roster a = some e) (cfg : x.cfg = h.cfg)
    (others : x.table.claims.filter (fun c => c.owner != a) = rest) (table : t.table = (x.rowTable a b).table) :
    rowHolds h t a b rest e.ceiling (e.isExcluded = false) := by
  intro c
  have excluded : x.senderExcluded a = e.isExcluded := by simp [State.senderExcluded, entry]
  have ceiling : ceilingOf x.roster a = e.ceiling := by simp [ceilingOf, entry]
  rw [table, mem_rowTable, others, excluded, ceiling, cfg]

/-- No conflict, and the parameters are the station's own, or it is not SYNCING: the ROW is taken, and no more. -/
theorem peerRow_taken {h : State} {a : Addr} {b : RowBody} {r : Role} (peer : a ≠ h.own)
    (role : roleOfCode b.info.role = some r) (quiet : ¬h.roleConflicts r = true)
    (same : ¬(h.sync.status = .syncing ∧ b.info.digest ≠ h.cfg.hall.digest)) :
    PeerRow h (h.takePeerRow a b) a (h.entryAfter a r b.info) (mendHall h.sync.status a h.hall) ∧
    rowHolds h (h.takePeerRow a b) a b (h.table.claims.filter (fun c => c.owner != a)) b.info.ceiling.toNat
      ((h.entryAfter a r b.info).isExcluded = false) ∧
    (h.takePeerRow a b).sync.status = h.sync.status ∧
    (h.sync.round = .opened → a ∈ (h.takePeerRow a b).sync.received) ∧
    (h.sync.round ≠ .opened → (h.takePeerRow a b).sync = h.sync) ∧
    { h.takePeerRow a b with
      trunk := h.trunk, roster := h.roster, table := h.table, hall := h.hall, sync := h.sync,
      reports := h.reports } = h := by
  have informed := informed_applyInfo h r b.info peer
  have info : h.takeInfo a b.info = (h.dropAsk a).applyInfo a r b.info := by rw [takeInfo_role peer role, if_neg quiet]
  have row := takePeerRow_role (h := h) (a := a) (b := b) role
  rw [info] at row
  generalize (h.dropAsk a).applyInfo a r b.info = x at *
  have frame := informed.frame
  have cfg : x.cfg = h.cfg := (congrArg (fun t => t.cfg) frame).trans rfl
  have sync : x.sync = h.sync := (congrArg (fun t => t.sync) frame).trans rfl
  have own : x.own = h.own := (congrArg (fun t => t.own) frame).trans rfl
  obtain ⟨wframe, table, _, status, opened, other, _⟩ := rowRecorded_facts x a b
  have wcfg : (x.rowRecorded a b).cfg = h.cfg := ((congrArg (fun t => t.cfg) wframe).trans rfl).trans cfg
  have result : h.takePeerRow a b = x.rowRecorded a b := by
    rw [row (own ▸ peer)]
    exact onParameters_same (by rw [status, sync, wcfg]; exact same)
  have others : x.table.claims.filter (fun c => c.owner != a) = h.table.claims.filter (fun c => c.owner != a) := by
    rw [informed.table]
    exact claimsAfter_filter_ne a _ _
  rw [result]
  refine ⟨sync ▸ (informed.peerRow rfl).recorded b, rowHolds_rowTable (informed.peerRow rfl).entry cfg others table,
    by rw [status, sync], sync ▸ opened, sync ▸ other, ?_⟩
  exact (congrArg (fun t => { t with
    trunk := h.trunk, roster := h.roster, table := h.table, hall := h.hall, sync := h.sync, reports := h.reports })
      wframe).trans ((congrArg (fun t => { t with sync := h.sync }) frame).trans rfl)

/-- No conflict, but a SYNCING station finds another parameter digest (R94). -/
theorem peerRow_differs {h : State} {a : Addr} {b : RowBody} {r : Role} (peer : a ≠ h.own)
    (role : roleOfCode b.info.role = some r) (quiet : ¬h.roleConflicts r = true)
    (differs : h.sync.status = .syncing ∧ b.info.digest ≠ h.cfg.hall.digest) :
    PeerRow h (h.takePeerRow a b) a (h.entryAfter a r b.info) (mendHall h.sync.status a h.hall) ∧
    rowHolds h (h.takePeerRow a b) a b
      ((h.table.claims.filter (fun c => c.owner != a)).filter (fun c => c.owner != h.own)) b.info.ceiling.toNat
      ((h.entryAfter a r b.info).isExcluded = false) ∧
    ∃ w, Expelled w (h.takePeerRow a b) .parameters := by
  have informed := informed_applyInfo h r b.info peer
  have info : h.takeInfo a b.info = (h.dropAsk a).applyInfo a r b.info := by rw [takeInfo_role peer role, if_neg quiet]
  have row := takePeerRow_role (h := h) (a := a) (b := b) role
  rw [info] at row
  generalize (h.dropAsk a).applyInfo a r b.info = x at *
  have frame := informed.frame
  have cfg : x.cfg = h.cfg := (congrArg (fun t => t.cfg) frame).trans rfl
  have sync : x.sync = h.sync := (congrArg (fun t => t.sync) frame).trans rfl
  have own : x.own = h.own := (congrArg (fun t => t.own) frame).trans rfl
  obtain ⟨wframe, table, _, status, _, _, _⟩ := rowRecorded_facts x a b
  have wcfg : (x.rowRecorded a b).cfg = h.cfg := ((congrArg (fun t => t.cfg) wframe).trans rfl).trans cfg
  have result : h.takePeerRow a b = (x.rowRecorded a b).enterExcluded .parameters := by
    rw [row (own ▸ peer)]
    exact onParameters_differs (by rw [status, sync, wcfg]; exact differs)
  have others : x.table.claims.filter (fun c => c.owner != a) = h.table.claims.filter (fun c => c.owner != a) := by
    rw [informed.table]
    exact claimsAfter_filter_ne a _ _
  have expelled := expelled_enterExcluded (x.rowRecorded a b) .parameters
  have entered := rowHolds_rowTable (h := h) (informed.peerRow rfl).entry cfg others table
  have excluded : (h.entryAfter a r b.info).isExcluded = true := by
    have status : (h.entryAfter a r b.info).status = .excluded .parameters := by
      rw [entryAfter_status, if_pos differs.2]
    simp [RosterEntry.isExcluded, status]
  rw [result]
  refine ⟨(sync ▸ (informed.peerRow rfl).recorded b).expelled expelled, fun c => ?_, _, expelled⟩
  have wown : (x.rowRecorded a b).own = h.own := congrArg Config.address wcfg
  have claims : ((x.rowRecorded a b).enterExcluded .parameters).table.claims =
      (x.rowRecorded a b).table.claims.filter (fun c => c.owner != h.own) := wown ▸ expelled.untouched.claims
  rw [claims, List.mem_filter, entered c, excluded]
  simp only [Bool.true_eq_false, false_and, or_false, List.mem_filter]

/-- A joining crusher that hears of another (R62, R94): it is EXCLUDED before the claims enter. -/
theorem peerRow_conflict {h : State} {a : Addr} {b : RowBody} {r : Role} (peer : a ≠ h.own)
    (role : roleOfCode b.info.role = some r) (conflict : h.roleConflicts r = true) :
    PeerRow h (h.takePeerRow a b) a (h.entryAfter a r b.info) h.hall ∧
    rowHolds h (h.takePeerRow a b) a b
      ((h.table.claims.filter (fun c => c.owner != a)).filter (fun c => c.owner != h.own)) b.info.ceiling.toNat
      ((h.entryAfter a r b.info).isExcluded = false) ∧
    ∃ w x, Expelled w x .role ∧ (h.takePeerRow a b).sync = x.sync ∧ (h.takePeerRow a b).trunk = x.trunk ∧
      (h.takePeerRow a b).port = x.port ∧ Report.roleConflict a ∈ (h.takePeerRow a b).reports := by
  have informed := informed_applyInfo h r b.info peer
  have info : h.takeInfo a b.info = ((h.dropAsk a).applyInfo a r b.info).onRoleConflict a := by
    rw [takeInfo_role peer role, if_pos conflict]
  have row := takePeerRow_role (h := h) (a := a) (b := b) role
  rw [info] at row
  generalize (h.dropAsk a).applyInfo a r b.info = y at *
  have frame := informed.frame
  have ycfg : y.cfg = h.cfg := (congrArg (fun t => t.cfg) frame).trans rfl
  have sync : y.sync = h.sync := (congrArg (fun t => t.sync) frame).trans rfl
  have joining := ((roleConflicts_iff h r).1 conflict).2.2
  obtain ⟨expelled, reported⟩ := onRoleConflict_joining (s := y) a (sync ▸ joining)
  have untouched := expelled.untouched
  generalize y.onRoleConflict a = x at *
  have cfg : x.cfg = h.cfg := untouched.cfg.trans ycfg
  have own : x.own = h.own := congrArg Config.address cfg
  have yown : y.own = h.own := congrArg Config.address ycfg
  have status := expelled.status
  obtain ⟨wframe, table, _, wstatus, _, other, reports⟩ := rowRecorded_facts x a b
  have closed : (x.rowRecorded a b).sync = x.sync := other (by rw [expelled.round]; simp)
  have unmended : ∀ k, mendHall x.sync.status a k = k := fun k => by simp [mendHall, status]
  have result : h.takePeerRow a b = x.rowRecorded a b := by
    rw [row (own ▸ peer)]
    exact onParameters_same (by rw [wstatus, status]; simp)
  have others : x.table.claims.filter (fun c => c.owner != a) =
      (h.table.claims.filter (fun c => c.owner != a)).filter (fun c => c.owner != h.own) := by
    have claims : x.table.claims = y.table.claims.filter (fun c => c.owner != h.own) := yown ▸ untouched.claims
    rw [claims, informed.table, List.filter_filter]
    dsimp only
    rw [← claimsAfter_filter_ne a (h.entryAfter a r b.info), List.filter_filter]
    simp only [Bool.and_comm]
  have seen := ((informed.peerRow rfl).expelled expelled).recorded b
  rw [unmended] at seen
  rw [result]
  exact ⟨seen, rowHolds_rowTable ((informed.peerRow rfl).expelled expelled).entry cfg others table, y, x, expelled,
    closed, (congrArg (fun t => t.trunk) wframe).trans rfl, (congrArg (fun t => t.port) wframe).trans rfl, reports _ reported⟩

end Sys2Proof.Machine
end


section
/-! O24, continued: the station's own ROW, and the statement. -/

namespace Sys2Proof.Machine

/-! ## Reports of an own ROW (R9, R13) -/

theorem roleRemoved_removed_iff (s : State) (id x : Byte) (why : RemovalReason) :
    Report.removed x why ∈ (s.roleRemoved id why).reports ↔ Report.removed x why ∈ s.reports ∨ id = x := by
  rw [((works_roleRemoved s id why).addsNoRemoval).removed_iff]
  simp [State.report, eq_comm]

/-- The removals reported are those already reported and those of the list. -/
theorem foldl_roleRemoved_removed_iff (l : List Claim) (s : State) (x : Byte) (why : RemovalReason) :
    Report.removed x why ∈ (l.foldl (fun s c => s.roleRemoved c.id why) s).reports ↔
      Report.removed x why ∈ s.reports ∨ ∃ c ∈ l, c.id = x := by
  induction l generalizing s with
  | nil => simp
  | cons c l ih =>
    rw [List.foldl_cons, ih, roleRemoved_removed_iff, or_assoc]
    simp

theorem foldl_roleAdmitted_reports (l : List Claim) (s : State) :
    (l.foldl (fun s c => s.roleAdmitted c.id) s).reports = s.reports ++ l.map (fun c => .admitted c.id) := by
  induction l generalizing s with
  | nil => simp
  | cons c l ih =>
    rw [List.foldl_cons, ih, roleAdmitted_eq]
    simp

theorem foldl_roleAdmitted_addsNoRemoval (l : List Claim) (s : State) :
    AddsNoRemoval s (l.foldl (fun s c => s.roleAdmitted c.id) s) :=
  ⟨_, foldl_roleAdmitted_reports l s, fun r hr => by
    obtain ⟨c, _, rfl⟩ := List.mem_map.1 hr
    rfl⟩

/-! ## Dropped records (R8, R13) -/

theorem countDropped_frame (s : State) (n : Nat) :
    { s.countDropped n with counters := s.counters, port := s.port } = s := by
  unfold State.countDropped
  split <;> rfl

theorem countDropped_zero (s : State) : s.countDropped 0 = s := if_pos rfl

theorem countDropped_pos (s : State) {n : Nat} (h : 0 < n) :
    (s.countDropped n).counters.ownRefused = min (s.counters.ownRefused + n) 65535 ∧
    (s.countDropped n).port.flags.getLsbD 4 = true := by
  unfold State.countDropped
  rw [if_neg (by omega)]
  refine ⟨rfl, ?_⟩
  change (s.port.flags ||| BitVec.twoPow 16 4).getLsbD 4 = true
  simp

/-! ## The own ROW -/

/-- The records of an own ROW that enter the table. -/
def State.ownEntering (h : State) (b : RowBody) : List RowRecord :=
  enteringRecords (keptRecords b.records) (h.table.claims.filter (fun c => c.owner != h.own)).length

theorem mem_rowEntered_own {h : State} {b : RowBody} (present : h.senderExcluded h.own = false) {c : Claim} :
    c ∈ h.rowEntered h.own b ↔ ∃ r ∈ h.ownEntering b,
      c = claimOfRecord h.own b.window (ceilingOf h.roster h.own) h.cfg.hall.a r := by
  unfold State.rowEntered
  rw [present, if_neg (by simp), mem_rowClaims]
  rfl

theorem rowDropped_own {h : State} {b : RowBody} (present : h.senderExcluded h.own = false) :
    h.rowDropped h.own b = b.records.length - (h.ownEntering b).length := by
  unfold State.rowDropped State.rowEntered
  rw [present, if_neg (by simp), if_neg (by simp), length_rowClaims]
  rfl

/-- What the station's own ROW makes of the table, the counters and the reports (R9, R12, R13). -/
theorem takeRow_own_facts (h : State) (b : RowBody) (present : h.senderExcluded h.own = false) :
    Untouched ((h.rowTable h.own b).countDropped (h.rowDropped h.own b)) (h.takeRow h.own b) ∧
    (∀ c ∈ h.table.claims, c.owner = h.own →
      (Report.removed c.id .rowDropped ∈ (h.takeRow h.own b).reports ↔ Report.removed c.id .rowDropped ∈ h.reports ∨
        ∀ r ∈ h.ownEntering b, r.id ≠ c.id)) ∧
    (∀ r ∈ h.ownEntering b, (∀ c ∈ h.table.claims, ¬(c.owner = h.own ∧ c.id = r.id)) →
      Report.admitted r.id ∈ (h.takeRow h.own b).reports) := by
  have counted : ((h.rowTable h.own b).countDropped (h.rowDropped h.own b)).reports = h.reports :=
    (congrArg (fun t => t.reports) (countDropped_frame (h.rowTable h.own b) _)).trans rfl
  refine ⟨untouched_takeRow_own h b, fun c mem mine => ?_, fun r enters fresh => ?_⟩
  · rw [takeRow_own, (foldl_roleAdmitted_addsNoRemoval _ _).removed_iff, foldl_roleRemoved_removed_iff, counted]
    refine or_congr_right ⟨fun gone r enters same => ?_, fun gone => ⟨c, ?_, rfl⟩⟩
    · obtain ⟨d, hd, named⟩ := gone
      have none := (List.mem_filter.1 hd).2
      have entered := (mem_rowEntered_own present).2 ⟨r, enters, rfl⟩
      simp only [Bool.not_eq_true', List.any_eq_false] at none
      exact none _ entered (by simp [claimOfRecord, same, named])
    · refine List.mem_filter.2 ⟨List.mem_filter.2 ⟨mem, by simp [mine]⟩, ?_⟩
      simp only [Bool.not_eq_true', List.any_eq_false]
      intro e entered
      obtain ⟨r, enters, rfl⟩ := (mem_rowEntered_own present).1 entered
      simpa [claimOfRecord] using gone r enters
  · rw [takeRow_own, foldl_roleAdmitted_reports]
    refine List.mem_append_right _ (List.mem_map.2
      ⟨claimOfRecord h.own b.window (ceilingOf h.roster h.own) h.cfg.hall.a r, List.mem_filter.2 ⟨?_, ?_⟩, rfl⟩)
    · exact (mem_rowEntered_own present).2 ⟨r, enters, rfl⟩
    · simp only [Bool.not_eq_true', List.any_eq_false]
      intro c hc
      obtain ⟨mem, mine⟩ := List.mem_filter.1 hc
      simpa [claimOfRecord] using fun same => fresh c mem ⟨beq_iff_eq.1 mine, same⟩

/-- The state after the station's own ROW has entered and its own stop is mended. -/
def State.ownRow (h : State) (b : RowBody) : State := (h.takeRow h.own b).mendStop h.own

theorem ownRow_facts (h : State) (b : RowBody) :
    (h.ownRow b).cfg = h.cfg ∧ (h.ownRow b).roster = h.roster ∧ (h.ownRow b).plan = h.plan ∧
    (h.ownRow b).window = h.window ∧ (h.ownRow b).sync.status = h.sync.status ∧
    (h.ownRow b).hall = mendHall h.sync.status h.own h.hall ∧
    (h.ownRow b).table.claims = (h.rowTable h.own b).table.claims ∧
    (h.ownRow b).counters.ownRefused =
      ((h.rowTable h.own b).countDropped (h.rowDropped h.own b)).counters.ownRefused ∧
    (((h.rowTable h.own b).countDropped (h.rowDropped h.own b)).port.flags.getLsbD 4 = true →
      (h.ownRow b).port.flags.getLsbD 4 = true) ∧
    AddsNoRemoval (h.takeRow h.own b) (h.ownRow b) := by
  have untouched := untouched_takeRow_own h b
  have counted := countDropped_frame (h.rowTable h.own b) (h.rowDropped h.own b)
  obtain ⟨mframe, mended, adds⟩ := mendStop_facts (h.takeRow h.own b) h.own
  generalize (h.rowTable h.own b).countDropped (h.rowDropped h.own b) = d at *
  have status : (h.takeRow h.own b).sync.status = h.sync.status :=
    untouched.status_eq.trans ((congrArg (fun t => t.sync.status) counted).trans rfl)
  have hall : (h.takeRow h.own b).hall = h.hall :=
    untouched.hall.trans ((congrArg (fun t => t.hall) counted).trans rfl)
  have counters : (h.takeRow h.own b).counters.ownRefused = d.counters.ownRefused :=
    (congrArg Counters.ownRefused untouched.counters).trans rfl
  have flags : d.port.flags.getLsbD 4 = true → (h.takeRow h.own b).port.flags.getLsbD 4 = true := untouched.raised 4
  have fields {β : Type} (F : State → β) (hm : F { (h.takeRow h.own b).mendStop h.own with
      hall := (h.takeRow h.own b).hall, reports := (h.takeRow h.own b).reports } = F (h.ownRow b)) :
      F (h.ownRow b) = F (h.takeRow h.own b) := hm.symm.trans (congrArg F mframe)
  refine ⟨(fields (fun t => t.cfg) rfl).trans (untouched.cfg.trans ((congrArg (fun t => t.cfg) counted).trans rfl)),
    (fields (fun t => t.roster) rfl).trans (untouched.roster.trans ((congrArg (fun t => t.roster) counted).trans rfl)),
    (fields (fun t => t.plan) rfl).trans (untouched.plan.trans ((congrArg (fun t => t.plan) counted).trans rfl)),
    (fields (fun t => t.window) rfl).trans (untouched.window.trans ((congrArg (fun t => t.window) counted).trans rfl)),
    (fields (fun t => t.sync.status) rfl).trans status, by rw [← status, ← hall]; exact mended,
    (fields (fun t => t.table.claims) rfl).trans
      (untouched.claims.trans ((congrArg (fun t => t.table.claims) counted).trans rfl)),
    (fields (fun t => t.counters.ownRefused) rfl).trans counters, fun raised => ?_, adds⟩
  exact (fields (fun t => t.port.flags.getLsbD 4) rfl).trans (flags raised)

theorem roleOfCode_isSome : ∀ c : BitVec 2, c ≠ 0 → (roleOfCode c).isSome = true := by decide

/-- The own ROW, in either form: its records enter, its stop is mended, and an OPEN round may record it. -/
theorem takeRowFrame_own {h : State} {own : Bool} {a : Addr} {b : RowBody} (mine : a = h.own)
    (takes : own = true ∨ (b.info.role ≠ 0 ∧ (h.sync.status ≠ .syncing ∨ b.info.digest = h.cfg.hall.digest))) :
    { h.takeRowFrame own a b with sync := (h.ownRow b).sync } = h.ownRow b ∧
    (h.takeRowFrame own a b).sync.status = (h.ownRow b).sync.status := by
  subst mine
  cases own with
  | true => exact ⟨rfl, rfl⟩
  | false =>
    obtain ⟨role, same⟩ := takes.resolve_left (by simp)
    obtain ⟨r, coded⟩ := Option.isSome_iff_exists.1 (roleOfCode_isSome _ role)
    obtain ⟨frame, status, _, _⟩ := recordRow_facts (h.ownRow b) h.own
    obtain ⟨cfg, _, _, _, kept, _⟩ := ownRow_facts h b
    have rcfg : ((h.ownRow b).recordRow h.own).cfg = h.cfg := ((congrArg (fun t => t.cfg) frame).trans rfl).trans cfg
    have result : h.takeRowFrame false h.own b = (h.ownRow b).recordRow h.own := by
      change h.takePeerRow h.own b = _
      unfold State.takePeerRow
      rw [coded, takeInfo_own _ rfl]
      refine onParameters_same (s := (h.ownRow b).recordRow h.own) ?_
      rw [status, kept, rcfg]
      rintro ⟨syncing, other⟩
      exact same.elim (fun k => k syncing) other
    rw [result]
    exact ⟨frame, status⟩

/-- What the own ROW leaves, in either form. -/
theorem ownRow_taken {h : State} {own : Bool} {a : Addr} {b : RowBody} (mine : a = h.own)
    (takes : own = true ∨ (b.info.role ≠ 0 ∧ (h.sync.status ≠ .syncing ∨ b.info.digest = h.cfg.hall.digest)))
    (present : h.senderExcluded a = false) :
    let strangers := h.table.claims.filter (fun c => c.owner != a)
    let enter := enteringRecords (keptRecords b.records) strangers.length
    let t := h.takeRowFrame own a b
    t.roster = h.roster ∧ t.plan = h.plan ∧ t.window = h.window ∧ t.sync.status = h.sync.status ∧
    t.hall = mendHall h.sync.status a h.hall ∧ rowHolds h t a b strangers (ceilingOf h.roster a) True ∧
    (enter.length = b.records.length → t.counters.ownRefused = h.counters.ownRefused) ∧
    (enter.length < b.records.length →
      t.counters.ownRefused = min (h.counters.ownRefused + (b.records.length - enter.length)) 65535 ∧
      t.port.flags.getLsbD 4 = true) ∧
    (∀ c ∈ h.table.claims, c.owner = a →
      (Report.removed c.id .rowDropped ∈ t.reports ↔ Report.removed c.id .rowDropped ∈ h.reports ∨
        ∀ r ∈ enter, r.id ≠ c.id)) ∧
    (∀ r ∈ enter, (∀ c ∈ h.table.claims, ¬(c.owner = a ∧ c.id = r.id)) → Report.admitted r.id ∈ t.reports) := by
  intro strangers enter t
  obtain ⟨same, status⟩ := takeRowFrame_own mine takes
  subst mine
  obtain ⟨_, roster, plan, window, kept, hall, claims, refused, flagged, adds⟩ := ownRow_facts h b
  obtain ⟨_, removed, admitted⟩ := takeRow_own_facts h b present
  have dropped := rowDropped_own (b := b) present
  have reports : t.reports = (h.ownRow b).reports := (congrArg (fun t => t.reports) same).trans rfl
  have counted : t.counters.ownRefused =
      ((h.rowTable h.own b).countDropped (b.records.length - enter.length)).counters.ownRefused :=
    ((congrArg (fun t => t.counters.ownRefused) same).trans rfl).trans (refused.trans (by rw [dropped]; rfl))
  refine ⟨((congrArg (fun t => t.roster) same).trans rfl).trans roster,
    ((congrArg (fun t => t.plan) same).trans rfl).trans plan,
    ((congrArg (fun t => t.window) same).trans rfl).trans window, status.trans kept,
    ((congrArg (fun t => t.hall) same).trans rfl).trans hall, fun c => ?_, fun all => ?_, fun few => ⟨?_, ?_⟩,
    fun c mem owned => ?_, fun r enters fresh => ?_⟩
  · have table : t.table.claims = (h.rowTable h.own b).table.claims :=
      ((congrArg (fun t => t.table.claims) same).trans rfl).trans claims
    rw [table, mem_rowTable]
    exact or_congr_right (and_congr_left' ⟨fun _ => trivial, fun _ => present⟩)
  · rw [counted, all, Nat.sub_self, countDropped_zero]
    rfl
  · rw [counted]
    exact (countDropped_pos _ (Nat.sub_pos_of_lt few)).1
  · have raised := flagged (by rw [dropped]; exact (countDropped_pos _ (Nat.sub_pos_of_lt few)).2)
    exact ((congrArg (fun t => t.port.flags.getLsbD 4) same).trans rfl).trans raised
  · rw [reports, adds.removed_iff]
    exact removed c mem owned
  · rw [reports]
    exact adds.mem (admitted r enters fresh)

/-! ## The statement -/

/-- Settles O24: a peer's ROW by its three cases (taken, other parameters, ROLE_CONFLICT), the own ROW by
`ownRow_taken`, and the records that enter by `mem_rowTable`. -/
theorem rowTaken : Obligations.RowTaken := by
  intro rx s h own a b arrives kept below fitting entering claim holds strangers mended hallOf
  have answer : exec (.row rx) s = .next ((h.takeRowFrame own a b).concluded s.seq) :=
    congrArg Host.Outcome.next (event_of_arrival State.takeRowFrame arrives)
  refine ⟨fun foreign zero => ?_, fun r foreign peer role => ?_, fun mine takes present => ?_⟩
  · have result : h.takeRowFrame own a b = h.mendStop a := by
      rw [foreign]
      change h.takePeerRow a b = _
      unfold State.takePeerRow
      rw [zero, roleOfCode_zero]
    obtain ⟨frame, hall, _⟩ := mendStop_facts h a
    exact ⟨_, answer.trans (by rw [result]), hall, frame⟩
  · intro joining conflict differs
    have result : h.takeRowFrame own a b = h.takePeerRow a b := by
      rw [foreign]
      rfl
    rw [result] at answer
    have iff : h.roleConflicts r = true ↔ conflict := roleConflicts_iff h r
    have moment : ∀ (t : State) (k : HallState), hallOf t (h.entryAfter a r b.info) k =
        if presenceMoment (entryOf h.roster a) (h.entryAfter a r b.info) then presenceHall t.roster k else k := by
      intro t k
      dsimp only [hallOf]
      cases entryOf h.roster a <;> rfl
    by_cases clash : conflict
    · obtain ⟨p, entered, w, x, expelled, sync, trunk, port, reported⟩ := peerRow_conflict peer role (iff.2 clash)
      refine ⟨_, h.entryAfter a r b.info, answer, p.entry, rfl, rfl, rfl, rfl, rfl, rfl, ?_, p.others, p.unasked, p.plan,
        p.window, ?_, p.told, fun quiet => absurd clash quiet, fun _ => ?_⟩
      · rw [entryAfter_status]
        cases entryOf h.roster a <;> rfl
      · rw [moment, if_pos clash]
        exact p.hall
      · refine ⟨?_, by rw [sync]; exact expelled.round, by rw [sync]; exact expelled.received,
          by rw [sync]; exact expelled.listenTimer, by rw [trunk]; exact expelled.flying,
          by rw [port]; exact expelled.flagged, entered, fun _ => reported⟩
        rw [sync, if_pos clash]
        exact expelled.status
    · have quiet : ¬h.roleConflicts r = true := fun k => clash (iff.1 k)
      by_cases other : h.sync.status = .syncing ∧ differs
      · obtain ⟨p, entered, w, expelled⟩ := peerRow_differs peer role quiet other
        refine ⟨_, h.entryAfter a r b.info, answer, p.entry, rfl, rfl, rfl, rfl, rfl, rfl, ?_, p.others, p.unasked, p.plan,
          p.window, ?_, p.told, fun _ same => absurd other same, fun _ => ?_⟩
        · rw [entryAfter_status]
          cases entryOf h.roster a <;> rfl
        · rw [moment, if_neg clash]
          exact p.hall
        · refine ⟨?_, expelled.round, expelled.received, expelled.listenTimer, expelled.flying, expelled.flagged, entered,
            fun k => absurd k clash⟩
          rw [if_neg clash]
          exact expelled.status
      · obtain ⟨p, entered, sync, opened, closed, frame⟩ := peerRow_taken peer role quiet other
        refine ⟨_, h.entryAfter a r b.info, answer, p.entry, rfl, rfl, rfl, rfl, rfl, rfl, ?_, p.others, p.unasked, p.plan,
          p.window, ?_, p.told, fun _ _ => ⟨entered, sync, opened, closed, ?_⟩, fun k => absurd k (not_or.2 ⟨clash, other⟩)⟩
        · rw [entryAfter_status]
          cases entryOf h.roster a <;> rfl
        · rw [moment, if_neg clash]
          exact p.hall
        · exact ⟨(congrArg (fun t => t.discharge) frame).trans rfl, (congrArg (fun t => t.filter) frame).trans rfl,
            (congrArg (fun t => t.crusher) frame).trans rfl, (congrArg (fun t => t.seq) frame).trans rfl⟩
  · exact ⟨_, answer, ownRow_taken mine takes present⟩

end Sys2Proof.Machine
end


section
/-! O20, O22 and O23: GATE, RELEASE and ASK. -/

namespace Sys2Proof.Machine

/-! ## GATE (R29) -/

theorem gateViewOf_eq_none {x : Byte} (h : 2 < x.toNat) : gateViewOf x = none := by
  unfold gateViewOf
  split
  · omega
  · omega
  · omega
  · rfl

theorem gateViewOf_eq_some {x : Byte} {v : GateView}
    (h : (x = 0 ∧ v = .running) ∨ (x = 1 ∧ v = .holding) ∨ (x = 2 ∧ v = .jammed)) : gateViewOf x = some v := by
  rcases h with ⟨rfl, rfl⟩ | ⟨rfl, rfl⟩ | ⟨rfl, rfl⟩ <;> rfl

theorem crusherSender_iff (s : State) (a : Addr) : s.crusherSender a = true ↔
    ∃ e, entryOf s.roster a = some e ∧ e.role = .crusher ∧ e.isExcluded = false := by
  unfold State.crusherSender
  cases entryOf s.roster a <;> simp

theorem takeGate_taken {s : State} {a : Addr} {b : GateBody} {v : GateView} (code : gateViewOf b.state = some v)
    (serves : s.crusherSender a = true) :
    (s.takeGate a b).hall = { s.hall with gate := v, holds := b.holds, resume := b.resume } ∧
    { s.takeGate a b with hall := s.hall, reports := s.reports } = s := by
  unfold State.takeGate
  simp only [code, serves, if_true]
  split <;> exact ⟨rfl, rfl⟩

theorem takeGate_ignored {s : State} {a : Addr} {b : GateBody}
    (h : gateViewOf b.state = none ∨ s.crusherSender a = false) : s.takeGate a b = s := by
  unfold State.takeGate
  split
  · rename_i v code
    rcases h with h | h
    · simp [h] at code
    · simp [h]
  · rfl

/-- Settles O20, by `takeGate_taken` and `takeGate_ignored`. -/
theorem gateTaken : Obligations.GateTaken := by
  intro rx s h own a b arrives may
  have answer : exec (.gate rx) s = .next ((h.takeGate a b).concluded s.seq) :=
    congrArg Host.Outcome.next (event_of_arrival (fun _ a b s => s.takeGate a b) arrives)
  refine ⟨fun v code serves => ⟨_, answer, takeGate_taken (gateViewOf_eq_some code) ((crusherSender_iff h a).2 serves)⟩,
    fun ignored => ?_⟩
  have unserved : ¬may → h.crusherSender a = false := fun no =>
    Bool.eq_false_iff.2 fun serves => no ((crusherSender_iff h a).1 serves)
  rw [answer, takeGate_ignored (ignored.imp gateViewOf_eq_none unserved)]

/-! ## RELEASE (R31) -/

theorem addrOf_eq_none {x : Byte} (h : 31 < x.toNat) : addrOf x = none := dif_neg (by omega)

theorem addrOf_eq_some {x : Byte} {a : Addr} : addrOf x = some a ↔ x.toNat = a.val := by
  unfold addrOf
  split
  · rw [Option.some.injEq, Fin.ext_iff]
  · have := a.isLt
    simp only [reduceCtorEq, false_iff]
    omega

theorem stopped_iff (h : HallState) (a : Addr) : h.stopped a = true ↔ ∃ e ∈ h.stops, e.addr = a := by
  simp [HallState.stopped]

/-- A removal from the stop set moves the stop set and the first cause, and may be reported. -/
theorem removeStop_facts (s : State) (a : Addr) :
    { s.removeStop a with hall := s.hall, reports := s.reports } = s ∧
    (s.hall.stopped a = true → (s.removeStop a).hall = s.hall.dropStop a) ∧
    (s.hall.stopped a = false → s.removeStop a = s) := by
  unfold State.removeStop
  cases s.hall.stopped a
  · exact ⟨rfl, fun h => (Bool.false_ne_true h).elim, fun _ => rfl⟩
  · rw [if_pos rfl]
    dsimp only
    split <;> exact ⟨rfl, fun _ => rfl, fun h => (Bool.false_ne_true h.symm).elim⟩

theorem dropStop_of_absent {h : HallState} {a : Addr} (absent : ∀ e ∈ h.stops, e.addr ≠ a) :
    h.stops.filter (fun e => e.addr != a) = h.stops :=
  List.filter_eq_self.2 fun e he => by simpa using absent e he

theorem takeRelease_valid {s : State} {a x : Addr} {b : ReleaseBody} (target : b.target.toNat = x.val)
    (heard : s.senderExcluded a = false) (valid : x = a ∨ b.force = true) : s.takeRelease a b = s.removeStop x := by
  unfold State.takeRelease
  simp [addrOf_eq_some.2 target, heard, valid]

theorem takeRelease_invalid {s : State} {a : Addr} {b : ReleaseBody}
    (h : 31 < b.target.toNat ∨ s.senderExcluded a = true ∨ (b.target.toNat ≠ a.val ∧ b.force = false)) :
    s.takeRelease a b = s := by
  unfold State.takeRelease
  split
  · rename_i x target
    have target := addrOf_eq_some.1 target
    rcases h with h | h | ⟨other, h⟩
    · have := x.isLt
      omega
    · simp [h]
    · have apart : x ≠ a := fun k => other (k ▸ target)
      simp [h, apart]
  · rfl

theorem untouched_afterOwnStop (s : State) : Untouched s s.afterOwnStop := by
  unfold State.afterOwnStop
  split
  · exact untouched_compareStop s
  · exact .refl s

/-- A RELEASE moves the hall condition alone, in the stop set and the first cause. -/
theorem takeRelease_frame (s : State) (a : Addr) (b : ReleaseBody) :
    { s.takeRelease a b with hall := s.hall, reports := s.reports } = s ∧
    { (s.takeRelease a b).hall with stops := s.hall.stops, firstCause := s.hall.firstCause } = s.hall := by
  have removed : ∀ x, { (s.removeStop x).hall with stops := s.hall.stops, firstCause := s.hall.firstCause } = s.hall := by
    intro x
    obtain ⟨_, dropped, kept⟩ := removeStop_facts s x
    cases stands : s.hall.stopped x
    · rw [kept stands]
    · rw [dropped stands]
      rfl
  unfold State.takeRelease
  split
  · split
    · exact ⟨rfl, rfl⟩
    · split
      · exact ⟨(removeStop_facts s _).1, removed _⟩
      · exact ⟨rfl, rfl⟩
  · exact ⟨rfl, rfl⟩

/-- Settles O22: `takeRelease` moves the stop set alone, and a crusher's comparison after its own RELEASE leaves the
record as it is. -/
theorem releaseTaken : Obligations.ReleaseTaken := by
  intro rx s h own a b arrives
  have answer : exec (.release rx) s =
      .next ((if own then (h.takeRelease a b).afterOwnStop else h.takeRelease a b).concluded s.seq) :=
    congrArg Host.Outcome.next (event_of_arrival
      (fun own a b s => if own then (s.takeRelease a b).afterOwnStop else s.takeRelease a b) arrives)
  have compared : Untouched (h.takeRelease a b)
      (if own then (h.takeRelease a b).afterOwnStop else h.takeRelease a b) := by
    split
    · exact untouched_afterOwnStop _
    · exact .refl _
  obtain ⟨frame, hall⟩ := takeRelease_frame h a b
  have moved : Untouched { h with hall := (h.takeRelease a b).hall } (h.takeRelease a b) := by
    have same := congrArg (fun t => ({ t with hall := (h.takeRelease a b).hall } : State)) frame
    rw [← same]
    exact { Untouched.refl _ with }
  refine ⟨_, answer, ?_, ?_, fun x target heard valid => ?_, fun invalid => ?_⟩
  · rw [compared.hall]
    exact moved.trans compared
  · rw [compared.hall]
    exact hall
  · rw [compared.hall, takeRelease_valid target heard valid]
    obtain ⟨_, dropped, kept⟩ := removeStop_facts h x
    cases stands : h.hall.stopped x
    · have absent : ∀ e ∈ h.hall.stops, e.addr ≠ x := fun e he same =>
        Bool.eq_false_iff.1 stands ((stopped_iff _ _).2 ⟨e, he, same⟩)
      rw [kept stands]
      exact ⟨(dropStop_of_absent absent).symm, fun ⟨e, he, same⟩ => absurd same (absent e he), fun _ => rfl⟩
    · rw [dropped stands]
      refine ⟨rfl, fun _ => ?_, fun absent => ?_⟩
      · simp [HallState.dropStop]
      · obtain ⟨e, he, same⟩ := (stopped_iff _ _).1 stands
        exact absurd same (absent e he)
  · rw [compared.hall, takeRelease_invalid invalid]

/-! ## ASK (R64, R65, R96, R98) -/

/-- Whom a target byte names (R190). -/
def askTargetOf (x : Byte) : Option AskTarget := if x = 0xFF#8 then some .all else (addrOf x).map .station

theorem askTargetOf_eq_none {x : Byte} (other : ¬x = 0xFF#8) (high : 31 < x.toNat) : askTargetOf x = none := by
  unfold askTargetOf
  rw [if_neg other, addrOf_eq_none high]
  rfl

theorem askOf_subject {b : AskBody} {t : AskTarget} (target : askTargetOf b.target = some t) :
    (b.subject = 1 → askOf b = some (t, .hello)) ∧ (b.subject = 2 → askOf b = some (t, .row)) := by
  unfold askTargetOf at target
  refine ⟨fun subject => ?_, fun subject => ?_⟩ <;>
  · unfold askOf
    rw [target, subject]
    rfl

theorem askOf_eq_none {b : AskBody}
    (h : b.subject.toNat < 1 ∨ 2 < b.subject.toNat ∨ (b.target ≠ 0xFF ∧ 31 < b.target.toNat)) : askOf b = none := by
  unfold askOf
  dsimp only
  split
  · rename_i t u target subject
    have code : b.subject.toNat = 1 ∨ b.subject.toNat = 2 := by
      split at subject
      · rename_i one
        exact .inl one
      · rename_i two
        exact .inr two
      · cases subject
    rcases h with h | h | ⟨other, high⟩
    · omega
    · omega
    · have none : askTargetOf b.target = none := askTargetOf_eq_none other high
      exact absurd (target.symm.trans none) (by simp)
  · rfl

/-- The station is the one an ASK is put to. -/
def AskTarget.names (own : Addr) : AskTarget → Bool
  | .all => true
  | .station a => a == own

theorem answerHello_eq (s : State) (peer : Bool) (t : AskTarget) : s.answerHello peer t =
    let u := match peer, t with
      | true, .station a => s.dropAsk a
      | _, _ => s
    if t.names u.own && u.lineActive && u.sync.status.joined && u.mode.mode != .leaving
        && !u.trunk.queue.any (fun f => f.waiting && f.body.kind == .hello) then
      u.request (.hello ⟨u.stationInfo, false⟩) .roster
    else u := by
  cases t <;> cases peer <;> rfl

theorem answerRow_eq (s : State) (t : AskTarget) : s.answerRow t =
    if t.names s.own && s.lineActive && s.sync.status.joined then (s.request .row .sync).restateStop else s := by
  cases t <;> rfl

theorem joined_iff (x : SyncStatus) : x.joined = true ↔ x = .syncing ∨ x = .synced ∨ x = .diverged := by
  cases x <;> simp [SyncStatus.joined]

/-- Line and sync state let the station answer an ASK (R64, R96). -/
def State.mayAnswer (s : State) : Prop :=
  s.trunk.line = .active ∧ (s.sync.status = .syncing ∨ s.sync.status = .synced ∨ s.sync.status = .diverged)

theorem mayAnswer_iff (s : State) : (s.lineActive && s.sync.status.joined) = true ↔ s.mayAnswer := by
  rw [Bool.and_eq_true, joined_iff, State.lineActive, beq_iff_eq]
  rfl

/-- The ASK for a HELLO that is put to one station by a peer needs no ASK of this station's own any more (R65). -/
def State.helloAsked (s : State) (own : Bool) (x : Byte) : State :=
  if own = false ∧ x ≠ 0xFF then s.pullWaiting (fun f => f.body == .ask ⟨x, 1⟩) else s

theorem untouched_helloAsked (s : State) (own : Bool) (x : Byte) : Untouched s (s.helloAsked own x) := by
  unfold State.helloAsked
  split
  · exact untouched_pullWaiting s _
  · exact .refl s

/-- A target byte in range names ALL or the station of that address. -/
theorem askTargetOf_some {x : Byte} (h : x = 0xFF ∨ x.toNat ≤ 31) : ∃ t, askTargetOf x = some t ∧
    (t = .all ↔ x = 0xFF) ∧ (∀ own : Addr, t.names own = true ↔ x = 0xFF ∨ x.toNat = own.val) ∧
    ∀ (s : State) (own : Bool), (match !own, t with
      | true, .station a => s.dropAsk a
      | _, _ => s) = s.helloAsked own x := by
  by_cases all : x = 0xFF#8
  · refine ⟨.all, if_pos all, ⟨fun _ => all, fun _ => rfl⟩, fun own => ⟨fun _ => .inl all, fun _ => rfl⟩, fun s own => ?_⟩
    have same : s.helloAsked own x = s := if_neg fun h => h.2 all
    cases own <;> exact same.symm
  · have low := h.resolve_left all
    have byte : addrByte ⟨x.toNat, by omega⟩ = x := BitVec.eq_of_toNat_eq (by simp [addrByte, byteOf])
    refine ⟨.station ⟨x.toNat, by omega⟩, ?_, ⟨fun k => (by cases k), fun k => absurd k all⟩, fun own => ?_, fun s own => ?_⟩
    · unfold askTargetOf addrOf
      rw [if_neg all, dif_pos (by omega)]
      rfl
    · refine ⟨fun k => .inr (congrArg Fin.val (beq_iff_eq.1 k)), fun k => beq_iff_eq.2 (Fin.ext (k.resolve_left all))⟩
    · unfold State.helloAsked
      cases own
      · rw [if_pos ⟨rfl, all⟩]
        change s.pullWaiting (fun f => f.body == .ask ⟨addrByte ⟨x.toNat, _⟩, 1⟩) = _
        rw [byte]
      · rw [if_neg (by simp)]
        rfl

/-- Whether the station asks for its own HELLO, given the state `u` that an ASK finds (R64). -/
theorem answersHello_iff (u : State) (t : AskTarget) :
    (t.names u.own && u.lineActive && u.sync.status.joined && u.mode.mode != .leaving
        && !u.trunk.queue.any (fun f => f.waiting && f.body.kind == .hello)) = true ↔
      t.names u.own = true ∧ u.mayAnswer ∧ u.mode.mode ≠ .leaving ∧
        ¬∃ f ∈ u.trunk.queue, f.sent = none ∧ f.body.kind = .hello := by
  have quiet : (!u.trunk.queue.any (fun f => f.waiting && f.body.kind == .hello)) = true ↔
      ¬∃ f ∈ u.trunk.queue, f.sent = none ∧ f.body.kind = .hello := by
    simp [QFrame.waiting]
  rw [Bool.and_assoc (t.names u.own), Bool.and_eq_true, Bool.and_eq_true, Bool.and_eq_true, mayAnswer_iff, quiet,
    bne_iff_ne]
  tauto

/-- Settles O23: `answerHello_eq` and `answerRow_eq` say when the station answers, and the ASK of a peer for the same
HELLO, or the own ASK that opens the round, moves nothing that this depends on. -/
theorem askTaken : Obligations.AskTaken := by
  intro rx s h own a b arrives mine able
  have answer : exec (.ask rx) s = .next ((h.takeAsk own b).concluded s.seq) :=
    congrArg Host.Outcome.next (event_of_arrival (fun own _ => State.takeAsk own) arrives)
  refine ⟨fun subject range => ?_, fun subject range => ?_, fun outside => ?_⟩
  · intro h1
    obtain ⟨t, target, _, names, dropped⟩ := askTargetOf_some range
    have kept : Untouched h h1 := untouched_helloAsked h own b.target
    have taken : h.takeAsk own b = if t.names h1.own && h1.lineActive && h1.sync.status.joined &&
        h1.mode.mode != .leaving && !h1.trunk.queue.any (fun f => f.waiting && f.body.kind == .hello) then
          h1.request (.hello ⟨h1.stationInfo, false⟩) .roster else h1 := by
      unfold State.takeAsk
      rw [(askOf_subject target).1 subject]
      dsimp only
      rw [answerHello_eq, dropped]
      rfl
    have info : h1.stationInfo = h.stationInfo := by
      unfold State.stationInfo
      rw [kept.cfg]
    have called := answersHello_iff h1 t
    have may : h1.mayAnswer ↔ able := by
      unfold State.mayAnswer
      rw [kept.line_eq, kept.status_eq]
    rw [may, kept.own_eq, names, kept.mode] at called
    rw [answer, taken, kept.own_eq, info, kept.mode]
    refine ⟨fun put ready staying silent => ?_, fun no => ?_⟩
    · rw [if_pos (called.2 ⟨put, ready, staying, fun ⟨f, hf, waits⟩ => silent f hf waits⟩)]
    · rw [if_neg fun calls => ?_]
      obtain ⟨put, ready, staying, silent⟩ := called.1 calls
      rcases no with no | no | no | no
      · exact no put
      · exact no ready
      · exact staying no
      · exact silent no
  · intro h1
    obtain ⟨t, target, all, names, _⟩ := askTargetOf_some range
    have opened : (if own = true ∧ t = .all then h.openRound else h) = h1 :=
      if_congr (and_congr_right' all) rfl rfl
    have may : h1.mayAnswer ↔ able := by
      dsimp only [h1]
      split <;> rfl
    have named : h1.own = h.own := by
      dsimp only [h1]
      split <;> rfl
    have taken : h.takeAsk own b =
        if t.names h1.own && (h1.lineActive && h1.sync.status.joined) then (h1.request .row .sync).restateStop else h1 := by
      unfold State.takeAsk
      rw [(askOf_subject target).2 subject]
      dsimp only
      rw [opened, answerRow_eq, Bool.and_assoc]
    have called : (t.names h1.own && (h1.lineActive && h1.sync.status.joined)) = true ↔ mine ∧ able := by
      rw [Bool.and_eq_true, mayAnswer_iff, may, named, names]
    rw [answer, taken]
    refine ⟨fun put ready => by rw [if_pos (called.2 ⟨put, ready⟩)], fun no => ?_⟩
    rw [if_neg fun calls => ?_]
    obtain ⟨put, ready⟩ := called.1 calls
    exact no.elim (· put) (· ready)
  · rw [answer, State.takeAsk, askOf_eq_none outside]

end Sys2Proof.Machine
end


section
/-! SUPPORT. The choice and the admission of the plan's second phase (R42 to R46): what `eligible`, `chosenBefore` and
`entryFor` pick, for claims that owner and id tell apart. -/

namespace Sys2Proof.Machine

/-! ## The first by a strict order -/

section
variable {α : Type} {before : α → α → Bool}

theorem firstBy_eq_none {l : List α} : firstBy before l = none ↔ l = [] := by
  cases l with
  | nil => exact ⟨fun _ => rfl, fun _ => rfl⟩
  | cons x l =>
    unfold firstBy
    split
    · split <;> simp
    · simp

theorem firstBy_mem {l : List α} {x : α} (h : firstBy before l = some x) : x ∈ l := by
  induction l generalizing x with
  | nil => cases h
  | cons a l ih =>
    unfold firstBy at h
    split at h
    · rename_i z found
      split at h
      · obtain rfl : z = x := by simpa using h
        exact List.mem_cons_of_mem _ (ih found)
      · obtain rfl : a = x := by simpa using h
        exact List.mem_cons_self
    · obtain rfl : a = x := by simpa using h
      exact List.mem_cons_self

/-- The element found precedes every other one, where the order tells any two apart. -/
theorem firstBy_least (trans : ∀ a b c, before a b = true → before b c = true → before a c = true) {l : List α}
    (total : l.Pairwise (fun a b => before a b = true ∨ before b a = true)) {x : α} (h : firstBy before l = some x) :
    x ∈ l ∧ ∀ y ∈ l, y ≠ x → before x y = true := by
  induction l generalizing x with
  | nil => cases h
  | cons a l ih =>
    obtain ⟨head, total⟩ := List.pairwise_cons.1 total
    unfold firstBy at h
    split at h
    · rename_i z found
      obtain ⟨mem, least⟩ := ih total found
      split at h
      · rename_i better
        obtain rfl : z = x := by simpa using h
        refine ⟨List.mem_cons_of_mem _ mem, fun y hy other => ?_⟩
        rcases List.mem_cons.1 hy with rfl | hy
        · exact better
        · exact least y hy other
      · rename_i worse
        obtain rfl : a = x := by simpa using h
        have first : before a z = true := (head z mem).resolve_right worse
        refine ⟨List.mem_cons_self, fun y hy other => ?_⟩
        have hy := (List.mem_cons.1 hy).resolve_left other
        by_cases same : y = z
        · rwa [same]
        · exact trans _ _ _ first (least y hy same)
    · rename_i empty
      obtain rfl : a = x := by simpa using h
      obtain rfl := firstBy_eq_none.1 empty
      exact ⟨List.mem_cons_self, fun y hy other => absurd (by simpa using hy) other⟩

theorem firstBy_eq_some_iff (trans : ∀ a b c, before a b = true → before b c = true → before a c = true)
    (asymm : ∀ a b, before a b = true → ¬before b a = true) {l : List α}
    (total : l.Pairwise (fun a b => before a b = true ∨ before b a = true)) {x : α} :
    firstBy before l = some x ↔ x ∈ l ∧ ∀ y ∈ l, y ≠ x → before x y = true := by
  refine ⟨firstBy_least trans total, fun ⟨mem, least⟩ => ?_⟩
  cases found : firstBy before l with
  | none =>
    rw [firstBy_eq_none.1 found] at mem
    cases mem
  | some z =>
    obtain ⟨zmem, zleast⟩ := firstBy_least trans total found
    by_contra other
    have apart : z ≠ x := fun same => other (congrArg some same)
    exact asymm _ _ (least z zmem apart) (zleast x mem (Ne.symm apart))

end

/-! ## The keys (R42, R43) -/

/-- Owner and id tell two claims apart (R1). -/
def Claim.apart (a b : Claim) : Prop := a.owner ≠ b.owner ∨ a.id ≠ b.id

theorem apart_val {a b : Claim} (h : a.apart b) : a.owner.val ≠ b.owner.val ∨ a.id.toNat ≠ b.id.toNat :=
  h.imp (fun h k => h (Fin.ext k)) (fun h k => h (BitVec.eq_of_toNat_eq k))

/-- In claims told apart, the key of one is not the key of another. -/
theorem eq_of_apart {l : List Claim} (hl : l.Pairwise Claim.apart) {c d : Claim} (hc : c ∈ l) (hd : d ∈ l)
    (owner : c.owner = d.owner) (id : c.id = d.id) : c = d := by
  by_contra other
  have symm : Std.Symm Claim.apart := ⟨fun a b h => h.imp Ne.symm Ne.symm⟩
  exact (hl.forall hc hd other).elim (absurd owner) (absurd id)

theorem olderLot_iff {m : Window} {a b : Claim} : olderLot m a b = true ↔
    b.waited m < a.waited m ∨ (b.waited m = a.waited m ∧ a.id.toNat < b.id.toNat) := by
  simp [olderLot, eq_comm (a := a.waited m)]

theorem chosenBefore_iff {m : Window} {a b : Claim} : chosenBefore m a b = true ↔
    a.effective < b.effective ∨ (a.effective = b.effective ∧ (b.waited m < a.waited m ∨ (b.waited m = a.waited m ∧
      (a.owner.val < b.owner.val ∨ (a.owner = b.owner ∧ a.id.toNat < b.id.toNat))))) := by
  simp [chosenBefore, before_iff, eq_comm (a := a.waited m)]

theorem olderLot_trans (m : Window) (a b c : Claim) (h : olderLot m a b = true) (k : olderLot m b c = true) :
    olderLot m a c = true := by
  rw [olderLot_iff] at *
  omega

theorem olderLot_asymm (m : Window) (a b : Claim) (h : olderLot m a b = true) : ¬olderLot m b a = true := by
  rw [olderLot_iff] at *
  omega

theorem chosenBefore_trans (m : Window) (a b c : Claim) (h : chosenBefore m a b = true)
    (k : chosenBefore m b c = true) : chosenBefore m a c = true := by
  rw [chosenBefore_iff, Fin.ext_iff] at *
  omega

theorem chosenBefore_asymm (m : Window) (a b : Claim) (h : chosenBefore m a b = true) :
    ¬chosenBefore m b a = true := by
  rw [chosenBefore_iff, Fin.ext_iff] at *
  omega

theorem chosenBefore_total (m : Window) {a b : Claim} (h : a.apart b) :
    chosenBefore m a b = true ∨ chosenBefore m b a = true := by
  have := apart_val h
  rw [chosenBefore_iff, chosenBefore_iff, Fin.ext_iff, Fin.ext_iff]
  omega

/-! ## The eligible set (R42) -/

/-- The claim is eligible: a FLUSH, or its unstopped owner's oldest LOT not yet dealt with. -/
def isEligible (m : Window) (rest : List Claim) (stopped : List Addr) (c : Claim) : Prop :=
  c ∈ rest ∧ (c.kind = .lot → c.owner ∉ stopped ∧
    ∀ d ∈ rest, d.owner = c.owner → d.kind = .lot → d ≠ c → olderLot m c d = true)

theorem oldestLot_iff {m : Window} {rest : List Claim} (apart : rest.Pairwise Claim.apart) {a : Addr} {c : Claim} :
    oldestLot m rest a = some c ↔ (c ∈ rest ∧ c.owner = a ∧ c.kind = .lot) ∧
      ∀ d ∈ rest, d.owner = a → d.kind = .lot → d ≠ c → olderLot m c d = true := by
  have mem : ∀ d, d ∈ rest.filter (fun c => c.owner == a && c.kind == .lot) ↔ d ∈ rest ∧ d.owner = a ∧ d.kind = .lot := by
    simp
  have total : (rest.filter (fun c => c.owner == a && c.kind == .lot)).Pairwise
      (fun x y => olderLot m x y = true ∨ olderLot m y x = true) := by
    refine (apart.filter _).imp_of_mem fun {x y} hx hy h => ?_
    have ids := apart_val h
    have owners := ((mem x).1 hx).2.1.trans ((mem y).1 hy).2.1.symm
    rw [olderLot_iff, olderLot_iff]
    rw [owners] at ids
    omega
  unfold oldestLot
  rw [firstBy_eq_some_iff (olderLot_trans m) (olderLot_asymm m) total, mem]
  refine and_congr_right fun _ => forall_congr' fun d => ?_
  rw [mem]
  tauto

theorem mem_eligible {m : Window} {rest : List Claim} {stopped : List Addr} (apart : rest.Pairwise Claim.apart)
    {c : Claim} : c ∈ eligible m rest stopped ↔ isEligible m rest stopped c := by
  unfold eligible isEligible
  rw [List.mem_filter]
  refine and_congr_right fun mem => ?_
  cases kind : c.kind with
  | flush => simp
  | lot =>
    have oldest := oldestLot_iff (m := m) (a := c.owner) (c := c) apart
    simp [oldest, mem, kind]

/-- The claim that a step takes: eligible, and before every other eligible one by the key (R43). -/
theorem firstEligible_iff {m : Window} {rest : List Claim} {stopped : List Addr} (apart : rest.Pairwise Claim.apart)
    {c : Claim} : firstBy (chosenBefore m) (eligible m rest stopped) = some c ↔
      isEligible m rest stopped c ∧ ∀ d, isEligible m rest stopped d → d ≠ c → chosenBefore m c d = true := by
  have total : (eligible m rest stopped).Pairwise (fun a b => chosenBefore m a b = true ∨ chosenBefore m b a = true) :=
    (apart.filter _).imp (chosenBefore_total m)
  rw [firstBy_eq_some_iff (chosenBefore_trans m) (chosenBefore_asymm m) total]
  simp only [mem_eligible apart]

/-! ## Admission (R44, R45) -/

/-- Entry `k` takes the claim: no earlier than transit, resume window and the owner's LOTs allow, of a class that fits
and is not held, within the budget, and for a FLUSH within K. -/
def fitsEntry (p : PlanInputs) (b : Build) (c : Claim) (k : Nat) : Prop :=
  k < 16 ∧ transitOf p.roster c.owner ≤ k ∧
  (p.hall.gate = .holding → 1 ≤ entryNumber p.m p.hall.resume → entryNumber p.m p.hall.resume ≤ 32767 →
    entryNumber p.m p.hall.resume ≤ k) ∧
  (c.kind = .lot → ∀ x ∈ b.lots, x.1 = c.owner → x.2 < k) ∧
  (((b.entries.getD k ⟨none, 0, []⟩).cls = none ∨ (b.entries.getD k ⟨none, 0, []⟩).cls = some c.cls) ∧
    (b.entries.getD k ⟨none, 0, []⟩).volume + c.volume ≤ p.budget) ∧
  classHeld p.hall.holds c.cls = false ∧
  (c.kind = .flush → b.flushes.getD (k - transitOf p.roster c.owner) 0 < p.flushLimit)

theorem afterLots_le {b : Build} {a : Addr} {k : Nat} : b.afterLots a ≤ k ↔ ∀ x ∈ b.lots, x.1 = a → x.2 < k := by
  have bounded : ∀ (l : List (Addr × Nat)) (n : Nat), l.foldl (fun n x => max n (x.2 + 1)) n ≤ k ↔
      n ≤ k ∧ ∀ x ∈ l, x.2 < k := by
    intro l
    induction l with
    | nil => simp
    | cons x l ih =>
      intro n
      rw [List.foldl_cons, ih, List.forall_mem_cons, Nat.max_le, and_assoc, Nat.succ_le_iff]
  unfold Build.afterLots
  rw [bounded]
  simp [List.mem_filter]

theorem resumeBound_le {p : PlanInputs} {k : Nat} : resumeBound p ≤ k ↔
    (p.hall.gate = .holding → 1 ≤ entryNumber p.m p.hall.resume → entryNumber p.m p.hall.resume ≤ 32767 →
      entryNumber p.m p.hall.resume ≤ k) := by
  unfold resumeBound
  dsimp only
  split
  · rename_i bound
    exact ⟨fun h _ _ _ => h, fun h => h bound.1 bound.2.1 bound.2.2⟩
  · rename_i free
    exact ⟨fun _ holds low high => absurd ⟨holds, low, high⟩ free, fun _ => Nat.zero_le _⟩

theorem admits_iff {p : PlanInputs} {b : Build} {c : Claim} {k : Nat} : admits p b c k = true ↔
    (((b.entries.getD k ⟨none, 0, []⟩).cls = none ∨ (b.entries.getD k ⟨none, 0, []⟩).cls = some c.cls) ∧
      (b.entries.getD k ⟨none, 0, []⟩).volume + c.volume ≤ p.budget) ∧
    classHeld p.hall.holds c.cls = false ∧
    (c.kind = .flush → b.flushes.getD (k - transitOf p.roster c.owner) 0 < p.flushLimit) := by
  unfold admits PlanEntry.empty
  cases kind : c.kind <;> simp [and_assoc]

theorem fitsEntry_iff {p : PlanInputs} {b : Build} {c : Claim} {k : Nat} : fitsEntry p b c k ↔
    k < 16 ∧ (decide (earliestEntry p b c ≤ k) && admits p b c k) = true := by
  have lots : (if c.kind = .lot then b.afterLots c.owner else 0) ≤ k ↔
      (c.kind = .lot → ∀ x ∈ b.lots, x.1 = c.owner → x.2 < k) := by
    split
    · rename_i lot
      rw [afterLots_le]
      exact ⟨fun h _ => h, fun h => h lot⟩
    · rename_i flush
      exact ⟨fun _ h => absurd h flush, fun _ => Nat.zero_le _⟩
  unfold fitsEntry earliestEntry
  rw [Bool.and_eq_true, decide_eq_true_iff, Nat.max_le, Nat.max_le, resumeBound_le, lots, admits_iff]
  tauto

theorem entryFor_eq_some {p : PlanInputs} {b : Build} {c : Claim} {k : Nat} : entryFor p b c = some k ↔
    fitsEntry p b c k ∧ ∀ j, j < k → ¬fitsEntry p b c j := by
  unfold entryFor
  rw [List.find?_range_eq_some, List.mem_range]
  simp only [fitsEntry_iff]
  refine ⟨fun ⟨fits, low, earlier⟩ => ⟨⟨low, fits⟩, fun j hj ⟨_, fitsJ⟩ => ?_⟩,
    fun ⟨⟨low, fits⟩, earlier⟩ => ⟨fits, low, fun j hj => ?_⟩⟩
  · have := earlier j hj
    rw [fitsJ] at this
    cases this
  · rw [Bool.not_eq_true']
    exact Bool.eq_false_iff.2 fun fitsJ => earlier j hj ⟨hj.trans low, fitsJ⟩

theorem entryFor_eq_none {p : PlanInputs} {b : Build} {c : Claim} : entryFor p b c = none ↔ ∀ k, ¬fitsEntry p b c k := by
  unfold entryFor
  rw [List.find?_range_eq_none]
  simp only [fitsEntry_iff, Bool.not_eq_true', not_and, Bool.not_eq_true]

/-! ## One step (R46) -/

/-- The claims not yet dealt with once `c` is. -/
def dealtWith (c : Claim) (rest : List Claim) : List Claim := rest.filter (fun d => !(d.owner == c.owner && d.id == c.id))

theorem placeWaiting_none {p : PlanInputs} {fuel : Nat} {rest : List Claim} {stopped : List Addr} {b : Build}
    (none : firstBy (chosenBefore p.m) (eligible p.m rest stopped) = none) :
    placeWaiting p (fuel + 1) rest stopped b = b := by
  unfold placeWaiting
  rw [none]

theorem placeWaiting_placed {p : PlanInputs} {fuel : Nat} {rest : List Claim} {stopped : List Addr} {b : Build}
    {c : Claim} {k : Nat} (first : firstBy (chosenBefore p.m) (eligible p.m rest stopped) = some c)
    (fits : entryFor p b c = some k) :
    placeWaiting p (fuel + 1) rest stopped b = placeWaiting p fuel (dealtWith c rest) stopped (b.place p k c) := by
  conv => lhs; unfold placeWaiting
  simp only [first, fits]
  rfl

theorem placeWaiting_unplaced {p : PlanInputs} {fuel : Nat} {rest : List Claim} {stopped : List Addr} {b : Build}
    {c : Claim} (first : firstBy (chosenBefore p.m) (eligible p.m rest stopped) = some c) (fits : entryFor p b c = none) :
    placeWaiting p (fuel + 1) rest stopped b =
      placeWaiting p fuel (dealtWith c rest) (if c.kind = .lot then c.owner :: stopped else stopped) b := by
  conv => lhs; unfold placeWaiting
  simp only [first, fits]
  rfl

theorem place_eq (p : PlanInputs) (k : Nat) (b : Build) (c : Claim) : b.place p k c =
    { entries := b.entries.modify k (fun e => ⟨some (e.cls.getD c.cls), e.volume + c.volume,
        e.placements ++ [placementOf p k c]⟩)
      flushes := if c.kind = .flush then b.flushes.modify (entryNumber p.m (placementOf p k c).discharge) (· + 1)
        else b.flushes
      lots := if c.kind = .lot then b.lots ++ [(c.owner, k)] else b.lots } := by
  have added : PlanEntry.add (placementOf p k c) c.cls = fun e : PlanEntry =>
      ⟨some (e.cls.getD c.cls), e.volume + c.volume, e.placements ++ [placementOf p k c]⟩ := by
    funext e
    unfold PlanEntry.add
    cases e.cls <;> rfl
  unfold Build.place
  dsimp only
  rw [added]

end Sys2Proof.Machine
end


section
/-! SUPPORT. The plan's first phase (R40): what the placements of the COMMITTED claims of the horizon leave in each
entry, in the flush counts and among the LOTs placed. -/

namespace Sys2Proof.Machine

/-! ## Placements in order -/

/-- Places claims in the entries given with them, one after another. -/
def Build.placeAll (p : PlanInputs) (b : Build) (l : List (Nat × Claim)) : Build :=
  l.foldl (fun b x => b.place p x.1 x.2) b

theorem placeAll_cons (p : PlanInputs) (b : Build) (x : Nat × Claim) (l : List (Nat × Claim)) :
    b.placeAll p (x :: l) = (b.place p x.1 x.2).placeAll p l := rfl

theorem place_entry (p : PlanInputs) (k : Nat) (b : Build) (c : Claim) (i : Nat) :
    (b.place p k c).entries[i]? = if k = i then (b.entries[i]?).map (PlanEntry.add (placementOf p i c) c.cls)
      else b.entries[i]? := by
  unfold Build.place
  dsimp only
  rw [List.getElem?_modify]
  split
  · rename_i same
    rw [same]
    rfl
  · exact Option.map_id_apply

theorem place_lengths (p : PlanInputs) (k : Nat) (b : Build) (c : Claim) :
    (b.place p k c).entries.length = b.entries.length ∧ (b.place p k c).flushes.length = b.flushes.length := by
  unfold Build.place
  refine ⟨List.length_modify .., ?_⟩
  dsimp only
  split
  · exact List.length_modify ..
  · rfl

theorem placeAll_lengths (p : PlanInputs) (l : List (Nat × Claim)) (b : Build) :
    (b.placeAll p l).entries.length = b.entries.length ∧ (b.placeAll p l).flushes.length = b.flushes.length := by
  induction l generalizing b with
  | nil => exact ⟨rfl, rfl⟩
  | cons x l ih =>
    obtain ⟨entries, flushes⟩ := place_lengths p x.1 b x.2
    obtain ⟨entries', flushes'⟩ := ih (b.place p x.1 x.2)
    exact ⟨entries'.trans entries, flushes'.trans flushes⟩

/-- An entry with the claims `cs` placed in it, entry `k` of the plan. -/
def PlanEntry.addAll (p : PlanInputs) (k : Nat) (e : PlanEntry) (cs : List Claim) : PlanEntry :=
  ⟨e.cls.or (cs.head?.map (fun c => c.cls)), e.volume + (cs.map (fun c => c.volume)).sum,
    e.placements ++ cs.map (placementOf p k)⟩

theorem addAll_cons (p : PlanInputs) (k : Nat) (e : PlanEntry) (c : Claim) (cs : List Claim) :
    (e.add (placementOf p k c) c.cls).addAll p k cs = e.addAll p k (c :: cs) := by
  unfold PlanEntry.addAll PlanEntry.add
  have cls : (e.cls.or (some c.cls)).or (cs.head?.map (fun c => c.cls)) = e.cls.or (some c.cls) := by
    cases e.cls <;> rfl
  have volume : e.volume + (placementOf p k c).volume + (cs.map (fun c => c.volume)).sum =
      e.volume + ((c :: cs).map (fun c => c.volume)).sum := by
    rw [List.map_cons, List.sum_cons, Nat.add_assoc]
    rfl
  dsimp only
  rw [cls, volume, List.append_assoc]
  rfl

theorem addAll_empty (p : PlanInputs) (k : Nat) (cs : List Claim) : PlanEntry.empty.addAll p k cs =
    ⟨cs.head?.map (fun c => c.cls), (cs.map (fun c => c.volume)).sum, cs.map (placementOf p k)⟩ := by
  simp [PlanEntry.addAll, PlanEntry.empty]

/-- Each entry takes the claims placed in it, in their order. -/
theorem placeAll_entry (p : PlanInputs) (l : List (Nat × Claim)) (b : Build) (k : Nat) :
    (b.placeAll p l).entries[k]? = (b.entries[k]?).map
      (fun e => e.addAll p k ((l.filter (fun x => x.1 == k)).map (fun x => x.2))) := by
  induction l generalizing b with
  | nil =>
    have nothing : (fun e : PlanEntry => e.addAll p k []) = id := by
      funext e
      simp [PlanEntry.addAll]
    exact (congrFun (congrArg Option.map nothing) _ |>.trans (congrFun Option.map_id _)).symm
  | cons x l ih =>
    rw [placeAll_cons, ih, place_entry]
    by_cases same : x.1 = k
    · rw [if_pos same, List.filter_cons_of_pos (by simpa using same), List.map_cons, Option.map_map]
      exact congrFun (congrArg Option.map (funext fun e => addAll_cons p k e x.2 _)) _
    · rw [if_neg same, List.filter_cons_of_neg (by simpa using same)]

theorem placeAll_lots (p : PlanInputs) (l : List (Nat × Claim)) (b : Build) : (b.placeAll p l).lots =
    b.lots ++ (l.filter (fun x => x.2.kind == .lot)).map (fun x => (x.2.owner, x.1)) := by
  induction l generalizing b with
  | nil => simp [Build.placeAll]
  | cons x l ih =>
    rw [placeAll_cons, ih]
    cases kind : x.2.kind <;> simp [Build.place, kind]

/-- The discharge window of a claim placed in entry `k`. -/
def dischargeOf (p : PlanInputs) (k : Nat) (c : Claim) : Window := (placementOf p k c).discharge

/-- A placement counts a FLUSH in its discharge window (R40, R45). -/
theorem place_flushes (p : PlanInputs) (k : Nat) (b : Build) (c : Claim) {j : Nat} (low : j < b.flushes.length) :
    (b.place p k c).flushes.getD j 0 =
      b.flushes.getD j 0 + if c.kind = .flush ∧ entryNumber p.m (dischargeOf p k c) = j then 1 else 0 := by
  obtain ⟨n, count⟩ : ∃ n, b.flushes[j]? = some n := ⟨_, List.getElem?_eq_getElem low⟩
  unfold Build.place
  by_cases flush : c.kind = .flush
  · by_cases same : entryNumber p.m (placementOf p k c).discharge = j
    · simp [flush, List.getD_eq_getElem?_getD, count, same, dischargeOf]
    · simp [flush, List.getD_eq_getElem?_getD, count, same, dischargeOf]
  · simp [flush]

theorem placeAll_flushes (p : PlanInputs) (l : List (Nat × Claim)) (b : Build) {j : Nat} (low : j < b.flushes.length) :
    (b.placeAll p l).flushes.getD j 0 = b.flushes.getD j 0 +
      l.countP (fun x => x.2.kind == .flush && entryNumber p.m (dischargeOf p x.1 x.2) == j) := by
  induction l generalizing b with
  | nil => rfl
  | cons x l ih =>
    rw [placeAll_cons, ih _ (by rwa [(place_lengths p x.1 b x.2).2]), place_flushes p x.1 b x.2 low, List.countP_cons]
    by_cases counts : x.2.kind = .flush ∧ entryNumber p.m (dischargeOf p x.1 x.2) = j
    · have : (x.2.kind == .flush && entryNumber p.m (dischargeOf p x.1 x.2) == j) = true := by simpa using counts
      rw [if_pos counts, if_pos this]
      omega
    · have : ¬(x.2.kind == .flush && entryNumber p.m (dischargeOf p x.1 x.2) == j) = true := by simpa using counts
      rw [if_neg counts, if_neg this]
      omega

/-! ## The COMMITTED claims of the horizon -/

/-- The horizon's windows by their entry numbers (R36). -/
theorem entryNumber_eq_iff {m w : Window} {k : Nat} (low : k < 16) :
    entryNumber m w = k ↔ w = m + BitVec.ofNat 16 (k + 1) := by
  unfold entryNumber fwd plus
  constructor <;>
  · intro h
    bv_omega

theorem committedTo_iff {m : Window} {k : Nat} (low : k < 16) {c : Claim} :
    committedTo m k c = true ↔ c.status = .committed (m + BitVec.ofNat 16 (k + 1)) := by
  unfold committedTo
  cases c.status with
  | waiting => simp
  | committed w => simp [entryNumber_eq_iff low]

/-- The COMMITTED claims of the horizon with their entries, in the order of the first phase (R40). -/
def horizon (m : Window) (claims : List Claim) : List (Nat × Claim) :=
  (List.range 16).flatMap (fun k => (claims.filter (committedTo m k)).map (fun c => (k, c)))

theorem mem_horizon {m : Window} {claims : List Claim} {x : Nat × Claim} : x ∈ horizon m claims ↔
    x.1 < 16 ∧ x.2 ∈ claims ∧ x.2.status = .committed (m + BitVec.ofNat 16 (x.1 + 1)) := by
  obtain ⟨k, c⟩ := x
  unfold horizon
  simp only [List.mem_flatMap, List.mem_range, List.mem_map, List.mem_filter, Prod.mk.injEq]
  refine ⟨fun ⟨i, low, d, ⟨mem, due⟩, hi, hd⟩ => ?_, fun ⟨low, mem, due⟩ =>
    ⟨k, low, c, ⟨mem, (committedTo_iff low).2 due⟩, rfl, rfl⟩⟩
  subst hi hd
  exact ⟨low, mem, (committedTo_iff low).1 due⟩

theorem placeCommitted_eq (p : PlanInputs) (claims : List Claim) :
    placeCommitted p claims = Build.start.placeAll p (horizon p.m claims) := by
  unfold placeCommitted Build.placeAll horizon
  rw [List.foldl_flatMap]
  simp only [List.foldl_map]

/-- The claims that the horizon has for entry `k`. -/
theorem horizon_entry (m : Window) (claims : List Claim) {k : Nat} (low : k < 16) :
    ((horizon m claims).filter (fun x => x.1 == k)).map (fun x => x.2) =
      claims.filter (fun c => c.status == .committed (m + BitVec.ofNat 16 (k + 1))) := by
  have one : ∀ i, (((claims.filter (committedTo m i)).map (fun c => (i, c))).filter (fun x => x.1 == k)).map
      (fun x => x.2) = if i = k then claims.filter (committedTo m k) else [] := by
    intro i
    by_cases same : i = k
    · subst same
      simp [List.filter_map, Function.comp_def]
    · simp [List.filter_map, Function.comp_def, same]
  have pick : ∀ n, (List.range n).flatMap (fun i => if i = k then claims.filter (committedTo m k) else []) =
      if k < n then claims.filter (committedTo m k) else [] := by
    intro n
    induction n with
    | zero => rfl
    | succ n ih =>
      rw [List.range_succ, List.flatMap_append, ih]
      rcases Nat.lt_trichotomy k n with h | h | h
      · simp [h, show k < n + 1 by omega, show ¬n = k by omega]
      · simp [h]
      · simp [show ¬k < n by omega, show ¬k < n + 1 by omega, show ¬n = k by omega]
  have same : committedTo m k = fun c => c.status == .committed (m + BitVec.ofNat 16 (k + 1)) := by
    funext c
    rw [Bool.eq_iff_iff, committedTo_iff low, beq_iff_eq]
  unfold horizon
  rw [List.filter_flatMap, List.map_flatMap]
  simp only [one]
  rw [pick 16, if_pos low, same]

theorem countP_or_of_disjoint {α : Type} {p q r : α → Bool} (either : ∀ x, r x = (p x || q x))
    (once : ∀ x, p x = true → ¬q x = true) (l : List α) : l.countP r = l.countP p + l.countP q := by
  induction l with
  | nil => rfl
  | cons x l ih =>
    rw [List.countP_cons, List.countP_cons, List.countP_cons, ih, either]
    have alone := once x
    cases hp : p x with
    | false => simp [Nat.add_assoc]
    | true => simp [alone hp]; omega

/-- A count over the horizon is a count of claims: none is COMMITTED to two of its windows. -/
theorem countP_horizon (m : Window) (claims : List Claim) (q : Nat → Claim → Bool) :
    (horizon m claims).countP (fun x => q x.1 x.2) = claims.countP (fun c =>
      (List.range 16).any (fun k => c.status == .committed (m + BitVec.ofNat 16 (k + 1)) && q k c)) := by
  have upTo : ∀ n, n ≤ 16 → ((List.range n).flatMap
      (fun k => (claims.filter (committedTo m k)).map (fun c => (k, c)))).countP (fun x => q x.1 x.2) =
      claims.countP (fun c => (List.range n).any (fun k => committedTo m k c && q k c)) := by
    intro n
    induction n with
    | zero => simp
    | succ n ih =>
      intro low
      have once : ∀ c, (List.range n).any (fun k => committedTo m k c && q k c) = true →
          ¬(committedTo m n c && q n c) = true := by
        intro c earlier now
        obtain ⟨k, hk, at_k⟩ := List.any_eq_true.1 earlier
        have hk := List.mem_range.1 hk
        have first := (committedTo_iff (by omega)).1 (Bool.and_eq_true _ _ ▸ at_k).1
        have second := (committedTo_iff (by omega)).1 (Bool.and_eq_true _ _ ▸ now).1
        have windows := ClaimStatus.committed.inj (first.symm.trans second)
        have : (m + BitVec.ofNat 16 (k + 1)) ≠ m + BitVec.ofNat 16 (n + 1) := by bv_omega
        exact this windows
      have either : ∀ c, (List.range (n + 1)).any (fun k => committedTo m k c && q k c) =
          ((List.range n).any (fun k => committedTo m k c && q k c) || (committedTo m n c && q n c)) := by
        intro c
        rw [List.range_succ, List.any_append]
        simp
      rw [countP_or_of_disjoint either once, ← ih (by omega), List.range_succ, List.flatMap_append, List.countP_append]
      simp [List.countP_map, List.countP_filter, Function.comp_def, Bool.and_comm]
  unfold horizon
  rw [upTo 16 (Nat.le_refl _)]
  refine List.countP_congr fun c _ => ?_
  simp only [List.any_eq_true, List.mem_range, Bool.and_eq_true, beq_iff_eq]
  exact exists_congr fun k => and_congr_right fun low => and_congr_left' (committedTo_iff low)

/-! ## What the first phase leaves -/

theorem placeCommitted_lengths (p : PlanInputs) (claims : List Claim) :
    (placeCommitted p claims).entries.length = 16 ∧ (placeCommitted p claims).flushes.length = 16 := by
  rw [placeCommitted_eq]
  exact placeAll_lengths p _ Build.start

theorem placeCommitted_entry (p : PlanInputs) (claims : List Claim) {k : Nat} (low : k < 16) :
    (placeCommitted p claims).entries[k]? = some (PlanEntry.empty.addAll p k
      (claims.filter (fun c => c.status == .committed (p.m + BitVec.ofNat 16 (k + 1))))) := by
  have fresh : Build.start.entries[k]? = some PlanEntry.empty :=
    List.getElem?_replicate_of_lt low
  rw [placeCommitted_eq, placeAll_entry, fresh, horizon_entry p.m claims low]
  rfl

theorem mem_placeCommitted_lots (p : PlanInputs) (claims : List Claim) (a : Addr) (k : Nat) :
    (a, k) ∈ (placeCommitted p claims).lots ↔ k < 16 ∧ ∃ c ∈ claims, c.owner = a ∧ c.kind = .lot ∧
      c.status = .committed (p.m + BitVec.ofNat 16 (k + 1)) := by
  rw [placeCommitted_eq, placeAll_lots]
  change (a, k) ∈ [] ++ _ ↔ _
  rw [List.nil_append]
  simp only [List.mem_map, List.mem_filter, mem_horizon, Prod.mk.injEq, beq_iff_eq, Prod.exists]
  constructor
  · rintro ⟨i, c, ⟨⟨low, mem, due⟩, lot⟩, owner, rfl⟩
    exact ⟨low, c, mem, owner, lot, due⟩
  · rintro ⟨low, c, mem, owner, lot, due⟩
    exact ⟨k, c, ⟨⟨low, mem, due⟩, lot⟩, owner, rfl⟩

theorem placeCommitted_flushes (p : PlanInputs) (claims : List Claim) {j : Nat} (low : j < 16) :
    (placeCommitted p claims).flushes.getD j 0 = (claims.filter (fun c => c.kind == .flush &&
      (List.range 16).any (fun k => c.status == .committed (p.m + BitVec.ofNat 16 (k + 1)) &&
        dischargeOf p k c == p.m + BitVec.ofNat 16 (j + 1)))).length := by
  have fresh : Build.start.flushes.getD j 0 = 0 := by
    unfold Build.start
    rw [List.getD_eq_getElem?_getD, List.getElem?_replicate_of_lt low]
    rfl
  rw [placeCommitted_eq, placeAll_flushes p _ _ low, fresh, Nat.zero_add,
    countP_horizon p.m claims (fun k c => c.kind == .flush && entryNumber p.m (dischargeOf p k c) == j),
    ← List.countP_eq_length_filter]
  refine List.countP_congr fun c _ => ?_
  simp only [List.any_eq_true, Bool.and_eq_true, beq_iff_eq, entryNumber_eq_iff low]
  constructor
  · rintro ⟨k, hk, due, flush, window⟩
    exact ⟨flush, k, hk, due, window⟩
  · rintro ⟨flush, k, hk, due, window⟩
    exact ⟨k, hk, due, flush, window⟩

end Sys2Proof.Machine
end


section
/-! O53: a build of the plan. What its second phase keeps, as one invariant over the placements of WAITING claims. -/

namespace Sys2Proof.Machine

/-! ## What a placement leaves -/

/-- Entry `j` holds a placement of the claim. -/
def Build.has (b : Build) (j : Nat) (d : Claim) : Prop :=
  ∃ e y, b.entries[j]? = some e ∧ y ∈ e.placements ∧ y.owner = d.owner ∧ y.id = d.id

theorem has_place (p : PlanInputs) (k : Nat) (b : Build) (c : Claim) {j : Nat} {d : Claim} (h : b.has j d) :
    (b.place p k c).has j d := by
  obtain ⟨e, y, at_j, mem, key⟩ := h
  unfold Build.has
  rw [place_entry, at_j]
  split
  · exact ⟨_, y, rfl, List.mem_append_left _ mem, key⟩
  · exact ⟨e, y, rfl, mem, key⟩

theorem has_placed (p : PlanInputs) {k : Nat} {b : Build} (c : Claim) (low : k < b.entries.length) :
    (b.place p k c).has k c := by
  unfold Build.has
  rw [place_entry, if_pos rfl, List.getElem?_eq_getElem low]
  exact ⟨_, placementOf p k c, rfl, List.mem_append_right _ (List.mem_singleton.2 rfl), rfl, rfl⟩

theorem place_lots (p : PlanInputs) (k : Nat) (b : Build) (c : Claim) :
    (b.place p k c).lots = if c.kind = .lot then b.lots ++ [(c.owner, k)] else b.lots := rfl

theorem mem_place_lots (p : PlanInputs) (k : Nat) (b : Build) (c : Claim) {x : Addr × Nat} (h : x ∈ b.lots) :
    x ∈ (b.place p k c).lots := by
  rw [place_lots]
  split
  · exact List.mem_append_left _ h
  · exact h

/-! ## FLUSHes in a discharge window -/

/-- The placement is of a FLUSH claim. -/
def placesFlush (claims : List Claim) (x : Placement) : Bool :=
  claims.any (fun c => c.owner == x.owner && c.id == x.id && c.kind == .flush)

/-- How many placements of FLUSHes have a discharge window. -/
def flushesIn (claims : List Claim) (es : List PlanEntry) (w : Window) : Nat :=
  ((es.map (fun e => e.placements)).flatten.filter (fun x => x.discharge == w && placesFlush claims x)).length

theorem placesFlush_placementOf {claims : List Claim} (apart : claims.Pairwise Claim.apart) (p : PlanInputs) (k : Nat)
    {c : Claim} (mem : c ∈ claims) : placesFlush claims (placementOf p k c) = true ↔ c.kind = .flush := by
  unfold placesFlush
  rw [List.any_eq_true]
  constructor
  · rintro ⟨d, hd, key⟩
    simp only [Bool.and_eq_true, beq_iff_eq] at key
    obtain ⟨⟨owner, id⟩, flush⟩ := key
    rwa [← eq_of_apart apart hd mem owner id]
  · intro flush
    exact ⟨c, mem, by simp [placementOf, flush]⟩

theorem countP_modify_add {l : List PlanEntry} {k : Nat} (low : k < l.length) (x : Placement) (cls : Nat)
    (q : Placement → Bool) : ((l.modify k (PlanEntry.add x cls)).map (fun e => e.placements)).flatten.countP q =
      (l.map (fun e => e.placements)).flatten.countP q + if q x then 1 else 0 := by
  rw [List.modify_eq_take_cons_drop low]
  conv => rhs; rw [← List.take_append_drop k l, List.drop_eq_getElem_cons low]
  simp only [List.map_append, List.map_cons, List.flatten_append, List.flatten_cons, List.countP_append, PlanEntry.add,
    List.countP_cons, List.countP_nil]
  omega

theorem flushesIn_place {claims : List Claim} (apart : claims.Pairwise Claim.apart) (p : PlanInputs) {k : Nat} {b : Build}
    {c : Claim} (mem : c ∈ claims) (low : k < b.entries.length) (w : Window) :
    flushesIn claims (b.place p k c).entries w =
      flushesIn claims b.entries w + if c.kind = .flush ∧ dischargeOf p k c = w then 1 else 0 := by
  have counts : ((placementOf p k c).discharge == w && placesFlush claims (placementOf p k c)) = true ↔
      c.kind = .flush ∧ dischargeOf p k c = w := by
    rw [Bool.and_eq_true, beq_iff_eq, placesFlush_placementOf apart p k mem, and_comm]
    rfl
  have added := countP_modify_add low (placementOf p k c) c.cls (fun x => x.discharge == w && placesFlush claims x)
  unfold flushesIn
  rw [← List.countP_eq_length_filter, ← List.countP_eq_length_filter]
  refine added.trans ?_
  simp only [counts]

/-- The flush counts of a build are those of its entries. -/
def Build.countsFlushes (p : PlanInputs) (claims : List Claim) (b : Build) : Prop :=
  b.entries.length = 16 ∧ b.flushes.length = 16 ∧
  ∀ j, j < 16 → b.flushes.getD j 0 = flushesIn claims b.entries (p.m + BitVec.ofNat 16 (j + 1))

theorem countsFlushes_place {claims : List Claim} (apart : claims.Pairwise Claim.apart) {p : PlanInputs} {k : Nat}
    {b : Build} {c : Claim} (mem : c ∈ claims) (low : k < 16) (h : b.countsFlushes p claims) :
    (b.place p k c).countsFlushes p claims := by
  obtain ⟨entries, flushes, counts⟩ := h
  obtain ⟨entries', flushes'⟩ := place_lengths p k b c
  refine ⟨entries'.trans entries, flushes'.trans flushes, fun j hj => ?_⟩
  rw [place_flushes p k b c (by omega), flushesIn_place apart p mem (by omega), counts j hj]
  simp only [entryNumber_eq_iff hj]

theorem countsFlushes_placeCommitted {claims : List Claim} (apart : claims.Pairwise Claim.apart) (p : PlanInputs) :
    (placeCommitted p claims).countsFlushes p claims := by
  have all : ∀ (l : List (Nat × Claim)) (b : Build), (∀ x ∈ l, x.1 < 16 ∧ x.2 ∈ claims) → b.countsFlushes p claims →
      (b.placeAll p l).countsFlushes p claims := by
    intro l
    induction l with
    | nil => exact fun b _ h => h
    | cons x l ih =>
      intro b mem h
      obtain ⟨low, hx⟩ := mem x List.mem_cons_self
      exact ih _ (fun y hy => mem y (List.mem_cons_of_mem _ hy)) (countsFlushes_place apart hx low h)
  rw [placeCommitted_eq]
  refine all _ _ (fun x hx => ?_) ⟨rfl, rfl, fun j hj => ?_⟩
  · obtain ⟨low, mem, _⟩ := mem_horizon.1 hx
    exact ⟨low, mem⟩
  · have zero : Build.start.flushes.getD j 0 = 0 := by
      rw [Build.start, List.getD_eq_getElem?_getD, List.getElem?_replicate_of_lt hj]
      rfl
    exact zero

/-! ## The invariant of the second phase -/

/-- The placement `x` of entry `k`, which now is `e`, is one that R44 and R45 allow. -/
def placedRightly (p : PlanInputs) (claims : List Claim) (b : Build) (k : Nat) (e : PlanEntry) (x : Placement) : Prop :=
  ∃ c ∈ claims, c.status = .waiting ∧ x = placementOf p k c ∧ e.cls = some c.cls ∧ transitOf p.roster c.owner ≤ k ∧
    classHeld p.hall.holds c.cls = false ∧
    (p.hall.gate = .holding → 1 ≤ entryNumber p.m p.hall.resume → entryNumber p.m p.hall.resume ≤ 32767 →
      entryNumber p.m p.hall.resume ≤ k) ∧
    (c.kind = .lot → ∀ d ∈ claims, d.owner = c.owner → d.kind = .lot →
      (∀ j, j < 16 → d.status = .committed (p.m + BitVec.ofNat 16 (j + 1)) → j < k) ∧
      (claims.Pairwise Claim.apart → d.status = .waiting → olderLot p.m d c = true → ∃ j, j < k ∧ b.has j d))

theorem placedRightly_place {p : PlanInputs} {claims : List Claim} {b : Build} {i : Nat} {e e' : PlanEntry}
    {x : Placement} (h : placedRightly p claims b i e x) (k : Nat) (c : Claim)
    (cls : ∀ n, e.cls = some n → e'.cls = some n) : placedRightly p claims (b.place p k c) i e' x := by
  obtain ⟨d, mem, waiting, placed, ofClass, transit, held, resume, lots⟩ := h
  refine ⟨d, mem, waiting, placed, cls _ ofClass, transit, held, resume, fun lot y hy owner kind => ?_⟩
  obtain ⟨committed, older⟩ := lots lot y hy owner kind
  refine ⟨committed, fun apart wait old => ?_⟩
  obtain ⟨j, earlier, has⟩ := older apart wait old
  exact ⟨j, earlier, has_place p k b c has⟩

/-- The second phase so far: `rest` is not yet dealt with, and the owners `stopped` are stopped. -/
structure PlanGrown (p : PlanInputs) (claims rest : List Claim) (stopped : List Addr) (b : Build) : Prop where
  left : rest.Sublist (claims.filter (fun c => c.status == .waiting))
  entries : b.entries.length = 16
  lots : ∀ x ∈ (placeCommitted p claims).lots, x ∈ b.lots
  grown : ∀ (k : Nat) (e e0 : PlanEntry), b.entries[k]? = some e → (placeCommitted p claims).entries[k]? = some e0 →
    e.volume ≤ max p.budget e0.volume ∧ ∃ added : List Placement, e.placements = e0.placements ++ added ∧
      e.volume = e0.volume + (added.map (fun x => x.volume)).sum ∧ ∀ x ∈ added, placedRightly p claims b k e x
  dealt : claims.Pairwise Claim.apart → ∀ d ∈ claims, d.status = .waiting → d.kind = .lot →
    d ∈ rest ∨ d.owner ∈ stopped ∨ ∃ j, (d.owner, j) ∈ b.lots ∧ b.has j d
  counted : claims.Pairwise Claim.apart → b.countsFlushes p claims
  limited : claims.Pairwise Claim.apart → ∀ w, flushesIn claims b.entries w ≤
    max p.flushLimit (flushesIn claims (placeCommitted p claims).entries w)

theorem planGrown_start (p : PlanInputs) (claims : List Claim) :
    PlanGrown p claims (claims.filter (fun c => c.status == .waiting)) [] (placeCommitted p claims) where
  left := .refl _
  entries := (placeCommitted_lengths p claims).1
  lots := fun _ h => h
  grown := by
    intro k e e0 he he0
    obtain rfl : e = e0 := Option.some.inj (he.symm.trans he0)
    exact ⟨Nat.le_max_right _ _, [], by simp, by simp, by simp⟩
  dealt := fun _ d mem waiting _ => .inl (List.mem_filter.2 ⟨mem, by simp [waiting]⟩)
  counted := fun apart => countsFlushes_placeCommitted apart p
  limited := fun _ _ => Nat.le_max_right _ _

section
variable {p : PlanInputs} {claims rest : List Claim} {stopped : List Addr} {b : Build} {c : Claim} {k : Nat}

theorem PlanGrown.mem_rest (g : PlanGrown p claims rest stopped b) (h : c ∈ rest) : c ∈ claims ∧ c.status = .waiting := by
  have mem := List.mem_filter.1 (g.left.subset h)
  simpa using mem

theorem PlanGrown.eligible_of (g : PlanGrown p claims rest stopped b) (apart : claims.Pairwise Claim.apart)
    (h : c ∈ eligible p.m rest stopped) : isEligible p.m rest stopped c :=
  (mem_eligible ((apart.filter _).sublist g.left)).1 h

/-- A LOT dealt with before an eligible one of its owner has its place in the plan, and `rest` holds no older one. -/
theorem PlanGrown.older_placed (g : PlanGrown p claims rest stopped b) (apart : claims.Pairwise Claim.apart)
    (h : c ∈ eligible p.m rest stopped) (lot : c.kind = .lot) {d : Claim} (mem : d ∈ claims) (owner : d.owner = c.owner)
    (kind : d.kind = .lot) (waiting : d.status = .waiting) (older : olderLot p.m d c = true) :
    ∃ j, (c.owner, j) ∈ b.lots ∧ b.has j d := by
  obtain ⟨_, first⟩ := g.eligible_of apart h
  obtain ⟨unstopped, oldest⟩ := first lot
  rcases g.dealt apart d mem waiting kind with left | halted | placed
  · have other : d ≠ c := fun same => olderLot_asymm p.m d c older (same ▸ older)
    exact absurd older (olderLot_asymm p.m c d (oldest d left owner kind other))
  · exact absurd (owner ▸ halted) unstopped
  · exact owner ▸ placed

/-- A claim of which a step has dealt stays out; the rest stay in. -/
theorem mem_dealtWith {d : Claim} : d ∈ dealtWith c rest ↔ d ∈ rest ∧ ¬(d.owner = c.owner ∧ d.id = c.id) := by
  rw [dealtWith, List.mem_filter, Bool.not_eq_true', Bool.eq_false_iff, Ne, Bool.and_eq_true, beq_iff_eq, beq_iff_eq]

theorem PlanGrown.placed (g : PlanGrown p claims rest stopped b) (h : c ∈ eligible p.m rest stopped)
    (fits : fitsEntry p b c k) : PlanGrown p claims (dealtWith c rest) stopped (b.place p k c) := by
  have inRest : c ∈ rest := (List.mem_filter.1 h).1
  obtain ⟨mem, waiting⟩ := g.mem_rest inRest
  obtain ⟨low, transit, resume, later, ⟨ofClass, budget⟩, held, flushes⟩ := fits
  refine ⟨List.filter_sublist.trans g.left, (place_lengths p k b c).1.trans g.entries,
    fun x hx => mem_place_lots p k b c (g.lots x hx), fun i e e0 he he0 => ?_, fun apart d hd wait lot => ?_,
    fun apart => countsFlushes_place apart mem low (g.counted apart), fun apart w => ?_⟩
  · rw [place_entry] at he
    by_cases same : k = i
    · subst same
      rw [if_pos rfl] at he
      obtain ⟨f, hf, rfl⟩ := Option.map_eq_some_iff.1 he
      rw [List.getD_eq_getElem?_getD, hf] at ofClass budget
      obtain ⟨_, added, placements, volume, right⟩ := g.grown k f e0 hf he0
      have newClass : (f.add (placementOf p k c) c.cls).cls = some c.cls := by
        rcases ofClass with h | h <;> simp only [Option.getD_some] at h <;> simp [PlanEntry.add, h]
      refine ⟨budget.trans (Nat.le_max_left _ _), added ++ [placementOf p k c], ?_, ?_, fun x hx => ?_⟩
      · simp [PlanEntry.add, placements]
      · simp [PlanEntry.add, volume, Nat.add_assoc]
      · rcases List.mem_append.1 hx with hx | hx
        · refine placedRightly_place (right x hx) k c fun n hn => ?_
          simp [PlanEntry.add, hn]
        · obtain rfl := List.mem_singleton.1 hx
          refine ⟨c, mem, waiting, rfl, newClass, transit, held, resume, fun lot d hd owner kind =>
            ⟨fun j hj due => ?_, fun apart wait older => ?_⟩⟩
          · refine later lot (c.owner, j) (g.lots _ ?_) rfl
            exact (mem_placeCommitted_lots p claims _ j).2 ⟨hj, d, hd, owner, kind, due⟩
          · obtain ⟨j, placed, has⟩ := g.older_placed apart h lot hd owner kind wait older
            exact ⟨j, later lot _ placed rfl, has_place p k b c has⟩
    · rw [if_neg same] at he
      obtain ⟨volume, added, placements, sum, right⟩ := g.grown i e e0 he he0
      exact ⟨volume, added, placements, sum, fun x hx => placedRightly_place (right x hx) k c fun _ hn => hn⟩
  · rcases g.dealt apart d hd wait lot with left | halted | ⟨j, placed, has⟩
    · by_cases key : d.owner = c.owner ∧ d.id = c.id
      · obtain rfl := eq_of_apart apart hd mem key.1 key.2
        refine .inr (.inr ⟨k, ?_, has_placed p d (by rw [g.entries]; exact low)⟩)
        rw [place_lots, if_pos lot]
        exact List.mem_append_right _ (List.mem_singleton.2 rfl)
      · exact .inl (mem_dealtWith.2 ⟨left, key⟩)
    · exact .inr (.inl halted)
    · exact .inr (.inr ⟨j, mem_place_lots p k b c placed, has_place p k b c has⟩)
  · obtain ⟨_, _, counts⟩ := g.counted apart
    have before := g.limited apart w
    rw [flushesIn_place apart p mem (by rw [g.entries]; exact low)]
    split
    · rename_i flush
      have number : p.m + BitVec.ofNat 16 (k - transitOf p.roster c.owner + 1) = w := by
        rw [← flush.2]
        change _ = p.m + BitVec.ofNat 16 (k + 1) - BitVec.ofNat 16 (transitOf p.roster c.owner)
        generalize transitOf p.roster c.owner = t at transit
        bv_omega
      have below := flushes flush.1
      rw [counts _ (by omega), number] at below
      omega
    · exact before

theorem PlanGrown.unplaced (g : PlanGrown p claims rest stopped b) (h : c ∈ eligible p.m rest stopped) :
    PlanGrown p claims (dealtWith c rest) (if c.kind = .lot then c.owner :: stopped else stopped) b := by
  have inRest : c ∈ rest := (List.mem_filter.1 h).1
  obtain ⟨mem, _⟩ := g.mem_rest inRest
  refine ⟨List.filter_sublist.trans g.left, g.entries, g.lots, g.grown, fun apart d hd wait lot => ?_, g.counted,
    g.limited⟩
  have more : ∀ a ∈ stopped, a ∈ (if c.kind = .lot then c.owner :: stopped else stopped) := by
    intro a ha
    split
    · exact List.mem_cons_of_mem _ ha
    · exact ha
  rcases g.dealt apart d hd wait lot with left | halted | placed
  · by_cases key : d.owner = c.owner ∧ d.id = c.id
    · obtain rfl := eq_of_apart apart hd mem key.1 key.2
      exact .inr (.inl (by rw [if_pos lot]; exact List.mem_cons_self))
    · exact .inl (mem_dealtWith.2 ⟨left, key⟩)
  · exact .inr (.inl (more _ halted))
  · exact .inr (.inr placed)

end

theorem planGrown_placeWaiting {p : PlanInputs} {claims : List Claim} (fuel : Nat) {rest : List Claim}
    {stopped : List Addr} {b : Build} (g : PlanGrown p claims rest stopped b) :
    ∃ rest' stopped', PlanGrown p claims rest' stopped' (placeWaiting p fuel rest stopped b) := by
  induction fuel generalizing rest stopped b with
  | zero => exact ⟨rest, stopped, g⟩
  | succ fuel ih =>
    cases first : firstBy (chosenBefore p.m) (eligible p.m rest stopped) with
    | none => exact ⟨rest, stopped, by rw [placeWaiting_none first]; exact g⟩
    | some c =>
      have h := firstBy_mem first
      cases entry : entryFor p b c with
      | none =>
        rw [placeWaiting_unplaced first entry]
        exact ih (g.unplaced h)
      | some k =>
        rw [placeWaiting_placed first entry]
        exact ih (g.placed h (entryFor_eq_some.1 entry).1)

/-! ## The statement -/

theorem suspended_iff (h : HallState) : h.suspended = true ↔ h.stops ≠ [] ∨ h.presence = false ∨ h.gate = .jammed := by
  simp [HallState.suspended, or_assoc]

theorem waiting_filter (claims : List Claim) :
    claims.filter (fun c => !c.isCommitted) = claims.filter (fun c => c.status == .waiting) := by
  refine List.filter_congr fun c _ => ?_
  unfold Claim.isCommitted
  cases c.status <;> rfl

theorem buildEntries_suspended {p : PlanInputs} (claims : List Claim) (h : p.hall.suspended = true) :
    buildEntries p claims = (placeCommitted p claims).entries := by
  unfold buildEntries
  simp only [h, if_true]

theorem buildEntries_running {p : PlanInputs} (claims : List Claim) (h : ¬p.hall.suspended = true) :
    buildEntries p claims = (placeWaiting p (claims.filter (fun c => c.status == .waiting)).length
      (claims.filter (fun c => c.status == .waiting)) [] (placeCommitted p claims)).entries := by
  unfold buildEntries
  simp only [h, waiting_filter]
  rfl

theorem planGrown_buildEntries (p : PlanInputs) (claims : List Claim) :
    ∃ rest stopped b, PlanGrown p claims rest stopped b ∧ buildEntries p claims = b.entries := by
  by_cases suspended : p.hall.suspended = true
  · exact ⟨_, _, _, planGrown_start p claims, buildEntries_suspended claims suspended⟩
  · obtain ⟨rest, stopped, g⟩ := planGrown_placeWaiting
      (claims.filter (fun c => c.status == .waiting)).length (planGrown_start p claims)
    exact ⟨rest, stopped, _, g, buildEntries_running claims suspended⟩

/-- Settles O53: the first phase entry by entry, the second by the invariant `PlanGrown`, and each of its steps by the
order of the keys and `entryFor`. -/
theorem planKeepsLimits : Obligations.PlanKeepsLimits := by
  refine ⟨fun p claims => ?_, fun p fuel rest stopped b apart => ?_⟩
  · intro waiting built barred distinct waited flushes
    obtain ⟨rest, stopped, b, g, built_eq⟩ := planGrown_buildEntries p claims
    have iff := suspended_iff p.hall
    refine ⟨by rw [built_eq]; exact g.entries, fun h => buildEntries_suspended claims (iff.2 h),
      fun h => buildEntries_running claims fun k => h (iff.1 k), fun k low => ?_, mem_placeCommitted_lots p claims,
      fun j low => placeCommitted_flushes p claims low, fun apart w => ?_, fun k e e0 he he0 => ?_⟩
    · intro arrival here
      rw [placeCommitted_entry p claims low, addAll_empty]
      rfl
    · rw [built_eq]
      exact g.limited apart w
    · rw [built_eq] at he ⊢
      obtain ⟨volume, added, placements, sum, right⟩ := g.grown k e e0 he he0
      refine ⟨volume, added, placements, sum, fun x hx => ?_⟩
      obtain ⟨c, mem, wait, rfl, ofClass, transit, held, resume, lots⟩ := right x hx
      refine ⟨c, mem, wait, rfl, rfl, rfl, rfl, rfl, ofClass, transit, held, resume, fun lot d hd owner kind => ?_⟩
      obtain ⟨committed, older⟩ := lots lot d hd owner kind
      refine ⟨committed, fun apart waits old => ?_⟩
      obtain ⟨j, earlier, e1, y, he1, hy, key⟩ := older apart waits (olderLot_iff.2 old)
      exact ⟨j, e1, y, earlier, he1, hy, key⟩
  · intro waited able first
    have same : ∀ c, isEligible p.m rest stopped c ↔ able c := fun c => by
      unfold isEligible
      simp only [olderLot_iff]
      rfl
    have chosen : ∀ c, firstBy (chosenBefore p.m) (eligible p.m rest stopped) = some c ↔ first c := fun c => by
      rw [firstEligible_iff apart, same]
      simp only [same, chosenBefore_iff]
      rfl
    refine ⟨fun none => ?_, fun ⟨c, hc⟩ => ?_, fun c hc => ?_⟩
    · refine placeWaiting_none (firstBy_eq_none.2 (List.eq_nil_iff_forall_not_mem.2 fun c hc => ?_))
      exact none c ((same c).1 ((mem_eligible apart).1 hc))
    · cases found : firstBy (chosenBefore p.m) (eligible p.m rest stopped) with
      | none =>
        have mem := (mem_eligible apart).2 ((same c).2 hc)
        rw [firstBy_eq_none.1 found] at mem
        cases mem
      | some d => exact ⟨d, (chosen d).1 found⟩
    · intro transit left n fits
      have found := (chosen c).2 hc
      exact ⟨fun k => place_eq p k b c, fun k hk earlier => placeWaiting_placed found (entryFor_eq_some.2 ⟨hk, earlier⟩),
        fun none => placeWaiting_unplaced found (entryFor_eq_none.2 none)⟩

end Sys2Proof.Machine
end


section
/-! SUPPORT. What a request or a withdrawal moves besides the queue, and that the role units, the sync controller and the
mode controller request no MARK: only the window block does (R51). -/

namespace Sys2Proof.Machine

/-! ## Fates and requests -/

/-- A fate moves only what its requester keeps of the request. -/
theorem deliver_frame (s : State) (who : Block) (b : QBody) (f : Fate) :
    { s.deliver who b f with
      sync := s.sync, discharge := s.discharge, filter := s.filter, reports := s.reports } = s := by
  unfold State.deliver
  dsimp only
  split
  · unfold State.claimFate
    split <;> rfl
  · unfold State.doneFate
    split <;> rfl
  · rfl
  · rfl

theorem deliverAll_frame (s : State) (l : List (Block × QBody × Fate)) :
    { s.deliverAll l with
      sync := s.sync, discharge := s.discharge, filter := s.filter, reports := s.reports } = s := by
  induction l generalizing s with
  | nil => rfl
  | cons x l ih =>
    exact (congrArg (fun t : State => { t with
      sync := s.sync, discharge := s.discharge, filter := s.filter, reports := s.reports })
        (ih (s.deliver x.1 x.2.1 x.2.2))).trans (deliver_frame s _ _ _)

theorem request_frame (s : State) (b : QBody) (who : Block) (u : Bool) :
    { s.request b who u with
      trunk := s.trunk, sync := s.sync, discharge := s.discharge, filter := s.filter, reports := s.reports } = s := by
  have told := (congrArg (fun t : State => { t with
    sync := s.sync, discharge := s.discharge, filter := s.filter, reports := s.reports })
      (deliver_frame ((s.setQueue (s.settleOf b who u).queue).deliverAll (s.settleOf b who u).others) who b
        (s.settleOf b who u).fate)).trans (deliverAll_frame (s.setQueue (s.settleOf b who u).queue) _)
  exact congrArg (fun t : State => { t with trunk := s.trunk }) told

theorem request_seq (s : State) (b : QBody) (who : Block) (u : Bool) : (s.request b who u).seq = s.seq :=
  (congrArg (fun t => t.seq) (request_frame s b who u)).trans rfl

theorem request_counters (s : State) (b : QBody) (who : Block) (u : Bool) : (s.request b who u).counters = s.counters :=
  (congrArg (fun t => t.counters) (request_frame s b who u)).trans rfl

/-- A withdrawal moves the queue alone: its fate is nothing to its requester. -/
theorem pull_frame (s : State) (p : QFrame → Bool) :
    { s.pull p with trunk := s.trunk, reports := s.reports } = s := by
  unfold State.pull
  dsimp only
  rw [deliverAll_withdrawn]
  rfl

theorem length_pull_le (s : State) (p : QFrame → Bool) : (s.pull p).trunk.queue.length ≤ s.trunk.queue.length := by
  rw [pull_queue, List.length_map]
  exact List.length_filter_le _ _

theorem length_enter_le (q : List QFrame) (f : QFrame) : (enter q f).queue.length ≤ q.length + 1 := by
  unfold enter
  split
  · simp
  · split
    · exact Nat.le_succ _
    · have := List.length_eraseIdx_le q (by assumption)
      simp only [List.length_append, List.length_singleton]
      omega

theorem length_settleRequest_le (q : List QFrame) (f : QFrame) (holds : Byte → Bool) :
    (settleRequest q f holds).queue.length ≤ q.length + 1 := by
  have built : ((if q.any (fun g => g.body = f.body) then
      (⟨if f.body = .gate then q.map markFollowUp else q, .absorbed, []⟩ : QResult) else enter q f)).queue.length ≤
        q.length + 1 := by
    split
    · dsimp only
      split <;> simp
    · exact length_enter_le q f
  unfold settleRequest
  split
  · exact built
  · exact built
  · exact built
  · exact built
  · split
    · simp
    · exact length_enter_le q f
  · rename_i b _
    have fewer := List.length_filter_le (fun g => !g.waitingClaim b.id) q
    dsimp only
    split
    · exact fewer.trans (Nat.le_succ _)
    · split
      · exact fewer.trans (Nat.le_succ _)
      · exact (length_enter_le _ f).trans (Nat.succ_le_succ fewer)
  · exact length_enter_le q f

theorem length_request_le (s : State) (b : QBody) (who : Block) (u : Bool) :
    (s.request b who u).trunk.queue.length ≤ s.trunk.queue.length + 1 := by
  rw [request_queue]
  unfold State.settleOf
  split
  · exact Nat.le_succ _
  · split
    · exact Nat.le_succ _
    · exact length_settleRequest_le _ _ _

/-! ### Requests of class 3 and 4 -/

theorem lastIdx_some {α : Type} {p : α → Bool} {l : List α} {i : Nat} (h : lastIdx p l = some i) :
    ∃ x, l[i]? = some x ∧ p x = true := by
  induction l generalizing i with
  | nil => cases h
  | cons x l ih =>
    unfold lastIdx at h
    split at h
    · rename_i j found
      obtain rfl : j + 1 = i := by simpa using h
      exact ih found
    · split at h
      · rename_i here
        obtain rfl : 0 = i := by simpa using h
        exact ⟨x, rfl, here⟩
      · cases h

/-- A frame of class 3 or 4 displaces PRESENTs alone (R86). -/
theorem victim_present {c : Nat} (low : 3 ≤ c) {q : List QFrame} {i : Nat} (h : victimIdx c q = some i) :
    ∃ f, q[i]? = some f ∧ f.body = .present := by
  have four : (if c < 4 then lastIdx (fun f => f.waiting && f.cls == 4) q else none) = some i := by
    unfold victimIdx at h
    dsimp only at h
    rw [if_neg (by omega : ¬c < 3), if_neg (by omega : ¬c < 2)] at h
    split at h
    · rename_i found
      exact found.trans h
    · cases h
  split at four
  · obtain ⟨f, at_i, hp⟩ := lastIdx_some four
    refine ⟨f, at_i, ?_⟩
    have cls := beq_iff_eq.1 (Bool.and_eq_true _ _ ▸ hp).2
    unfold QFrame.cls at cls
    cases hb : f.body <;> rw [hb] at cls <;> simp [QBody.kind, classOf] at cls ⊢
  · cases four

theorem enter_others_present {q : List QFrame} {f : QFrame} (low : 3 ≤ f.cls) :
    ∀ x ∈ (enter q f).others, x.2.1 = .present := by
  unfold enter
  split
  · simp
  · split
    · simp
    · rename_i i found
      obtain ⟨g, at_i, body⟩ := victim_present low found
      simp [at_i, body]

/-- The body is one that no role unit keeps account of, and that displaces no frame of a role unit. -/
def QBody.plain : QBody → Bool
  | .present => true
  | .hello _ => true
  | .ask _ => true
  | _ => false

theorem plain_others {b : QBody} (plain : b.plain = true) (s : State) (who : Block) (u : Bool) :
    ∀ x ∈ (s.settleOf b who u).others, x.2.1 = .present := by
  unfold State.settleOf
  split
  · simp
  · split
    · simp
    · unfold settleRequest newFrame
      cases b with
      | present =>
        dsimp only
        split
        · simp
        · exact enter_others_present (Nat.le_succ 3)
      | hello _ => exact enter_others_present (Nat.le_refl 3)
      | ask _ => exact enter_others_present (Nat.le_refl 3)
      | _ => cases plain

/-- A PRESENT, a HELLO or an ASK is requested without effect on the role unit. -/
theorem request_plain {b : QBody} (plain : b.plain = true) (s : State) (who : Block) (u : Bool) :
    { s.request b who u with trunk := s.trunk, sync := s.sync, reports := s.reports } = s := by
  have presents : ∀ (l : List (Block × QBody × Fate)) (t : State), (∀ x ∈ l, x.2.1 = .present) →
      { t.deliverAll l with reports := t.reports } = t := by
    intro l
    induction l with
    | nil => exact fun t _ => rfl
    | cons x l ih =>
      intro t all
      have here : t.deliver x.1 x.2.1 x.2.2 = t.report (.fate x.1 x.2.1 x.2.2) := by
        rw [all x List.mem_cons_self]
        unfold State.deliver
        cases x.1 <;> rfl
      have rest := ih (t.deliver x.1 x.2.1 x.2.2) fun y hy => all y (List.mem_cons_of_mem _ hy)
      exact (congrArg (fun u : State => { u with reports := t.reports }) rest).trans (by rw [here])
  have others := presents (s.settleOf b who u).others (s.setQueue (s.settleOf b who u).queue) (plain_others plain s who u)
  have last : ∀ t : State, { t.deliver who b (s.settleOf b who u).fate with sync := t.sync, reports := t.reports } = t := by
    intro t
    unfold State.deliver
    cases b with
    | ask _ => cases who <;> rfl
    | present => cases who <;> rfl
    | hello _ => cases who <;> rfl
    | _ => cases plain
  have told := last ((s.setQueue (s.settleOf b who u).queue).deliverAll (s.settleOf b who u).others)
  exact (congrArg (fun t : State => { t with trunk := s.trunk, sync := s.sync, reports := s.reports }) told).trans
    (congrArg (fun t : State => { t with trunk := s.trunk, sync := s.sync, reports := s.reports }) others)

/-! ## MARKs in the queue -/

/-- No MARK waits in the queue. -/
def State.markless (s : State) : Prop := ∀ f ∈ s.trunk.queue, f.body = .mark → f.sent.isSome = true

theorem markless_of_queue {s t : State} (h : s.markless) (queue : t.trunk.queue = s.trunk.queue) : t.markless := by
  unfold State.markless
  rwa [queue]

theorem markless_enter {q : List QFrame} {f : QFrame} (other : f.body ≠ .mark)
    (h : ∀ g ∈ q, g.body = .mark → g.sent.isSome = true) :
    ∀ g ∈ (enter q f).queue, g.body = .mark → g.sent.isSome = true := by
  intro g hg body
  rcases mem_enter hg with hg | rfl
  · exact h g hg body
  · exact absurd body other

theorem markless_settleRequest {q : List QFrame} {f : QFrame} (holds : Byte → Bool) (other : f.body ≠ .mark)
    (h : ∀ g ∈ q, g.body = .mark → g.sent.isSome = true) :
    ∀ g ∈ (settleRequest q f holds).queue, g.body = .mark → g.sent.isSome = true := by
  have filtered : ∀ r : QFrame → Bool, ∀ g ∈ q.filter r, g.body = .mark → g.sent.isSome = true :=
    fun r g hg => h g (List.mem_filter.1 hg).1
  have built : ∀ g ∈ ((if q.any (fun g => g.body = f.body) then
      (⟨if f.body = .gate then q.map markFollowUp else q, .absorbed, []⟩ : QResult) else enter q f)).queue,
        g.body = .mark → g.sent.isSome = true := by
    split
    · dsimp only
      split
      · intro g hg body
        obtain ⟨x, hx, rfl⟩ := List.mem_map.1 hg
        unfold markFollowUp at body ⊢
        split at body
        · rename_i gate
          cases gate.1.symm.trans body
        · rename_i same
          rw [if_neg same]
          exact h x hx body
      · exact h
    · exact markless_enter other h
  unfold settleRequest
  split
  · exact built
  · exact built
  · exact built
  · exact built
  · split
    · intro g hg body
      obtain ⟨x, hx, rfl⟩ := List.mem_map.1 hg
      split at body
      · exact absurd body other
      · rename_i same
        rw [if_neg same]
        exact h x hx body
    · exact markless_enter other h
  · dsimp only
    split
    · exact filtered _
    · split
      · exact filtered _
      · exact markless_enter other (filtered _)
  · exact markless_enter other h

/-- A request for another frame leaves no MARK waiting. -/
theorem markless_request {s : State} {b : QBody} (other : b ≠ .mark) (who : Block) (u : Bool) (h : s.markless) :
    (s.request b who u).markless := by
  unfold State.markless
  rw [request_queue]
  unfold State.settleOf
  split
  · exact h
  · split
    · exact h
    · exact markless_settleRequest _ other h

theorem markless_pull {s : State} (p : QFrame → Bool) (h : s.markless) : (s.pull p).markless := by
  unfold State.markless
  rw [pull_queue]
  intro g hg body
  obtain ⟨x, hx, rfl⟩ := List.mem_map.1 hg
  have kept := h x (List.mem_filter.1 hx).1
  split at body
  · rename_i asked
    rw [if_pos asked]
    exact kept body
  · rename_i unasked
    rw [if_neg unasked]
    exact kept body

theorem markless_foldl {α : Type} {f : State → α → State} (hf : ∀ s x, s.markless → (f s x).markless) (l : List α)
    {s : State} (h : s.markless) : (l.foldl f s).markless := by
  induction l generalizing s with
  | nil => exact h
  | cons x l ih => exact ih (hf s x h)

end Sys2Proof.Machine
end


section
/-! SUPPORT. What the role unit does within the records' part of a MARK, as one relation: it is work of the role unit that
leaves crusher, measurement and mode as they are and requests no MARK (R54, R106). -/

namespace Sys2Proof.Machine

/-- `t` agrees with `s` in configuration, crusher, measurement, tone, mode and pins, and in what belongs to the outside:
what the records' part of a MARK leaves alone. -/
def Clerical (s t : State) : Prop :=
  { t with
    window := s.window, trunk := s.trunk, plan := s.plan, sync := s.sync, table := s.table, roster := s.roster
    hall := s.hall, discharge := s.discharge, filter := s.filter, seq := s.seq, counters := s.counters
    port := s.port, reports := s.reports } = s

theorem Clerical.trans {a b c : State} (h : Clerical a b) (k : Clerical b c) : Clerical a c := by
  have moved := congrArg (fun t : State => { t with
    window := a.window, trunk := a.trunk, plan := a.plan, sync := a.sync, table := a.table, roster := a.roster
    hall := a.hall, discharge := a.discharge, filter := a.filter, seq := a.seq, counters := a.counters
    port := a.port, reports := a.reports }) k
  exact moved.trans h

/-- Work of the role unit within the records' part of a MARK. -/
structure Chores (s t : State) : Prop where
  works : Works s t
  clerical : Clerical s t
  markless : s.markless → t.markless

theorem Chores.refl (s : State) : Chores s s := ⟨.refl s, rfl, id⟩

theorem Chores.trans {a b c : State} (h : Chores a b) (k : Chores b c) : Chores a c :=
  ⟨h.works.trans k.works, h.clerical.trans k.clerical, fun m => k.markless (h.markless m)⟩

theorem chores_request (s : State) {b : QBody} (other : b ≠ .mark) (who : Block) (u : Bool) :
    Chores s (s.request b who u) where
  works := .request s b who u
  clerical := by
    have moved := congrArg (fun t : State => { t with
      window := s.window, plan := s.plan, table := s.table, roster := s.roster, hall := s.hall, seq := s.seq
      counters := s.counters, port := s.port }) (request_frame s b who u)
    exact moved
  markless := markless_request other who u

theorem chores_pull (s : State) (p : QFrame → Bool) : Chores s (s.pull p) where
  works := .pull s p
  clerical := by
    have moved := congrArg (fun t : State => { t with
      window := s.window, plan := s.plan, sync := s.sync, table := s.table, roster := s.roster, hall := s.hall
      discharge := s.discharge, filter := s.filter, seq := s.seq, counters := s.counters, port := s.port })
      (pull_frame s p)
    exact moved
  markless := markless_pull p

/-- Work that leaves the queue and the rest of the station alone. -/
theorem Chores.quiet {s t : State} (works : Works s t) (clerical : Clerical s t)
    (queue : t.trunk.queue = s.trunk.queue) : Chores s t :=
  ⟨works, clerical, fun h => markless_of_queue h queue⟩

theorem chores_foldl {α : Type} (f : State → α → State) (hf : ∀ s x, Chores s (f s x)) (l : List α) (s : State) :
    Chores s (l.foldl f s) := by
  induction l generalizing s with
  | nil => exact .refl s
  | cons x l ih => exact (hf s x).trans (ih _)

section
variable (s : State)

theorem chores_report {r : Report} (h : r.isRemoval = false) : Chores s (s.report r) := .quiet (.report s r h) rfl rfl

theorem chores_raise (f : Attn) : Chores s (s.raise f) := .quiet (.raise s f) rfl rfl

theorem chores_mapLots (f : Lot → Lot) : Chores s (s.mapLots f) := .quiet (works_mapLots s f) rfl rfl

theorem chores_mapFilter (f : FilterState → FilterState)
    (h : (f s.filter).held = s.filter.held ∧ (f s.filter).band = s.filter.band) : Chores s (s.mapFilter f) :=
  .quiet (works_mapFilter s f h) rfl rfl

theorem chores_setDischarge (d : DischargeState) (h : d.held = s.discharge.held) : Chores s { s with discharge := d } :=
  .quiet (works_setDischarge s d h) rfl rfl

theorem chores_cancelOp (k : OpKind) : Chores s (s.cancelOp k) := .quiet (.cancel s k) rfl rfl

theorem chores_countShort : Chores s s.countShort := .quiet (.countShort s) rfl rfl

/-! ## Lots and flushes -/

theorem chores_requestDone (b : DoneBody) : Chores s (s.requestDone b) :=
  (chores_setDischarge s { s.discharge with pending := s.discharge.pending ++ [⟨b, false⟩] } rfl).trans
    (chores_request _ (b := .done b) nofun _ _)

theorem chores_endDischarge : Chores s s.endDischarge := by
  unfold State.endDischarge
  split
  · exact (chores_cancelOp s _).trans ((chores_setDischarge _ _ (by exact rfl)).trans
      ((chores_countShort _).trans ((chores_raise _ _).trans (chores_requestDone _ _))))
  · exact .refl s

theorem chores_withdrawLot (id : Byte) : Chores s (s.withdrawLot id) :=
  (chores_mapLots s _).trans (chores_request _ (by simp) _ _)

theorem chores_withdrawLots (l : List Byte) : Chores s (s.withdrawLots l) := chores_foldl _ chores_withdrawLot l s

theorem chores_lotRemoved (id : Byte) (why : RemovalReason) : Chores s (s.lotRemoved id why) := by
  unfold State.lotRemoved
  split
  · split
    · exact .refl s
    · exact chores_endDischarge s
  · split
    · exact .refl s
    · exact chores_mapLots s _

theorem chores_withdrawFlush : Chores s s.withdrawFlush := by
  unfold State.withdrawFlush
  split
  · split
    · exact .refl s
    · exact (chores_mapFilter s FilterState.unclaim ⟨rfl, rfl⟩).trans (chores_request _ (by simp) _ _)
  · exact .refl s

theorem chores_requestFlushDone (b : DoneBody) : Chores s (s.requestFlushDone b) :=
  (chores_mapFilter s _ (by exact ⟨rfl, rfl⟩)).trans (chores_request _ (by simp) _ _)

theorem chores_endFlush (next : FilterMode) (n : Nat) : Chores s (s.endFlush next n) := by
  unfold State.endFlush
  split
  · exact (chores_cancelOp s _).trans ((chores_mapFilter _ _ ⟨rfl, rfl⟩).trans
      ((chores_countShort _).trans (chores_requestFlushDone _ _)))
  · exact .refl s

theorem chores_flushRemoved (id : Byte) (why : RemovalReason) : Chores s (s.flushRemoved id why) := by
  unfold State.flushRemoved
  split
  · split
    · exact chores_endFlush s _ _
    · exact chores_mapFilter s _ ⟨rfl, rfl⟩
  · exact .refl s

/-- A REMOVED report, and then work of the role unit. -/
theorem chores_roleRemoved (id : Byte) (why : RemovalReason) :
    Chores (s.report (.removed id why)) (s.roleRemoved id why) := by
  unfold State.roleRemoved
  dsimp only
  split
  · exact chores_lotRemoved _ _ _
  · exact chores_flushRemoved _ _ _
  · exact .refl _

theorem chores_roleCommitted (id : Byte) (w : Window) : Chores s (s.roleCommitted id w) := by
  have told := chores_report s (r := .committed id w) rfl
  unfold State.roleCommitted
  dsimp only
  split
  · exact told.trans (chores_mapLots _ _)
  · exact told.trans (chores_mapFilter _ _ (by split <;> exact ⟨rfl, rfl⟩))
  · exact told

theorem chores_withdrawCommitted : Chores s s.withdrawCommitted := by
  unfold State.withdrawCommitted
  split
  · exact chores_withdrawLots s _
  · have unbegun : Chores s (if s.flushUnbegun then s.withdrawFlush else s) := by
      split
      · exact chores_withdrawFlush s
      · exact .refl s
    refine unbegun.trans (chores_foldl _ (fun s id => ?_) _ _)
    split
    · exact .refl s
    · exact chores_request s (by simp) _ _
  · exact .refl s

/-! ## The crusher's frames -/

theorem stopCall_other {own : Addr} {entry wanted : Option StopCause} {b : QBody} (h : stopCall own entry wanted = some b) :
    b ≠ .mark := by
  rintro rfl
  unfold stopCall at h
  split at h <;> try cases h
  split at h <;> cases h

theorem chores_requestGate : Chores s s.requestGate := by
  unfold State.requestGate
  split
  · exact chores_request s (by simp) _ _
  · exact .refl s

theorem chores_compareStop : Chores s s.compareStop := by
  unfold State.compareStop
  split
  · split
    · rename_i b call
      have pulled := chores_pull s (fun f => (f.unitStop && f.body != b) && f.waiting)
      dsimp only
      split
      · exact pulled
      · exact pulled.trans (chores_request _ (stopCall_other call) _ _)
    · exact .refl s
  · exact .refl s

theorem chores_tellHall : Chores s s.tellHall := (chores_requestGate s).trans (chores_compareStop _)

/-! ## SYNC_LOST and SYNC_GAINED -/

theorem chores_roleSyncLost : Chores s s.roleSyncLost := by
  have told := chores_report s (r := .syncLost) rfl
  unfold State.roleSyncLost
  dsimp only
  split
  · exact told.trans ((chores_endDischarge _).trans (chores_withdrawCommitted _))
  · exact told.trans (chores_withdrawCommitted _)
  · exact told

theorem chores_roleSyncGained : Chores s s.roleSyncGained := by
  have told := chores_report s (r := .syncGained) rfl
  unfold State.roleSyncGained
  dsimp only
  split
  · exact told.trans (chores_tellHall _)
  · exact told

end

/-! ## After the records: no unit requests a MARK -/

section
variable {s : State}

theorem markless_reverseEnded (h : s.markless) : s.reverseEnded.markless :=
  (chores_tellHall (s.mapCrusher (fun c => { c with mode := .running, recurrence := some 0 }))).markless h

theorem markless_requestOp (o : Op) (h : s.markless) : (s.requestOp o).markless := by
  have h' : (s.takeSeq (s.seq.request o)).markless := h
  unfold State.requestOp
  dsimp only
  split
  · exact (chores_endDischarge _).markless h'
  · exact markless_reverseEnded h'
  · exact (chores_endFlush _ _ _).markless h'
  · exact h'

theorem markless_completeOp (k : OpKind) (h : s.markless) : (s.completeOp k).markless := by
  unfold State.completeOp
  split <;> exact h

theorem markless_jam (h : s.markless) : s.jam.markless := by
  unfold State.jam
  split
  · dsimp only
    generalize (if s.crusher.recurrence.isSome then min (s.crusher.attempts + 1) 3 else 1) = n
    have counted : (s.mapCrusher (fun c => { c with attempts := n, recurrence := none })).markless := h
    split
    · exact (chores_tellHall _).markless (markless_requestOp _ counted)
    · exact (chores_tellHall _).markless counted
  · exact h

theorem markless_finishOp (k : OpKind) (h : s.markless) : (s.finishOp k).markless := by
  unfold State.finishOp
  split
  · unfold State.finishIndex
    split
    · exact markless_completeOp _ h
    · exact h
  · unfold State.finishFlush
    split
    · split
      · exact (chores_requestFlushDone _ _).markless (markless_completeOp (s := s) _ h)
      · exact h
    · exact h
  · unfold State.finishReverse
    split
    · exact markless_reverseEnded (markless_completeOp _ h)
    · exact h
  · exact h

theorem markless_completeSpent (n : Nat) (k : Option OpKind) (h : s.markless) : (s.completeSpent n k).markless := by
  induction n generalizing s k with
  | zero => exact h
  | succ n ih =>
    unfold State.completeSpent
    split
    · split
      · exact ih _ (markless_finishOp _ h)
      · exact h
    · exact h

/-! ### Standing conditions -/

theorem markless_requestCapture (ch : Fin 4) (h : s.markless) : (s.requestCapture ch).markless := by
  unfold State.requestCapture
  split <;> exact h

theorem markless_keepSealOrder (n : Nat) (h : s.markless) : (s.keepSealOrder n).markless := by
  induction n generalizing s with
  | zero => exact h
  | succ n ih =>
    unfold State.keepSealOrder
    split
    · exact ih ((chores_withdrawLot s _).markless h)
    · exact h

theorem markless_openLot (h : s.markless) : s.openLot.markless := by
  unfold State.openLot
  split
  · exact markless_requestCapture _ h
  · exact h

theorem markless_requestIndex (h : s.markless) : s.requestIndex.markless := by
  unfold State.requestIndex
  split
  · exact markless_requestOp _ h
  · exact h

theorem markless_postLot (h : s.markless) : s.postLot.markless := by
  unfold State.postLot
  split
  · split
    · exact markless_request (by simp) _ _ h
    · exact h
  · exact h

theorem markless_postFlush (h : s.markless) : s.postFlush.markless := by
  unfold State.postFlush
  split
  · exact markless_request (by simp) _ _ h
  · exact h

theorem markless_settleCrusher (ran : Bool) (h : s.markless) : (s.settleCrusher ran).markless := by
  unfold State.settleCrusher
  have fed : (if s.mayFeed then s.requestOp (feedOp s.feedLevel) else s).markless := by
    split
    · exact markless_requestOp _ h
    · exact h
  dsimp only
  generalize (if s.mayFeed then s.requestOp (feedOp s.feedLevel) else s) = t at fed ⊢
  split
  · exact markless_jam fed
  · exact fed

theorem markless_settleRole (ran : Bool) (h : s.markless) : (s.settleRole ran).markless := by
  unfold State.settleRole
  split
  · exact markless_postLot (markless_requestIndex (markless_openLot (markless_keepSealOrder 6 h)))
  · exact markless_postFlush (s := s.mapFilter FilterState.closeBypass) h
  · exact markless_settleCrusher ran h

theorem markless_setMode (x : StationMode) (h : s.markless) : (s.setMode x).markless := by
  unfold State.setMode
  dsimp only
  split <;> exact h

theorem markless_settleMode (h : s.markless) : s.settleMode.markless := by
  unfold State.settleMode
  split
  · split
    · have left : (s.setMode .leaving).requestLeave.markless := markless_request (by simp) _ _ (markless_setMode _ h)
      unfold State.enterLeaving
      dsimp only
      split <;> exact left
    · exact h
  · split
    · exact h
    · have pulled : (s.pull QFrame.leavingHello).markless := markless_pull _ h
      dsimp only
      split
      · exact pulled
      · exact markless_setMode (s := s.pull QFrame.leavingHello) .quiet pulled
  · exact h

/-- The standing conditions request no MARK. -/
theorem markless_concluded (q : SeqState) (h : s.markless) : (s.concluded q).markless := by
  unfold State.concluded
  refine markless_of_queue ?_ (congrArg TrunkState.queue (refreshTone_trunk _))
  cases awake : s.awake
  · rwa [settle_of_asleep q awake]
  · rw [settle_of_awake q awake]
    exact markless_settleRole _ (markless_settleMode (markless_settleRole _ (markless_completeSpent _ _ h)))

/-! ### The role unit's part in a MARK -/

theorem markless_sealAged (h : s.markless) : s.sealAged.markless := by
  unfold State.sealAged State.sealOpen
  split
  · split
    · exact markless_requestCapture (s := s.mapLots (Lot.sealedBy .age)) _ h
    · exact h
  · exact h

theorem markless_startDischarge (m : Window) (h : s.markless) : (s.startDischarge m).markless := by
  unfold State.startDischarge
  split
  · exact markless_requestOp _ h
  · exact h

theorem markless_markDischarge (m : Window) (h : s.markless) : (s.markDischarge m).markless := by
  have started : ∀ u : State, u.markless → (if u.mayDischarge m then u.startDischarge m else u).markless := by
    intro u hu
    split
    · exact markless_startDischarge m hu
    · exact hu
  unfold State.markDischarge
  exact (chores_withdrawLots _ _).markless (markless_sealAged ((chores_mapLots _ _).markless
    ((chores_withdrawLots _ _).markless (started _ ((chores_endDischarge s).markless h)))))

theorem markless_markFilter (settling : Bool) (m : Window) (h : s.markless) : (s.markFilter settling m).markless := by
  have settled : ∀ u : State, u.markless →
      (if settling && u.filter.mode == .settling then u.mapFilter FilterState.settleOnce else u).markless := by
    intro u hu
    split <;> exact hu
  have started : ∀ u : State, u.markless → (if u.mayFlush m then u.startFlush m
      else if u.filter.mode = .committed ∧ u.filter.discharge.any (fun w => dueBy w m) = true then u.withdrawFlush
      else u).markless := by
    intro u hu
    split
    · exact markless_requestOp _ hu
    · split
      · exact (chores_withdrawFlush u).markless hu
      · exact hu
  unfold State.markFilter State.withdrawOrphanFlushes
  exact markless_foldl (fun s id => markless_request (by simp) _ _) _
    (started _ (settled _ ((chores_endFlush s _ _).markless h)))

end

end Sys2Proof.Machine
end


section
/-! SUPPORT. Window, PRESENT, plan and comparison at a MARK (R54, R55, R37, R91, R99 to R102): what the table and the roster
find when their turn comes. -/

namespace Sys2Proof.Machine

/-- Fields that work of the role unit keeps, read off `Untouched`. -/
theorem Untouched.stale_eq {s t : State} (h : Untouched s t) : t.counters.stale = s.counters.stale :=
  (congrArg (fun c : Counters => c.stale) h.counters).trans rfl

/-! ## Requests that leave the role unit alone -/

/-- `t` comes from `s` by at most `n` requests for PRESENTs, HELLOs and ASKs, with what the sync controller notes of them:
it has neither become SYNCED nor EXCLUDED. -/
structure Asks (n : Nat) (s t : State) : Prop where
  frame : { t with trunk := s.trunk, sync := s.sync, port := s.port, reports := s.reports } = s
  trunk : { t.trunk with queue := s.trunk.queue } = s.trunk
  length : t.trunk.queue.length ≤ s.trunk.queue.length + n
  markless : s.markless → t.markless
  synced : t.sync.status = .synced → s.sync.status = .synced
  excluded : t.sync.status.isExcluded = true → s.sync.status.isExcluded = true

theorem Asks.trans {m n : Nat} {a b c : State} (h : Asks m a b) (k : Asks n b c) : Asks (m + n) a c where
  frame := (congrArg (fun t : State => { t with
    trunk := a.trunk, sync := a.sync, port := a.port, reports := a.reports }) k.frame).trans h.frame
  trunk := (congrArg (fun t : TrunkState => { t with queue := a.trunk.queue }) k.trunk).trans h.trunk
  length := by
    have := h.length
    have := k.length
    omega
  markless m := k.markless (h.markless m)
  synced e := h.synced (k.synced e)
  excluded e := h.excluded (k.excluded e)

/-- No request at all. -/
theorem Asks.none {s t : State} (n : Nat)
    (frame : { t with trunk := s.trunk, sync := s.sync, port := s.port, reports := s.reports } = s)
    (trunk : t.trunk = s.trunk) (synced : t.sync.status = .synced → s.sync.status = .synced)
    (excluded : t.sync.status.isExcluded = true → s.sync.status.isExcluded = true) : Asks n s t where
  frame := frame
  trunk := by rw [trunk]
  length := by rw [trunk]; exact Nat.le_add_right _ _
  markless h := markless_of_queue h (congrArg TrunkState.queue trunk)
  synced := synced
  excluded := excluded

theorem Asks.refl (n : Nat) (s : State) : Asks n s s := .none n rfl rfl id id

theorem asks_request (s : State) {b : QBody} (plain : b.plain = true) (who : Block) (u : Bool) :
    Asks 1 s (s.request b who u) := by
  have status : (s.request b who u).sync.status = s.sync.status := (Works.request s b who u).untouched.status_eq
  refine ⟨?_, (Works.request s b who u).untouched.trunk, length_request_le s b who u, ?_, ?_, ?_⟩
  · exact (congrArg (fun t : State => { t with port := s.port }) (request_plain plain s who u)).trans rfl
  · refine markless_request ?_ who u
    rintro rfl
    cases plain
  · rw [status]; exact id
  · rw [status]; exact id

theorem asks_mapSync (s : State) (f : SyncState → SyncState) (h : (f s.sync).status = s.sync.status) :
    Asks 0 s (s.mapSync f) :=
  .none 0 rfl rfl (fun e => h.symm.trans e) (fun e => (congrArg SyncStatus.isExcluded h).symm.trans e)

theorem asks_askRows (s : State) (n : Nat) : Asks 1 s (s.askRows n) :=
  (asks_mapSync s _ (by exact rfl)).trans (asks_request _ (by exact rfl) _ _)

theorem asks_requestHello (s : State) : Asks 1 s s.requestHello := asks_request s rfl _ _

theorem asks_raise (s : State) (f : Attn) : Asks 0 s (s.raise f) := .none 0 rfl rfl id id

theorem Asks.weaken {m n : Nat} {s t : State} (h : Asks m s t) (le : m ≤ n) : Asks n s t :=
  { h with length := h.length.trans (Nat.add_le_add_left le _) }

/-! ## The window's and the plan's part -/

/-- The line record once the confinement has counted a MARK (R81). -/
def TrunkState.counted (k : TrunkState) : TrunkState :=
  if k.line = .listenOnly then { k with confMarks := k.confMarks + 1, confExpiries := 0 } else k

theorem counted_line (k : TrunkState) : k.counted.line = k.line := by
  unfold TrunkState.counted
  split <;> rfl

/-- Only window and line record move, with what the requests behind them leave in sync state, port and reports. -/
structure Opens (m : Window) (n : Nat) (s t : State) : Prop where
  frame : { t with
    window := s.window, trunk := s.trunk, sync := s.sync, port := s.port, reports := s.reports } = s
  status : t.sync.status = s.sync.status
  window : { t.window with sent := s.window.sent } = { s.window with number := m, timer := some 0, expiries := 0 }
  trunk : { t.trunk with queue := s.trunk.queue } = s.trunk.counted
  length : t.trunk.queue.length ≤ s.trunk.queue.length + n
  markless : t.markless

/-- Withdrawing the waiting MARKs leaves none. -/
theorem markless_pullMarks (s : State) : (s.pullWaiting (fun f => f.body == QBody.mark)).markless := by
  intro f hf body
  unfold State.pullWaiting at hf
  rw [pull_queue] at hf
  obtain ⟨g, hg, rfl⟩ := List.mem_map.1 hf
  have unpulled := (List.mem_filter.1 hg).2
  by_cases mark : g.body = .mark
  · simp_all [QFrame.waiting, Option.isSome_iff_ne_none]
  · simp_all

theorem opens_markWindow (s : State) (m : Window) : Opens m 0 s (s.markWindow m) := by
  generalize hu : ({ s with window := { s.window with number := m, timer := some 0, expiries := 0 } } : State) = u
  generalize hv : u.pullWaiting (fun f => f.body == QBody.mark) = v
  have kept : Untouched u v := hv ▸ (Works.pull u _).untouched
  have moved : { v with trunk := u.trunk, reports := u.reports } = u := hv ▸ pull_frame u _
  have none : v.markless := hv ▸ markless_pullMarks u
  have shorter : v.trunk.queue.length ≤ u.trunk.queue.length := hv ▸ length_pull_le u _
  have line : v.trunk.line = u.trunk.line := kept.line_eq
  have trunk := kept.trunk
  have window := kept.window
  have step : s.markWindow m = if v.trunk.line = .listenOnly then
      v.mapTrunk (fun t => { t with confMarks := t.confMarks + 1, confExpiries := 0 }) else v := by
    rw [← hv, ← hu]
    rfl
  have frame : { v with
      window := s.window, trunk := s.trunk, sync := s.sync, port := s.port, reports := s.reports } = s := by
    refine (congrArg (fun t : State => { t with
      window := s.window, trunk := s.trunk, sync := s.sync, port := s.port, reports := s.reports }) moved).trans ?_
    rw [← hu]
  have status := kept.status_eq
  subst hu
  rw [step]
  split
  · rename_i listening
    rw [line] at listening
    refine ⟨frame, status, congrArg (fun w : WindowState => { w with sent := s.window.sent }) window, ?_, shorter, none⟩
    rw [TrunkState.counted, if_pos listening]
    exact congrArg (fun t : TrunkState => { t with confMarks := t.confMarks + 1, confExpiries := 0 }) trunk
  · rename_i listening
    rw [line] at listening
    refine ⟨frame, status, congrArg (fun w : WindowState => { w with sent := s.window.sent }) window, ?_, shorter, none⟩
    rw [TrunkState.counted, if_neg listening]
    exact trunk

/-- The PRESENT of a MARK. -/
theorem opens_markPresent {m : Window} {s u : State} (h : Opens m 0 s u) (own joined : Bool) :
    Opens m 1 s (u.markPresent own joined) ∧ (u.markPresent own joined).window.sent = false := by
  unfold State.markPresent
  generalize ha : (if (!(own || u.window.sent) && joined && u.lineActive && u.cfg.role != .crusher) = true then
    u.request .present .window else u) = v
  have asks : Asks 1 u v := by
    rw [← ha]
    split
    · exact asks_request u rfl _ _
    · exact .refl 1 u
  have window : v.window = u.window := (congrArg (fun t : State => t.window) asks.frame).trans rfl
  have status : v.sync.status = u.sync.status := by
    rw [← ha]
    split
    · exact (Works.request u _ _ _).untouched.status_eq
    · rfl
  refine ⟨⟨?_, status.trans h.status, ?_, ?_, ?_, ?_⟩, rfl⟩
  · exact (congrArg (fun t : State => { t with
      window := s.window, trunk := s.trunk, sync := s.sync, port := s.port, reports := s.reports })
        asks.frame).trans h.frame
  · rw [← h.window, ← window]
  · exact (congrArg (fun t : TrunkState => { t with queue := s.trunk.queue }) asks.trunk).trans h.trunk
  · exact asks.length.trans (Nat.add_le_add_right h.length 1)
  · exact asks.markless h.markless

/-! ## The comparison -/

theorem markRound_cases (s : State) (v : MarkView) (b : MarkBody) :
    Asks 2 s (s.markRound v b) ∨
    ∃ x : SyncState, x.status = s.sync.status ∧ s.markRound v b = ({ s with sync := x } : State).becomeSynced := by
  unfold State.markRound
  split
  · split
    · unfold State.decideRound
      split
      · exact .inr ⟨{ s.sync.closeRound with attempts := 0 }, rfl, rfl⟩
      · exact .inl (((asks_raise s _).trans (asks_askRows _ _)).weaken (by decide))
    · have counted := asks_mapSync s (fun x => { x with roundMarks := x.roundMarks + 1 }) rfl
      refine .inl ?_
      dsimp only
      split
      · exact (counted.trans (asks_askRows _ _)).weaken (by decide)
      · exact counted.weaken (by decide)
  · split
    · exact .inl ((asks_askRows s _).weaken (by decide))
    · exact .inl (.refl 2 s)
  · exact .inl (.refl 2 s)

/-- At a MARK the sync controller asks, or becomes SYNCED, or diverges. -/
theorem markSync_cases (s : State) (v : MarkView) (b : MarkBody) :
    Asks 2 s (s.markSync v b) ∨
    (s.sync.status.mending = true ∧
      ∃ x : SyncState, x.status = s.sync.status ∧ s.markSync v b = ({ s with sync := x } : State).becomeSynced) ∨
    (s.sync.status = .synced ∧ s.markSync v b = s.enterDiverged) := by
  unfold State.markSync
  split
  · rename_i listening
    have joining : Asks 0 s ((s.mapSync (fun x => { x with listenTimer := none })).setSync .syncing) := by
      unfold State.setSync
      dsimp only
      split <;> exact .none 0 rfl rfl nofun nofun
    exact .inl (joining.trans ((asks_requestHello _).trans (asks_askRows _ _)))
  · rename_i syncing
    have mending : s.sync.status.mending = true := by rw [syncing]; rfl
    exact (markRound_cases s v b).imp_right fun h => .inl ⟨mending, h⟩
  · rename_i diverged
    have mending : s.sync.status.mending = true := by rw [diverged]; rfl
    exact (markRound_cases s v b).imp_right fun h => .inl ⟨mending, h⟩
  · rename_i synced
    split
    · exact .inl (.refl 2 s)
    · exact .inr (.inr ⟨synced, rfl⟩)
  · exact .inl (.refl 2 s)

/-- What the comparison leaves as it found it, and the restated marks on becoming SYNCED (log 17). -/
structure Compared (s t : State) : Prop where
  clerical : Clerical s t
  window : t.window = s.window
  plan : t.plan = s.plan
  claims : t.table.claims = s.table.claims
  roster : t.roster = s.roster
  stale : t.counters.stale = s.counters.stale
  trunk : { t.trunk with queue := s.trunk.queue } = s.trunk
  markless : s.markless → t.markless
  hall : t.hall = if s.sync.status ≠ .synced ∧ t.sync.status = .synced then
    { s.hall with stops := s.hall.stops.map (fun e => { e with restated := true }) } else s.hall
  excluded : t.sync.status.isExcluded = true → s.sync.status.isExcluded = true

theorem setSync_frame (s : State) (x : SyncStatus) : { s.setSync x with sync := s.sync, reports := s.reports } = s := by
  unfold State.setSync
  dsimp only
  split <;> rfl

theorem setSync_status (s : State) (x : SyncStatus) : (s.setSync x).sync.status = x := by
  unfold State.setSync
  dsimp only
  split <;> rfl

/-- A station whose sync state and hall record alone have moved, and then its role unit. -/
theorem compared_of_setSync {s t : State} (x : SyncStatus) {k : HallState}
    (h : Chores { s.setSync x with hall := k } t) (shut : x.isExcluded = false)
    (hall : k = if s.sync.status ≠ .synced ∧ x = .synced then
      { s.hall with stops := s.hall.stops.map (fun e => { e with restated := true }) } else s.hall) : Compared s t := by
  have frame : { { s.setSync x with hall := k } with hall := s.hall, sync := s.sync, reports := s.reports } = s :=
    (congrArg (fun t : State => { t with hall := s.hall }) (setSync_frame s x)).trans rfl
  have set : ({ s.setSync x with hall := k } : State).sync.status = x := setSync_status s x
  have now : ({ s.setSync x with hall := k } : State).hall = k := rfl
  generalize ({ s.setSync x with hall := k } : State) = u at *
  have kept := h.works.untouched
  have status : t.sync.status = x := kept.status_eq.trans set
  have told : Clerical s u := by
    have moved := congrArg (fun t : State => { t with
      window := s.window, trunk := s.trunk, plan := s.plan, table := s.table, roster := s.roster
      discharge := s.discharge, filter := s.filter, seq := s.seq, counters := s.counters, port := s.port }) frame
    exact moved
  have trunk : u.trunk = s.trunk := (congrArg (fun t : State => t.trunk) frame).trans rfl
  exact {
    clerical := told.trans h.clerical
    window := kept.window.trans ((congrArg (fun t : State => t.window) frame).trans rfl)
    plan := kept.plan.trans ((congrArg (fun t : State => t.plan) frame).trans rfl)
    claims := kept.claims.trans ((congrArg (fun t : State => t.table.claims) frame).trans rfl)
    roster := kept.roster.trans ((congrArg (fun t : State => t.roster) frame).trans rfl)
    stale := kept.stale_eq.trans ((congrArg (fun t : State => t.counters.stale) frame).trans rfl)
    trunk := trunk ▸ kept.trunk
    markless := fun m => h.markless (markless_of_queue m (congrArg TrunkState.queue trunk))
    hall := by rw [status, kept.hall, now, hall]
    excluded := fun e => absurd (status ▸ e) (by simp [shut]) }

theorem compared_of_asks {n : Nat} {s t : State} (h : Asks n s t) : Compared s t where
  clerical := by
    have moved := congrArg (fun t : State => { t with
      window := s.window, plan := s.plan, table := s.table, roster := s.roster, hall := s.hall
      discharge := s.discharge, filter := s.filter, seq := s.seq, counters := s.counters }) h.frame
    exact moved
  window := (congrArg (fun t : State => t.window) h.frame).trans rfl
  plan := (congrArg (fun t : State => t.plan) h.frame).trans rfl
  claims := (congrArg (fun t : State => t.table.claims) h.frame).trans rfl
  roster := (congrArg (fun t : State => t.roster) h.frame).trans rfl
  stale := (congrArg (fun t : State => t.counters.stale) h.frame).trans rfl
  trunk := h.trunk
  markless := h.markless
  hall := by
    rw [if_neg (fun both => both.1 (h.synced both.2))]
    exact (congrArg (fun t : State => t.hall) h.frame).trans rfl
  excluded := h.excluded

theorem Compared.trans {a b c : State} (h : Compared a b) (k : Compared b c) (out : b.sync.status ≠ .synced)
    (still : c.sync.status ≠ .synced) : Compared a c where
  clerical := h.clerical.trans k.clerical
  window := k.window.trans h.window
  plan := k.plan.trans h.plan
  claims := k.claims.trans h.claims
  roster := k.roster.trans h.roster
  stale := k.stale.trans h.stale
  trunk := (congrArg (fun t : TrunkState => { t with queue := a.trunk.queue }) k.trunk).trans h.trunk
  markless m := k.markless (h.markless m)
  hall := by
    rw [k.hall, h.hall, if_neg (fun both => still both.2), if_neg (fun both => out both.2),
      if_neg (fun both => still both.2)]
  excluded e := h.excluded (k.excluded e)

theorem compared_becomeSynced (s : State) (mending : s.sync.status.mending = true) : Compared s s.becomeSynced := by
  have apart : s.sync.status ≠ .synced := by
    intro synced
    rw [synced] at mending
    cases mending
  refine compared_of_setSync .synced (k := (s.setSync .synced).markRestated.hall) (chores_roleSyncGained _) rfl ?_
  rw [if_pos ⟨apart, rfl⟩]
  have hall : (s.setSync .synced).hall = s.hall := (congrArg (fun t : State => t.hall) (setSync_frame s _)).trans rfl
  rw [← hall]
  rfl

theorem chores_divergence (s : State) :
    Chores (s.setSync .diverged) ((s.setSync .diverged).raise .diverged).roleSyncLost :=
  (chores_raise _ _).trans (chores_roleSyncLost _)

theorem divergence_status (s : State) :
    ((s.setSync .diverged).raise .diverged).roleSyncLost.sync.status = .diverged :=
  (chores_divergence s).works.untouched.status_eq.trans (setSync_status s _)

theorem askRows_status (s : State) (n : Nat) : (s.askRows n).sync.status = s.sync.status :=
  (Works.request (s.mapSync _) _ _ _).untouched.status_eq

theorem enterDiverged_status (s : State) : s.enterDiverged.sync.status = .diverged :=
  (askRows_status _ 1).trans (divergence_status s)

theorem compared_enterDiverged (s : State) : Compared s s.enterDiverged := by
  have lost := chores_divergence s
  have status := divergence_status s
  have asks := asks_askRows ((s.setSync .diverged).raise .diverged).roleSyncLost 1
  have hall : (s.setSync .diverged).hall = s.hall := (congrArg (fun t : State => t.hall) (setSync_frame s _)).trans rfl
  refine (compared_of_setSync .diverged (k := (s.setSync .diverged).hall) lost rfl ?_).trans (compared_of_asks asks)
    (by simp [status]) ?_
  · rw [if_neg nofun, hall]
  · rw [enterDiverged_status]
    exact nofun

/-- Notes of the sync controller that leave its state move nothing else. -/
theorem Compared.noted {s t : State} {x : SyncState} (h : Compared { s with sync := x } t)
    (status : x.status = s.sync.status) : Compared s t where
  clerical := Clerical.trans (b := { s with sync := x }) rfl h.clerical
  window := h.window
  plan := h.plan
  claims := h.claims
  roster := h.roster
  stale := h.stale
  trunk := h.trunk
  markless := h.markless
  hall := by
    rw [← status]
    exact h.hall
  excluded e := status ▸ h.excluded e

theorem compared_markSync (s : State) (v : MarkView) (b : MarkBody) : Compared s (s.markSync v b) := by
  obtain asks | ⟨mending, x, status, synced⟩ | ⟨_, diverged⟩ := markSync_cases s v b
  · exact compared_of_asks asks
  · rw [synced]
    exact (compared_becomeSynced { s with sync := x } (status ▸ mending)).noted status
  · rw [diverged]
    exact compared_enterDiverged s

/-! ## The role unit at the comparison -/

/-- Lots, filter, sequencer and counters stand, and at most `n` frames have come into the queue. -/
structure Idle (n : Nat) (s t : State) : Prop where
  discharge : t.discharge = s.discharge
  filter : t.filter = s.filter
  seq : t.seq = s.seq
  counters : t.counters = s.counters
  length : t.trunk.queue.length ≤ s.trunk.queue.length + n

theorem idle_of_asks {n : Nat} {s t : State} (h : Asks n s t) : Idle n s t where
  discharge := (congrArg (fun t : State => t.discharge) h.frame).trans rfl
  filter := (congrArg (fun t : State => t.filter) h.frame).trans rfl
  seq := (congrArg (fun t : State => t.seq) h.frame).trans rfl
  counters := (congrArg (fun t : State => t.counters) h.frame).trans rfl
  length := h.length

theorem idle_becomeSynced {s : State} (h : s.cfg.role ≠ .crusher) : Idle 0 s s.becomeSynced := by
  have frame := setSync_frame s .synced
  have cfg : (s.setSync .synced).cfg = s.cfg := (congrArg (fun t : State => t.cfg) frame).trans rfl
  have told : s.becomeSynced = (s.setSync .synced).markRestated.report .syncGained := by
    unfold State.becomeSynced State.roleSyncGained
    dsimp only
    split
    · rename_i crusher
      exact absurd ((congrArg Config.role cfg.symm).trans crusher) h
    · rfl
  rw [told]
  exact {
    discharge := (congrArg (fun t : State => t.discharge) frame).trans rfl
    filter := (congrArg (fun t : State => t.filter) frame).trans rfl
    seq := (congrArg (fun t : State => t.seq) frame).trans rfl
    counters := (congrArg (fun t : State => t.counters) frame).trans rfl
    length := (congrArg (fun t : State => t.trunk.queue.length) frame).trans_le (Nat.le_refl _) }

/-- Short of a divergence the comparison leaves lots and filter alone. -/
theorem idle_markSync {s : State} (v : MarkView) (b : MarkBody) (role : s.cfg.role ≠ .crusher)
    (agreed : (s.markSync v b).sync.status = .diverged → s.sync.status = .diverged) : Idle 2 s (s.markSync v b) := by
  obtain asks | ⟨_, x, _, synced⟩ | ⟨status, diverged⟩ := markSync_cases s v b
  · exact idle_of_asks asks
  · rw [synced]
    exact { idle_becomeSynced (s := { s with sync := x }) role with
      length := (idle_becomeSynced (s := { s with sync := x }) role).length.trans (Nat.le_add_right _ 2) }
  · have now : (s.markSync v b).sync.status = .diverged := by rw [diverged, enterDiverged_status]
    exact absurd (status.symm.trans (agreed now)) nofun

/-! ### At the crusher -/

/-- No lots, filter or operations are touched. -/
structure Spares (s t : State) : Prop where
  cfg : t.cfg = s.cfg
  discharge : t.discharge = s.discharge
  filter : t.filter = s.filter
  seq : t.seq = s.seq

theorem Spares.refl (s : State) : Spares s s := ⟨rfl, rfl, rfl, rfl⟩

theorem Spares.trans {a b c : State} (h : Spares a b) (k : Spares b c) : Spares a c :=
  ⟨k.cfg.trans h.cfg, k.discharge.trans h.discharge, k.filter.trans h.filter, k.seq.trans h.seq⟩

theorem spares_deliver {s : State} (role : s.cfg.role = .crusher) (who : Block) (b : QBody) (f : Fate) :
    Spares s (s.deliver who b f) := by
  unfold State.deliver
  dsimp only
  split
  · simp only [State.claimFate, report_cfg, role]
    exact ⟨rfl, rfl, rfl, rfl⟩
  · simp only [State.doneFate, report_cfg, role]
    exact ⟨rfl, rfl, rfl, rfl⟩
  · exact ⟨rfl, rfl, rfl, rfl⟩
  · exact ⟨rfl, rfl, rfl, rfl⟩

theorem spares_deliverAll (l : List (Block × QBody × Fate)) {s : State} (role : s.cfg.role = .crusher) :
    Spares s (s.deliverAll l) := by
  induction l generalizing s with
  | nil => exact .refl s
  | cons x l ih =>
    have first := spares_deliver role x.1 x.2.1 x.2.2
    exact first.trans (ih (by rw [first.cfg, role]))

theorem spares_request {s : State} (role : s.cfg.role = .crusher) (b : QBody) (who : Block) (u : Bool) :
    Spares s (s.request b who u) := by
  have others := spares_deliverAll (s.settleOf b who u).others (s := s.setQueue (s.settleOf b who u).queue) role
  have last := spares_deliver (by rw [others.cfg]; exact role) who b (s.settleOf b who u).fate
  exact Spares.trans (b := s.setQueue (s.settleOf b who u).queue) ⟨rfl, rfl, rfl, rfl⟩ (others.trans last)

theorem spares_askRows {s : State} (role : s.cfg.role = .crusher) (n : Nat) : Spares s (s.askRows n) := by
  unfold State.askRows
  generalize hu : s.mapSync (fun x => { x with round := .asked, attempts := n, askLost := false }) = u
  have noted : Spares s u := by
    rw [← hu]
    exact ⟨rfl, rfl, rfl, rfl⟩
  exact noted.trans (spares_request (by rw [noted.cfg, role]) _ _ _)

theorem spares_pull (s : State) (p : QFrame → Bool) : Spares s (s.pull p) where
  cfg := (congrArg (fun t : State => t.cfg) (pull_frame s p)).trans rfl
  discharge := (congrArg (fun t : State => t.discharge) (pull_frame s p)).trans rfl
  filter := (congrArg (fun t : State => t.filter) (pull_frame s p)).trans rfl
  seq := (congrArg (fun t : State => t.seq) (pull_frame s p)).trans rfl

theorem spares_tellHall {s : State} (role : s.cfg.role = .crusher) : Spares s s.tellHall := by
  have gate : Spares s s.requestGate := by
    unfold State.requestGate
    split
    · exact spares_request role _ _ _
    · exact .refl s
  have stop : Spares s.requestGate s.requestGate.compareStop := by
    unfold State.compareStop
    split
    · split
      · have pulled := fun p => spares_pull s.requestGate p
        dsimp only
        split
        · exact pulled _
        · exact (pulled _).trans (spares_request (by rw [(pulled _).cfg, gate.cfg, role]) _ _ _)
      · exact .refl _
    · exact .refl _
  exact gate.trans stop

theorem spares_setSync (s : State) (x : SyncStatus) : Spares s (s.setSync x) where
  cfg := (congrArg (fun t : State => t.cfg) (setSync_frame s x)).trans rfl
  discharge := (congrArg (fun t : State => t.discharge) (setSync_frame s x)).trans rfl
  filter := (congrArg (fun t : State => t.filter) (setSync_frame s x)).trans rfl
  seq := (congrArg (fun t : State => t.seq) (setSync_frame s x)).trans rfl

theorem spares_becomeSynced {s : State} (role : s.cfg.role = .crusher) : Spares s s.becomeSynced := by
  have set := spares_setSync s .synced
  have told : s.becomeSynced = ((s.setSync .synced).markRestated.report .syncGained).tellHall := by
    unfold State.becomeSynced State.roleSyncGained
    dsimp only
    split
    · rfl
    · rename_i other
      exact absurd ((congrArg Config.role set.cfg).trans role) other
  rw [told]
  exact set.trans (Spares.trans (b := (s.setSync .synced).markRestated.report .syncGained) ⟨rfl, rfl, rfl, rfl⟩
    (spares_tellHall ((congrArg Config.role set.cfg).trans role)))

theorem spares_enterDiverged {s : State} (role : s.cfg.role = .crusher) : Spares s s.enterDiverged := by
  have set := spares_setSync s .diverged
  have told : ((s.setSync .diverged).raise .diverged).roleSyncLost =
      ((s.setSync .diverged).raise .diverged).report .syncLost := by
    unfold State.roleSyncLost
    have crusher : (((s.setSync .diverged).raise .diverged).report .syncLost).cfg.role = .crusher :=
      (congrArg Config.role set.cfg).trans role
    dsimp only
    rw [crusher]
  unfold State.enterDiverged
  rw [told]
  exact set.trans (Spares.trans (b := ((s.setSync .diverged).raise .diverged).report .syncLost) ⟨rfl, rfl, rfl, rfl⟩
    (spares_askRows (by exact (congrArg Config.role set.cfg).trans role) 1))

/-- A crusher has no lots and no filter that a comparison could touch. -/
theorem spares_markSync {s : State} (role : s.cfg.role = .crusher) (v : MarkView) (b : MarkBody) :
    Spares s (s.markSync v b) := by
  obtain asks | ⟨_, x, _, synced⟩ | ⟨_, diverged⟩ := markSync_cases s v b
  · exact ⟨(congrArg (fun t : State => t.cfg) asks.frame).trans rfl, (idle_of_asks asks).discharge,
      (idle_of_asks asks).filter, (idle_of_asks asks).seq⟩
  · rw [synced]
    exact Spares.trans (b := { s with sync := x }) ⟨rfl, rfl, rfl, rfl⟩ (spares_becomeSynced role)
  · rw [diverged]
    exact spares_enterDiverged role

/-! ### While a flush runs -/

/-- Only the mark of the pending DONE may have moved in the filter; sequencer and counters stand. -/
structure Spends (s t : State) : Prop where
  cfg : t.cfg = s.cfg
  filter : { t.filter with pending := s.filter.pending } = s.filter
  seq : t.seq = s.seq
  counters : t.counters = s.counters

theorem Spends.refl (s : State) : Spends s s := ⟨rfl, rfl, rfl, rfl⟩

theorem Spends.trans {a b c : State} (h : Spends a b) (k : Spends b c) : Spends a c :=
  ⟨k.cfg.trans h.cfg,
    (congrArg (fun u : FilterState => { u with pending := a.filter.pending }) k.filter).trans h.filter,
    k.seq.trans h.seq, k.counters.trans h.counters⟩

theorem Spends.mode_eq {s t : State} (h : Spends s t) : t.filter.mode = s.filter.mode :=
  (congrArg (fun u : FilterState => u.mode) h.filter).trans rfl

theorem spends_deliver {s : State} (role : s.cfg.role = .filter) (off : s.filter.mode ≠ .online) (who : Block)
    (b : QBody) (f : Fate) : Spends s (s.deliver who b f) := by
  unfold State.deliver
  dsimp only
  split
  · rename_i c
    have kept : s.filter.claimFate c.id f = s.filter := if_neg (by simp [off])
    simp only [State.claimFate, report_cfg, role, report_filter, kept]
    exact ⟨rfl, rfl, rfl, rfl⟩
  · simp only [State.doneFate, report_cfg, role, FilterState.doneFate, report_filter]
    refine ⟨rfl, ?_, rfl, rfl⟩
    dsimp only
    split
    · split <;> rfl
    · rfl
  · exact ⟨rfl, rfl, rfl, rfl⟩
  · exact ⟨rfl, rfl, rfl, rfl⟩

theorem spends_deliverAll (l : List (Block × QBody × Fate)) {s : State} (role : s.cfg.role = .filter)
    (off : s.filter.mode ≠ .online) : Spends s (s.deliverAll l) := by
  induction l generalizing s with
  | nil => exact .refl s
  | cons x l ih =>
    have first := spends_deliver role off x.1 x.2.1 x.2.2
    exact first.trans (ih (by rw [first.cfg, role]) (by rwa [first.mode_eq]))

theorem spends_request {s : State} (role : s.cfg.role = .filter) (off : s.filter.mode ≠ .online) (b : QBody)
    (who : Block) (u : Bool) : Spends s (s.request b who u) := by
  have others := spends_deliverAll (s.settleOf b who u).others (s := s.setQueue (s.settleOf b who u).queue) role off
  have last := spends_deliver (by rw [others.cfg]; exact role) (by rw [others.mode_eq]; exact off) who b
    (s.settleOf b who u).fate
  exact Spends.trans (b := s.setQueue (s.settleOf b who u).queue) ⟨rfl, rfl, rfl, rfl⟩ (others.trans last)

theorem spends_askRows {s : State} (role : s.cfg.role = .filter) (off : s.filter.mode ≠ .online) (n : Nat) :
    Spends s (s.askRows n) := by
  unfold State.askRows
  generalize hu : s.mapSync (fun x => { x with round := .asked, attempts := n, askLost := false }) = u
  have noted : Spends s u := by
    rw [← hu]
    exact ⟨rfl, rfl, rfl, rfl⟩
  exact noted.trans (spends_request (by rw [noted.cfg, role]) (by rwa [noted.mode_eq]) _ _ _)

theorem spends_withdrawCommitted {s : State} (role : s.cfg.role = .filter) (running : s.filter.mode = .flushing) :
    Spends s s.withdrawCommitted := by
  have begun : s.flushUnbegun = false := by simp [State.flushUnbegun, running]
  unfold State.withdrawCommitted
  simp only [role, begun, Bool.false_eq_true, if_false]
  generalize (s.ownClaims.filter (fun c => c.isCommitted)).map (fun c => c.id) = l
  induction l generalizing s with
  | nil => exact .refl s
  | cons id l ih =>
    have first : Spends s (if s.filter.claimId = some id ∨ s.filter.pending.any (fun p => p.body.id == id) = true then s
        else s.request (.withdraw ⟨id⟩) .role) := by
      split
      · exact .refl s
      · exact spends_request role (by simp [running]) _ _ _
    rw [List.foldl_cons]
    have mode := first.mode_eq.trans running
    exact first.trans (ih (by rw [first.cfg, role]) mode (by simp [State.flushUnbegun, mode]))

/-- A comparison leaves a flush under way alone. -/
theorem spends_markSync {s : State} (role : s.cfg.role = .filter) (running : s.filter.mode = .flushing) (v : MarkView)
    (b : MarkBody) : Spends s (s.markSync v b) := by
  obtain asks | ⟨_, x, _, synced⟩ | ⟨_, diverged⟩ := markSync_cases s v b
  · have idle := idle_of_asks asks
    exact ⟨(congrArg (fun t : State => t.cfg) asks.frame).trans rfl, by rw [idle.filter], idle.seq, idle.counters⟩
  · have idle := idle_becomeSynced (s := { s with sync := x }) (by rw [role]; nofun)
    rw [synced]
    have cfg := (untouched_roleSyncGained (({ s with sync := x } : State).setSync .synced).markRestated).cfg
    exact ⟨cfg.trans ((congrArg (fun t : State => t.cfg) (setSync_frame { s with sync := x } .synced)).trans rfl),
      by rw [idle.filter], idle.seq, idle.counters⟩
  · rw [diverged]
    have frame := setSync_frame s .diverged
    have set : Spends s (((s.setSync .diverged).raise .diverged).report .syncLost) :=
      ⟨(congrArg (fun t : State => t.cfg) frame).trans rfl, by
        rw [report_filter, raise_filter, (congrArg (fun t : State => t.filter) frame : _ = s.filter)],
        (congrArg (fun t : State => t.seq) frame).trans rfl, (congrArg (fun t : State => t.counters) frame).trans rfl⟩
    have told : ((s.setSync .diverged).raise .diverged).roleSyncLost =
        (((s.setSync .diverged).raise .diverged).report .syncLost).withdrawCommitted := by
      unfold State.roleSyncLost
      dsimp only
      rw [set.cfg, role]
    have lost := set.trans (spends_withdrawCommitted (by rw [set.cfg, role]) (by rw [set.mode_eq, running]))
    unfold State.enterDiverged
    rw [told]
    exact lost.trans (spends_askRows (by rw [lost.cfg, role]) (by rw [lost.mode_eq, running]; nofun) 1)

end Sys2Proof.Machine
end


section
/-! SUPPORT. The parts of a MARK behind the records: role unit, mode and confinement, and the conclusion of the event leave
window, plan, claims, roster and hall record as the records' part made them, and every report it made. -/

namespace Sys2Proof.Machine

/-- Window, plan, claims, roster, hall record and stale count stand, no MARK comes to wait, and no report goes. -/
structure Endures (s t : State) : Prop where
  window : t.window = s.window
  plan : t.plan = s.plan
  claims : t.table.claims = s.table.claims
  roster : t.roster = s.roster
  hall : t.hall = s.hall
  stale : t.counters.stale = s.counters.stale
  markless : s.markless → t.markless
  reports : ∀ r ∈ s.reports, r ∈ t.reports

theorem Endures.trans {a b c : State} (h : Endures a b) (k : Endures b c) : Endures a c where
  window := k.window.trans h.window
  plan := k.plan.trans h.plan
  claims := k.claims.trans h.claims
  roster := k.roster.trans h.roster
  hall := k.hall.trans h.hall
  stale := k.stale.trans h.stale
  markless m := k.markless (h.markless m)
  reports r hr := k.reports r (h.reports r hr)

/-- Configuration, line record and mode stand too. -/
structure Steady (s t : State) : Prop where
  endures : Endures s t
  cfg : t.cfg = s.cfg
  trunk : { t.trunk with queue := s.trunk.queue } = s.trunk
  status : t.sync.status = s.sync.status
  mode : t.mode = s.mode

theorem Steady.trans {a b c : State} (h : Steady a b) (k : Steady b c) : Steady a c where
  endures := h.endures.trans k.endures
  cfg := k.cfg.trans h.cfg
  trunk := (congrArg (fun t : TrunkState => { t with queue := a.trunk.queue }) k.trunk).trans h.trunk
  status := k.status.trans h.status
  mode := k.mode.trans h.mode

theorem Steady.line_eq {s t : State} (h : Steady s t) : t.trunk.line = s.trunk.line :=
  (congrArg (fun k : TrunkState => k.line) h.trunk).trans rfl

/-- A change that leaves all that `Steady` names as it is. -/
theorem Steady.quiet {s t : State} (window : t.window = s.window) (plan : t.plan = s.plan) (table : t.table = s.table)
    (roster : t.roster = s.roster) (hall : t.hall = s.hall) (stale : t.counters.stale = s.counters.stale)
    (trunk : t.trunk = s.trunk) (reports : t.reports = s.reports) (cfg : t.cfg = s.cfg)
    (status : t.sync.status = s.sync.status) (mode : t.mode = s.mode) : Steady s t where
  endures := {
    window := window, plan := plan, claims := congrArg TableState.claims table, roster := roster, hall := hall
    stale := stale, markless := fun m => markless_of_queue m (congrArg TrunkState.queue trunk)
    reports := fun r hr => reports ▸ hr }
  cfg := cfg
  trunk := by rw [trunk]
  status := status
  mode := mode

theorem Steady.refl (s : State) : Steady s s := .quiet rfl rfl rfl rfl rfl rfl rfl rfl rfl rfl rfl

theorem Works.steady {s t : State} (h : Works s t) (markless : s.markless → t.markless) : Steady s t where
  endures := {
    window := h.untouched.window, plan := h.untouched.plan, claims := h.untouched.claims, roster := h.untouched.roster
    hall := h.untouched.hall, stale := h.untouched.stale_eq, markless := markless, reports := fun _ => h.mem_reports }
  cfg := h.untouched.cfg
  trunk := h.untouched.trunk
  status := h.untouched.status_eq
  mode := h.untouched.mode

theorem Chores.steady {s t : State} (h : Chores s t) : Steady s t := h.works.steady h.markless

theorem steady_foldl {α : Type} (f : State → α → State) (hf : ∀ s x, Steady s (f s x)) (l : List α) (s : State) :
    Steady s (l.foldl f s) := by
  induction l generalizing s with
  | nil => exact .refl s
  | cons x l ih => exact (hf s x).trans (ih _)

/-! ## The role unit's part -/

theorem works_markDischarge (s : State) (m : Window) : Works s (s.markDischarge m) := by
  have started : ∀ u : State, Works u (if u.mayDischarge m then u.startDischarge m else u) := by
    intro u
    split
    · unfold State.startDischarge
      split
      · exact (works_setDischarge u _ (by exact rfl)).trans (works_requestOp _ _)
      · exact .refl u
    · exact .refl u
  have aged : ∀ u : State, Works u u.sealAged := by
    intro u
    unfold State.sealAged State.sealOpen
    split
    · split
      · exact (works_mapLots u _).trans (.capture _ _)
      · exact .refl u
    · exact .refl u
  unfold State.markDischarge
  exact (works_endDischarge s).trans ((started _).trans ((works_withdrawLots _ _).trans
    ((works_mapLots _ _).trans ((aged _).trans (works_withdrawLots _ _)))))

theorem works_markFilter (s : State) (settling : Bool) (m : Window) : Works s (s.markFilter settling m) := by
  have settled : ∀ u : State, Works u
      (if settling && u.filter.mode == .settling then u.mapFilter FilterState.settleOnce else u) := by
    intro u
    split
    · exact works_mapFilter u _ ⟨rfl, rfl⟩
    · exact .refl u
  have started : ∀ u : State, Works u (if u.mayFlush m then u.startFlush m
      else if u.filter.mode = .committed ∧ u.filter.discharge.any (fun w => dueBy w m) = true then u.withdrawFlush
      else u) := by
    intro u
    split
    · exact (works_mapFilter u _ (by exact ⟨rfl, rfl⟩)).trans (works_requestOp _ _)
    · split
      · exact works_withdrawFlush u
      · exact .refl u
  have orphans : ∀ u : State, Works u u.withdrawOrphanFlushes := fun u =>
    works_foldl u _ (fun v _ => .request v _ _ _) _
  unfold State.markFilter
  exact (works_endFlush s _ _).trans ((settled _).trans ((started _).trans
    ((works_mapFilter _ _ ⟨rfl, rfl⟩).trans (orphans _))))

theorem steady_mapCrusher (s : State) (f : CrusherState → CrusherState) : Steady s (s.mapCrusher f) :=
  .quiet rfl rfl rfl rfl rfl rfl rfl rfl rfl rfl rfl

theorem steady_consumeOne (m : Window) (s : State) (e : Inbound) : Steady s (s.consumeOne m e) := by
  have judged : ∀ (u : State) (n : Nat), Steady u (u.judgeHold n) := by
    intro u n
    unfold State.judgeHold
    split
    · exact (steady_mapCrusher u _).trans ((chores_raise _ _).trans (chores_requestGate _)).steady
    · exact .refl u
  unfold State.consumeOne
  generalize (if e.arrival = m then s.crusher.current else s.crusher.previous) = r
  have mixed : Steady s (if e.cls = r.position then s else s.countMixed.raise .mixedArrival) := by
    split
    · exact .refl s
    · exact .quiet rfl rfl rfl rfl rfl rfl rfl rfl rfl rfl rfl
  dsimp only
  split
  · exact mixed.trans ((steady_mapCrusher _ _).trans (judged _ _))
  · exact steady_mapCrusher s _

theorem steady_markCrusher (s : State) (m : Window) : Steady s (s.markCrusher m) := by
  have turned : Steady s s.turnDiverter := by
    unfold State.turnDiverter
    exact steady_mapCrusher s _
  have consumed : Steady s.turnDiverter (s.turnDiverter.consume m) :=
    (steady_mapCrusher _ _).trans (steady_foldl _ (steady_consumeOne m) _ _)
  unfold State.markCrusher
  exact (turned.trans consumed).trans ((steady_mapCrusher _ _).trans (chores_tellHall _).steady)

theorem chores_requestDones (s : State) (l : List DoneBody) : Chores s (s.requestDones l) :=
  chores_foldl _ (fun s _ => chores_request s (by simp) _ _) l s

/-- The role unit's part behind the DONEs requested again. -/
def State.markUnit (s : State) (settling : Bool) (m : Window) : State :=
  match s.cfg.role with
  | .discharge => s.markDischarge m
  | .filter => s.markFilter settling m
  | .crusher => s.markCrusher m

theorem markRole_eq (s : State) (settling again : Bool) (l : List DoneBody) (m : Window) :
    s.markRole settling again l m =
      if again then ((s.requestDones l).markUnit settling m).withdrawCommitted
      else (s.requestDones l).markUnit settling m := rfl

theorem steady_markUnit (s : State) (settling : Bool) (m : Window) : Steady s (s.markUnit settling m) := by
  unfold State.markUnit
  split
  · exact (works_markDischarge s m).steady (markless_markDischarge m)
  · exact (works_markFilter s settling m).steady (markless_markFilter settling m)
  · exact steady_markCrusher s m

theorem steady_markRole (s : State) (settling again : Bool) (l : List DoneBody) (m : Window) :
    Steady s (s.markRole settling again l m) := by
  have unit := (chores_requestDones s l).steady.trans (steady_markUnit _ settling m)
  rw [markRole_eq]
  split
  · exact unit.trans (chores_withdrawCommitted _).steady
  · exact unit

/-! ## Mode and confinement -/

/-- The mode controller's part: what endures, the line record, and the mode itself. -/
theorem markMode_facts (s : State) :
    Endures s s.markMode ∧ { s.markMode.trunk with queue := s.trunk.queue } = s.trunk ∧
    s.markMode.mode = (if s.mode.mode = .quiet then
      { s.mode with quietWindows := min (s.mode.quietWindows + 1) 255 } else s.mode) := by
  unfold State.markMode
  split
  · rename_i quiet
    rw [if_pos quiet]
    exact ⟨⟨rfl, rfl, rfl, rfl, rfl, rfl, id, fun _ => id⟩, rfl, rfl⟩
  · rename_i leaving
    have asked : Steady s (if (s.mayLeave && !s.helloQueued) = true then s.requestLeave else s) := by
      split
      · exact (chores_request s (b := .hello (s.helloBody true)) nofun _ _).steady
      · exact .refl s
    have awake : s.mode.mode ≠ .quiet := by rw [leaving]; nofun
    rw [if_neg awake]
    exact ⟨asked.endures, asked.trunk, asked.mode⟩
  · rename_i awake _
    rw [if_neg awake]
    exact ⟨(Steady.refl s).endures, rfl, rfl⟩

theorem steady_askRows (s : State) (n : Nat) : Steady s (s.askRows n) := by
  have noted : Steady s (s.mapSync (fun x => { x with round := .asked, attempts := n, askLost := false })) :=
    .quiet rfl rfl rfl rfl rfl rfl rfl rfl rfl rfl rfl
  exact noted.trans (chores_request _ (b := .ask askAllRow) nofun _ _).steady

theorem endConfinement_facts (s : State) :
    Endures s s.endConfinement ∧ s.endConfinement.mode = s.mode ∧ s.endConfinement.trunk.line = .active ∧
    s.endConfinement.trunk.failCount = 0 := by
  generalize hu : ({ s with trunk := { s.trunk with
    line := .active, failCount := 0, failHold := false, confMarks := 0, confExpiries := 0 } } : State) = u
  have opened : Endures s u := by
    rw [← hu]
    exact ⟨rfl, rfl, rfl, rfl, rfl, rfl, id, fun _ => id⟩
  have asked : Steady u u.onLineActive := by
    unfold State.onLineActive
    split
    · exact (chores_request u (b := .hello (u.helloBody false)) nofun _ _).steady.trans (steady_askRows _ 1)
    · exact .refl u
  have told : Steady u.onLineActive u.onLineActive.roleLineActive := by
    have report := chores_report u.onLineActive (r := .lineActive) rfl
    unfold State.roleLineActive
    dsimp only
    split
    · exact (report.trans (chores_tellHall _)).steady
    · exact report.steady
  have both := asked.trans told
  have step : s.endConfinement = u.onLineActive.roleLineActive := by
    rw [← hu]
    rfl
  rw [step]
  refine ⟨opened.trans both.endures, both.mode.trans (by rw [← hu]), both.line_eq.trans (by rw [← hu]), ?_⟩
  exact ((congrArg (fun k : TrunkState => k.failCount) both.trunk).trans rfl).trans (by rw [← hu])

theorem markConfined_facts (s : State) : Endures s s.markConfined ∧ s.markConfined.mode = s.mode := by
  unfold State.markConfined
  split
  · exact ⟨(endConfinement_facts s).1, (endConfinement_facts s).2.1⟩
  · exact ⟨(Steady.refl s).endures, rfl⟩

/-- A leaving HELLO that the queue has lost is requested again (R182). -/
theorem markMode_leaving {s : State} (leaving : s.mode.mode = .leaving) (may : s.mayLeave = true)
    (room : s.trunk.queue.length < 8) : ∃ f ∈ s.markMode.markConfined.trunk.queue, f.leavingHello = true := by
  have joined : s.sync.status = .synced ∧ s.trunk.line = .active := by
    simp only [State.mayLeave, State.lineActive, Bool.and_eq_true, beq_iff_eq] at may
    exact ⟨may.1.1.1.1.1.2, may.1.1.1.1.2⟩
  obtain ⟨synced, active⟩ := joined
  obtain ⟨_, trunk, _⟩ := markMode_facts s
  have line : s.markMode.trunk.line = .active := ((congrArg (fun k : TrunkState => k.line) trunk).trans rfl).trans active
  have open_ : s.markMode.markConfined = s.markMode := if_neg (by simp [line])
  have step : s.markMode = if (s.mayLeave && !s.helloQueued) = true then s.requestLeave else s := by
    unfold State.markMode
    rw [leaving]
  rw [open_, step]
  cases queued : s.helloQueued with
  | true =>
    rw [if_neg (by simp [may])]
    exact List.any_eq_true.1 queued
  | false =>
    rw [if_pos (by simp [may])]
    refine ⟨newFrame (.hello (s.helloBody true)) .mode false, ?_, rfl⟩
    unfold State.requestLeave
    rw [request_queue]
    simp [State.settleOf, synced, SyncStatus.isExcluded, active, settleRequest, newFrame, enter, room]

/-- What the conclusion of the event leaves. -/
theorem endures_concluded (q : SeqState) (s : State) : Endures s (s.concluded q) := by
  have kept := concluded_concluded q s
  have stale : (s.concluded q).counters.stale = s.counters.stale :=
    (congrArg (fun c : Counters => c.stale) kept.counters).trans rfl
  exact ⟨kept.window, kept.plan, kept.claims, kept.roster, kept.hall, stale, markless_concluded q,
    fun _ => mem_concluded_reports q⟩

end Sys2Proof.Machine
end


section
/-! SUPPORT. The table's part in a MARK as the role unit has it: its own commitments, and its own stale claims (R9, R16 to
R20, R119, R127, R131, R138, R145). -/

namespace Sys2Proof.Machine

/-! ## The order of the reports -/

/-- The commitments reported to the role unit. -/
def State.commitAll (s : State) (l : List (Addr × Byte × Window)) : State :=
  l.foldl (fun s x => s.roleCommitted x.2.1 x.2.2) s

/-- The stale claims reported to the role unit. -/
def State.staleAll (s : State) (l : List Claim) : State := l.foldl (fun s c => s.roleRemoved c.id .stale) s

/-- The commitments of the station's own claims among those of the plan. -/
def State.ownCommits (s : State) (commits : List (Addr × Byte × Window)) (lost : List Addr) :
    List (Addr × Byte × Window) :=
  commits.filter (fun x => x.1 == s.own && !lost.contains x.1 &&
    s.table.claims.any (fun c => c.owner == x.1 && c.id == x.2.1 && !c.isCommitted))

/-- The station's own claims that are stale at a MARK. -/
def State.ownStale (s : State) (lost : List Addr) (m : Window) : List Claim :=
  (s.table.claims.filter (staleClaim lost m)).filter (fun c => c.owner == s.own)

/-- The claim table after the MARK, its stale claims counted, before the role unit hears of it. -/
def State.tableMarked (s : State) (commits : List (Addr × Byte × Window)) (lost : List Addr) (m : Window) : State :=
  (s.setClaims (s.table.claims.filterMap (markClaim s.roster s.cfg.hall.a commits lost m))).countStale
    (s.table.claims.filter (staleClaim lost m)).length

theorem foldl_roleCommitted_own (l : List (Addr × Byte × Window)) (s : State) :
    (s.commitAll l).own = s.own := by
  induction l generalizing s with
  | nil => rfl
  | cons x l ih => exact (ih _).trans (chores_roleCommitted s x.2.1 x.2.2).works.untouched.own_eq

theorem markTable_eq (s : State) (commits : List (Addr × Byte × Window)) (lost : List Addr) (m : Window) :
    s.markTable commits lost m =
      ((s.tableMarked commits lost m).commitAll (s.ownCommits commits lost)).staleAll (s.ownStale lost m) := by
  have own := foldl_roleCommitted_own (s.ownCommits commits lost) (s.tableMarked commits lost m)
  unfold State.ownStale
  rw [← (own.trans rfl : _ = s.own)]
  rfl

theorem chores_commitAll (l : List (Addr × Byte × Window)) (s : State) : Chores s (s.commitAll l) :=
  chores_foldl (fun s (x : Addr × Byte × Window) => s.roleCommitted x.2.1 x.2.2) (fun s x => chores_roleCommitted s x.2.1 x.2.2) l s

theorem committed_commitAll {l : List (Addr × Byte × Window)} {x : Addr × Byte × Window} (h : x ∈ l) (s : State) :
    Report.committed x.2.1 x.2.2 ∈ (s.commitAll l).reports := by
  induction l generalizing s with
  | nil => cases h
  | cons y l ih =>
    rcases List.mem_cons.1 h with rfl | h
    · refine (chores_commitAll l _).works.mem_reports ?_
      have here : Report.committed x.2.1 x.2.2 ∈ (s.report (.committed x.2.1 x.2.2)).reports := by
        simp [State.report]
      unfold State.roleCommitted
      dsimp only
      split <;> exact here
    · exact ih h _

/-- A REMOVED report and the work of the role unit behind it. -/
theorem steady_roleRemoved (s : State) (id : Byte) (why : RemovalReason) : Steady s (s.roleRemoved id why) := by
  have told : Steady s (s.report (.removed id why)) :=
    { Steady.refl s with
      endures := { (Steady.refl s).endures with reports := fun _ hr => List.mem_append_left _ hr } }
  exact told.trans (chores_roleRemoved s id why).steady

theorem steady_staleAll (l : List Claim) (s : State) : Steady s (s.staleAll l) :=
  steady_foldl (fun s (c : Claim) => s.roleRemoved c.id .stale) (fun s c => steady_roleRemoved s c.id .stale) l s

theorem clerical_staleAll (l : List Claim) (s : State) : Clerical s (s.staleAll l) := by
  induction l generalizing s with
  | nil => exact (Chores.refl s).clerical
  | cons c l ih =>
    have told : Clerical s (s.report (.removed c.id .stale)) := rfl
    exact (told.trans (chores_roleRemoved s c.id .stale).clerical).trans (ih _)

/-! ## One lot, one filter -/

/-- A lot that hears of a commitment (R119). -/
def Lot.commitOne (transit : Nat) (l : Lot) (x : Addr × Byte × Window) : Lot :=
  if l.claimId = some x.2.1 ∧ l.status = .claimed then
    { l with status := .committed, discharge := some (minus x.2.2 transit) } else l

/-- A lot that hears of its claim's removal (R119, R131). -/
def Lot.dropOne (l : Lot) (c : Claim) : Lot :=
  if l.claimId = some c.id ∧ (l.status = .claimed ∨ l.status = .committed) then l.unclaim else l

/-- The filter that hears of a commitment (R138). -/
def FilterState.commitOne (transit : Nat) (u : FilterState) (x : Addr × Byte × Window) : FilterState :=
  if u.claimId = some x.2.1 ∧ u.mode = .claimed then
    { u with mode := .committed, discharge := some (minus x.2.2 transit) } else u

/-- The filter that hears of its claim's removal (R145). -/
def FilterState.dropOne (u : FilterState) (c : Claim) : FilterState :=
  if u.claimId = some c.id then u.unclaim else u

/-- A fold of which one element at most takes effect: the first that hits. -/
theorem foldl_first {α β : Type} {f : α → β → α} {a : α} {hit : β → Bool} (miss : ∀ x, hit x = false → f a x = a)
    (once : ∀ x y, hit x = true → f (f a x) y = f a x) (l : List β) :
    l.foldl f a = (l.find? hit).elim a (f a) := by
  have settled : ∀ (l : List β) (x : β), hit x = true → l.foldl f (f a x) = f a x := by
    intro l
    induction l with
    | nil => exact fun _ _ => rfl
    | cons y l ih =>
      intro x h
      rw [List.foldl_cons, once x y h, ih x h]
  induction l with
  | nil => rfl
  | cons x l ih =>
    cases h : hit x with
    | true => rw [List.foldl_cons, settled l x h, List.find?_cons_of_pos h, Option.elim_some]
    | false => rw [List.foldl_cons, miss x h, ih, List.find?_cons_of_neg (by simp [h])]

theorem foldl_commitOne_lot (transit : Nat) (l : List (Addr × Byte × Window)) (lot : Lot) :
    l.foldl (Lot.commitOne transit) lot =
      (l.find? (fun x => lot.claimId = some x.2.1 ∧ lot.status = .claimed)).elim lot (lot.commitOne transit) := by
  refine foldl_first (fun x miss => if_neg (by simpa using miss)) (fun x y hit => ?_) l
  have now : lot.commitOne transit x = { lot with status := .committed, discharge := some (minus x.2.2 transit) } :=
    if_pos (by simpa using hit)
  rw [now]
  exact if_neg (by simp)

theorem foldl_commitOne_filter (transit : Nat) (l : List (Addr × Byte × Window)) (u : FilterState) :
    l.foldl (FilterState.commitOne transit) u =
      (l.find? (fun x => u.claimId = some x.2.1 ∧ u.mode = .claimed)).elim u (u.commitOne transit) := by
  refine foldl_first (fun x miss => if_neg (by simpa using miss)) (fun x y hit => ?_) l
  have now : u.commitOne transit x = { u with mode := .committed, discharge := some (minus x.2.2 transit) } :=
    if_pos (by simpa using hit)
  rw [now]
  exact if_neg (by simp)

theorem foldl_dropOne_lot (l : List Claim) (lot : Lot) :
    l.foldl Lot.dropOne lot =
      (l.find? (fun c => lot.claimId = some c.id ∧ (lot.status = .claimed ∨ lot.status = .committed))).elim lot
        lot.dropOne := by
  refine foldl_first (fun x miss => if_neg (by simpa using miss)) (fun x y hit => ?_) l
  have now : lot.dropOne x = lot.unclaim := if_pos (by simpa using hit)
  rw [now]
  exact if_neg (by simp [Lot.unclaim])

theorem foldl_dropOne_filter (l : List Claim) (u : FilterState) :
    l.foldl FilterState.dropOne u = (l.find? (fun c => u.claimId = some c.id)).elim u u.dropOne := by
  refine foldl_first (fun x miss => if_neg (by simpa using miss)) (fun x y hit => ?_) l
  have now : u.dropOne x = u.unclaim := if_pos (by simpa using hit)
  rw [now]
  exact if_neg (by simp [FilterState.unclaim])

/-! ## Commitments -/

theorem commitAll_discharge (l : List (Addr × Byte × Window)) {s : State} (role : s.cfg.role = .discharge) :
    s.commitAll l = { s.mapLots (fun lot => l.foldl (Lot.commitOne s.cfg.transit) lot) with
      reports := (s.commitAll l).reports } := by
  induction l generalizing s with
  | nil => simp [State.commitAll, State.mapLots, State.setLots]
  | cons x l ih =>
    have step : s.roleCommitted x.2.1 x.2.2 =
        (s.report (.committed x.2.1 x.2.2)).mapLots (fun lot => lot.commitOne s.cfg.transit x) := by
      unfold State.roleCommitted
      simp only [report_cfg, role]
      rfl
    have rest := ih (s := s.roleCommitted x.2.1 x.2.2) (by rw [step]; exact role)
    have split : s.commitAll (x :: l) = (s.roleCommitted x.2.1 x.2.2).commitAll l := rfl
    rw [split, rest, step]
    simp only [State.mapLots, State.setLots, List.map_map]
    rfl

theorem commitAll_filter (l : List (Addr × Byte × Window)) {s : State} (role : s.cfg.role = .filter) :
    s.commitAll l = { s with
      filter := l.foldl (FilterState.commitOne s.cfg.transit) s.filter, reports := (s.commitAll l).reports } := by
  induction l generalizing s with
  | nil => rfl
  | cons x l ih =>
    have step : s.roleCommitted x.2.1 x.2.2 =
        (s.report (.committed x.2.1 x.2.2)).mapFilter (fun u => u.commitOne s.cfg.transit x) := by
      unfold State.roleCommitted
      simp only [report_cfg, role]
      rfl
    have rest := ih (s := s.roleCommitted x.2.1 x.2.2) (by rw [step]; exact role)
    have split : s.commitAll (x :: l) = (s.roleCommitted x.2.1 x.2.2).commitAll l := rfl
    rw [split, rest, step]
    rfl

theorem commitAll_crusher (l : List (Addr × Byte × Window)) {s : State} (role : s.cfg.role = .crusher) :
    s.commitAll l = { s with reports := (s.commitAll l).reports } := by
  induction l generalizing s with
  | nil => rfl
  | cons x l ih =>
    have step : s.roleCommitted x.2.1 x.2.2 = s.report (.committed x.2.1 x.2.2) := by
      unfold State.roleCommitted
      simp only [report_cfg, role]
    have rest := ih (s := s.roleCommitted x.2.1 x.2.2) (by rw [step]; exact role)
    have split : s.commitAll (x :: l) = (s.roleCommitted x.2.1 x.2.2).commitAll l := rfl
    rw [split, rest, step]
    rfl

/-! ## Stale claims that end nothing -/

theorem staleAll_crusher (l : List Claim) {s : State} (role : s.cfg.role = .crusher) :
    s.staleAll l = { s with reports := (s.staleAll l).reports } := by
  induction l generalizing s with
  | nil => rfl
  | cons c l ih =>
    have step : s.roleRemoved c.id .stale = s.report (.removed c.id .stale) := by
      unfold State.roleRemoved
      simp only [report_cfg, role]
    have rest := ih (s := s.roleRemoved c.id .stale) (by rw [step]; exact role)
    have split : s.staleAll (c :: l) = (s.roleRemoved c.id .stale).staleAll l := rfl
    rw [split, rest, step]
    rfl

theorem roleRemoved_idle {s : State} (role : s.cfg.role = .discharge) {c : Claim}
    (other : ∀ p, s.discharge.progress = some p → p.id ≠ c.id) :
    s.roleRemoved c.id .stale = (s.report (.removed c.id .stale)).mapLots (fun lot => lot.dropOne c) := by
  have idle : ¬s.discharge.progress.any (fun p => p.id == c.id) = true := by
    cases h : s.discharge.progress with
    | none => simp
    | some p => simpa using other p h
  unfold State.roleRemoved
  simp only [report_cfg, role]
  unfold State.lotRemoved
  rw [report_discharge, if_neg idle, if_neg (by simp)]
  rfl

theorem staleAll_discharge (l : List Claim) {s : State} (role : s.cfg.role = .discharge)
    (other : ∀ p, s.discharge.progress = some p → ∀ c ∈ l, p.id ≠ c.id) :
    s.staleAll l = { s.mapLots (fun lot => l.foldl Lot.dropOne lot) with reports := (s.staleAll l).reports } := by
  induction l generalizing s with
  | nil => simp [State.staleAll, State.mapLots, State.setLots]
  | cons c l ih =>
    have step := roleRemoved_idle role (fun p hp => other p hp c List.mem_cons_self)
    have rest := ih (s := s.roleRemoved c.id .stale) (by rw [step]; exact role)
      (by rw [step]; exact fun p hp d hd => other p hp d (List.mem_cons_of_mem _ hd))
    have split : s.staleAll (c :: l) = (s.roleRemoved c.id .stale).staleAll l := rfl
    rw [split, rest, step]
    simp only [State.mapLots, State.setLots, List.map_map]
    rfl

theorem roleRemoved_waiting {s : State} (role : s.cfg.role = .filter) {c : Claim}
    (other : s.filter.mode = .flushing → s.filter.claimId ≠ some c.id) :
    s.roleRemoved c.id .stale = (s.report (.removed c.id .stale)).mapFilter (fun u => u.dropOne c) := by
  unfold State.roleRemoved
  simp only [report_cfg, role]
  unfold State.flushRemoved State.mapFilter FilterState.dropOne
  simp only [report_filter]
  by_cases held : s.filter.claimId = some c.id
  · have still : s.filter.mode ≠ .flushing := fun running => other running held
    simp only [held, still, if_true, if_false, true_and]
    exact if_pos ⟨nofun, nofun⟩
  · simp only [held, if_false, false_and]
    rfl

theorem staleAll_filter (l : List Claim) {s : State} (role : s.cfg.role = .filter)
    (other : s.filter.mode = .flushing → ∀ c ∈ l, s.filter.claimId ≠ some c.id) :
    s.staleAll l = { s with filter := l.foldl FilterState.dropOne s.filter, reports := (s.staleAll l).reports } := by
  induction l generalizing s with
  | nil => rfl
  | cons c l ih =>
    have step := roleRemoved_waiting role (fun running => other running c List.mem_cons_self)
    have filter : (s.roleRemoved c.id .stale).filter = s.filter.dropOne c := by rw [step]; rfl
    have still : (s.roleRemoved c.id .stale).filter.mode = .flushing →
        ∀ d ∈ l, (s.roleRemoved c.id .stale).filter.claimId ≠ some d.id := by
      rw [filter]
      unfold FilterState.dropOne
      split
      · exact nofun
      · exact fun running d hd => other running d (List.mem_cons_of_mem _ hd)
    have rest := ih (s := s.roleRemoved c.id .stale) (by rw [step]; exact role) still
    have split : s.staleAll (c :: l) = (s.roleRemoved c.id .stale).staleAll l := rfl
    rw [split, rest, step]
    rfl

/-! ## A DONE in a queue with room -/

/-- The queue has room for a frame, and the station may send one. -/
def State.roomy (s : State) : Prop :=
  s.trunk.queue.length < 8 ∧ s.trunk.line = .active ∧ s.sync.status.isExcluded = false

theorem request_done_roomy {s : State} (room : s.roomy) (b : DoneBody) :
    s.request (.done b) .role =
      ((s.setQueue (s.trunk.queue ++ [newFrame (.done b) .role false])).report (.fate .role (.done b) .queued)).doneFate b
        .queued := by
  obtain ⟨short, active, shut⟩ := room
  have settled : s.settleOf (.done b) .role false =
      ⟨s.trunk.queue ++ [newFrame (.done b) .role false], .queued, []⟩ := by
    simp [State.settleOf, shut, active, settleRequest, newFrame, enter, short]
  unfold State.request
  rw [settled]
  rfl

theorem mem_request_done {s : State} (room : s.roomy) (b : DoneBody) :
    ∃ f ∈ (s.request (.done b) .role).trunk.queue, f.body = .done b := by
  refine ⟨newFrame (.done b) .role false, ?_, rfl⟩
  have queued : newFrame (.done b) .role false ∈
      (s.setQueue (s.trunk.queue ++ [newFrame (.done b) .role false])).trunk.queue :=
    List.mem_append_right _ List.mem_cons_self
  rw [request_done_roomy room]
  unfold State.doneFate
  split <;> exact queued

/-! ## A discharge that ends short -/

/-- Discharge in progress and head lot stand, where no claim's fate can reach the head. -/
theorem deliver_head {s : State} {l : Lot} {k : List Lot} (lots : s.discharge.lots = l :: k) (free : l.claimId = none)
    (who : Block) (b : QBody) (f : Fate) :
    (s.deliver who b f).discharge.progress = s.discharge.progress ∧
    ∃ k', (s.deliver who b f).discharge.lots = l :: k' := by
  have same : ∀ id, Lot.claimFate id f l = l := fun id => if_neg (by simp [free])
  unfold State.deliver
  dsimp only
  split
  · unfold State.claimFate
    split
    · exact ⟨rfl, by simp [lots, same]⟩
    · exact ⟨rfl, k, lots⟩
    · exact ⟨rfl, k, lots⟩
  · unfold State.doneFate
    split <;> exact ⟨rfl, k, lots⟩
  · exact ⟨rfl, k, lots⟩
  · exact ⟨rfl, k, lots⟩

theorem deliverAll_head (x : List (Block × QBody × Fate)) {s : State} {l : Lot} {k : List Lot}
    (lots : s.discharge.lots = l :: k) (free : l.claimId = none) :
    (s.deliverAll x).discharge.progress = s.discharge.progress ∧ ∃ k', (s.deliverAll x).discharge.lots = l :: k' := by
  induction x generalizing s k with
  | nil => exact ⟨rfl, k, lots⟩
  | cons y x ih =>
    obtain ⟨progress, k', first⟩ := deliver_head lots free y.1 y.2.1 y.2.2
    obtain ⟨rest, later⟩ := ih first
    exact ⟨rest.trans progress, later⟩

theorem request_head {s : State} {l : Lot} {k : List Lot} (lots : s.discharge.lots = l :: k) (free : l.claimId = none)
    (b : QBody) (who : Block) (u : Bool) :
    (s.request b who u).discharge.progress = s.discharge.progress ∧
    ∃ k', (s.request b who u).discharge.lots = l :: k' := by
  obtain ⟨progress, k', others⟩ := deliverAll_head (s.settleOf b who u).others
    (s := s.setQueue (s.settleOf b who u).queue) lots free
  obtain ⟨last, later⟩ := deliver_head others free who b (s.settleOf b who u).fate
  exact ⟨last.trans progress, later⟩

/-- The DONE of a discharge that ends short (R122). -/
def shortDone (p : Discharging) (l : Lot) : DoneBody :=
  ⟨p.id, byteOf (dischargedVolume (l.volume.getD 0) p.travel (l.length.getD 1)), true, p.arrival, byteOf l.cls⟩

/-- A discharge has ended short, and with `drop` the lots behind the head have heard of removals. -/
structure EndsShort (s t : State) (p : Discharging) (l : Lot) (k : List Lot) (drop : Lot → Lot) : Prop where
  progress : t.discharge.progress = none
  seq : t.seq = (s.seq.cancel .discharge).seq
  counted : t.counters.shortDischarges = min (s.counters.shortDischarges + 1) 65535
  raised : t.port.flags.getLsbD 5 = true
  head : t.discharge.lots.head? = some (l.remainderOf p.travel (s.boundsOf l.cls).min)
  tail : s.roomy → (∀ q ∈ k, q.claimId ≠ some p.id) → t.discharge.lots.tail = k.map drop
  pending : s.roomy → ⟨shortDone p l, false⟩ ∈ t.discharge.pending
  queued : s.roomy → ∃ f ∈ t.trunk.queue, f.body = .done (shortDone p l)

theorem endsShort_endDischarge {s : State} (role : s.cfg.role = .discharge) {p : Discharging} {l : Lot} {k : List Lot}
    (progress : s.discharge.progress = some p) (lots : s.discharge.lots = l :: k) :
    EndsShort s s.endDischarge p l k id := by
  generalize hu : ({ (s.cancelOp .discharge) with discharge := { s.discharge with
      progress := none, lots := l.remainderOf p.travel (s.boundsOf l.cls).min :: k,
      pending := s.discharge.pending ++ [⟨shortDone p l, false⟩] } } : State).countShort.raise .lotShort = u
  have step : s.endDischarge = u.request (.done (shortDone p l)) .role := by
    rw [← hu]
    unfold State.endDischarge
    simp only [progress, lots]
    rfl
  have frame := request_frame u (.done (shortDone p l)) .role false
  have port : (u.request (.done (shortDone p l)) .role).port = u.port :=
    (congrArg (fun t : State => t.port) frame).trans rfl
  have lotsOf : u.discharge.lots = l.remainderOf p.travel (s.boundsOf l.cls).min :: k := by rw [← hu]; rfl
  obtain ⟨still, k', now⟩ := request_head lotsOf rfl (.done (shortDone p l)) .role false
  have roomy : s.roomy → u.roomy := by
    rw [← hu]
    exact id
  have inRoom : s.roomy → (u.request (.done (shortDone p l)) .role).discharge = { u.discharge with
      pending := doneFates (shortDone p l) .queued u.discharge.pending } := by
    intro room
    rw [request_done_roomy (roomy room)]
    have here : ∀ q, ((u.setQueue q).report (.fate .role (.done (shortDone p l)) .queued)).cfg.role = .discharge := by
      rw [← hu]
      exact fun _ => role
    unfold State.doneFate
    simp only [here]
    rfl
  rw [step]
  exact {
    progress := still.trans (by rw [← hu]; rfl)
    seq := (request_seq u _ _ _).trans (by rw [← hu]; rfl)
    counted := by rw [request_counters, ← hu]; rfl
    raised := by
      rw [port, ← hu, raise_flags]
      simp [Attn.word, Attn.bit]
    head := by rw [now]; rfl
    tail := fun room _ => by rw [inRoom room, lotsOf, List.map_id]; rfl
    pending := fun room => by
      rw [inRoom room]
      refine List.mem_filterMap.2 ⟨⟨shortDone p l, false⟩, ?_, by simp [PendingDone.fate]⟩
      rw [← hu]
      exact List.mem_append_right _ List.mem_cons_self
    queued := fun room => mem_request_done (roomy room) _ }

/-- A lot that is neither CLAIMED nor COMMITTED hears of no removal. -/
theorem dropOne_of_unclaimed {lot : Lot} (h : lot.status ≠ .claimed ∧ lot.status ≠ .committed) (c : Claim) :
    lot.dropOne c = lot :=
  if_neg (fun both => both.2.elim h.1 h.2)

theorem foldl_dropOne_of_unclaimed {lot : Lot} (h : lot.status ≠ .claimed ∧ lot.status ≠ .committed) (l : List Claim) :
    l.foldl Lot.dropOne lot = lot := by
  induction l with
  | nil => rfl
  | cons c l ih => rw [List.foldl_cons, dropOne_of_unclaimed h, ih]

theorem dropOne_claimId {lot : Lot} {c : Claim} {id : Byte} (h : lot.claimId ≠ some id) :
    (lot.dropOne c).claimId ≠ some id := by
  unfold Lot.dropOne
  split
  · exact nofun
  · exact h

theorem exists_tail {c : Claim} {l : List Claim} {id : Byte} (hit : ∃ d ∈ c :: l, d.id = id) (other : c.id ≠ id) :
    ∃ d ∈ l, d.id = id := by
  simpa [other] using hit

/-- A stale claim of the discharge in progress ends it short, whatever other claims are stale with it. -/
theorem endsShort_staleAll (l : List Claim) {s : State} (role : s.cfg.role = .discharge) {p : Discharging} {lot : Lot}
    {k : List Lot} (progress : s.discharge.progress = some p) (lots : s.discharge.lots = lot :: k)
    (busy : lot.status = .discharging) (hit : ∃ c ∈ l, c.id = p.id) :
    EndsShort s (s.staleAll l) p lot k (fun q => l.foldl Lot.dropOne q) := by
  induction l generalizing s k with
  | nil => simp at hit
  | cons c l ih =>
    have split : s.staleAll (c :: l) = (s.roleRemoved c.id .stale).staleAll l := rfl
    rw [split]
    by_cases here : c.id = p.id
    · have step : s.roleRemoved c.id .stale = (s.report (.removed c.id .stale)).endDischarge := by
        unfold State.roleRemoved
        simp only [report_cfg, role]
        unfold State.lotRemoved
        rw [report_discharge, if_pos (by simp [progress, here]), if_neg nofun]
      have ends : EndsShort s (s.roleRemoved c.id .stale) p lot k id := by
        rw [step]
        exact { endsShort_endDischarge (s := s.report (.removed c.id .stale)) role progress lots with }
      have cfg : (s.roleRemoved c.id .stale).cfg = s.cfg := (steady_roleRemoved s c.id .stale).cfg
      generalize s.roleRemoved c.id .stale = e at *
      have rest := staleAll_discharge l (s := e) (by rw [cfg, role]) (by rw [ends.progress]; exact nofun)
      have lotsOf : (e.staleAll l).discharge.lots = e.discharge.lots.map (fun q => l.foldl Lot.dropOne q) := by
        rw [rest]; rfl
      have queue : (e.staleAll l).trunk.queue = e.trunk.queue := by rw [rest]; rfl
      have pending : (e.staleAll l).discharge.pending = e.discharge.pending := by rw [rest]; rfl
      have same : ∀ q : Lot, q.claimId ≠ some p.id → q.dropOne c = q := fun q free =>
        if_neg (fun both => free (here ▸ both.1))
      exact {
        progress := by rw [rest]; exact ends.progress
        seq := by rw [rest]; exact ends.seq
        counted := by rw [rest]; exact ends.counted
        raised := by rw [rest]; exact ends.raised
        head := by
          rw [lotsOf, List.head?_map, ends.head, Option.map_some,
            foldl_dropOne_of_unclaimed (by simp [Lot.remainderOf])]
        tail := fun room free => by
          rw [lotsOf, ← List.map_tail, ends.tail room free, List.map_id]
          exact List.map_congr_left fun q hq => by rw [List.foldl_cons, same q (free q hq)]
        pending := fun room => by rw [pending]; exact ends.pending room
        queued := fun room => by rw [queue]; exact ends.queued room }
    · have step := roleRemoved_idle (c := c) role (fun x hx same => by
        rw [progress, Option.some.injEq] at hx
        exact here (hx ▸ same.symm))
      have head : lot.dropOne c = lot := dropOne_of_unclaimed (by simp [busy]) c
      have ends := ih (s := s.roleRemoved c.id .stale) (k := k.map (fun q => q.dropOne c)) (by rw [step]; exact role)
        (by rw [step]; exact progress)
        (by
          rw [step]
          change s.discharge.lots.map (fun q => q.dropOne c) = _
          rw [lots, List.map_cons, head])
        (exists_tail hit here)
      rw [step] at ends ⊢
      exact { ends with
        tail := fun room free => by
          rw [ends.tail room (fun q hq => by
            obtain ⟨x, hx, rfl⟩ := List.mem_map.1 hq
            exact dropOne_claimId (free x hx)), List.map_map]
          rfl }

/-! ## A flush that ends short -/

/-- The DONE of a flush that ends short (R142). -/
def State.shortFlush (s : State) (p : Flushing) : DoneBody :=
  ⟨p.id, byteOf (s.flushedVolume s.flushElapsed), true, p.arrival, 7⟩

/-- A flush has ended short, and the filter is SETTLING. -/
structure FlushEnds (s t : State) (p : Flushing) : Prop where
  filter : { t.filter with pending := s.filter.pending } = { s.filter with
    progress := none, claimId := none, discharge := none, mode := .settling, settle := 1 }
  seq : t.seq = (s.seq.cancel .flush).seq
  counted : t.counters.shortDischarges = min (s.counters.shortDischarges + 1) 65535
  pending : s.roomy → t.filter.pending = some ⟨s.shortFlush p, false⟩
  queued : s.roomy → ∃ f ∈ t.trunk.queue, f.body = .done (s.shortFlush p)

theorem flushEnds_endFlush {s : State} (role : s.cfg.role = .filter) {p : Flushing}
    (progress : s.filter.progress = some p) : FlushEnds s (s.endFlush .settling 1) p := by
  generalize hu : (((s.cancelOp .flush).mapFilter (fun u => { u with
      progress := none, claimId := none, discharge := none, mode := .settling, settle := 1,
      pending := some ⟨s.shortFlush p, false⟩ })).countShort : State) = u
  have step : s.endFlush .settling 1 = u.request (.done (s.shortFlush p)) .role := by
    rw [← hu]
    unfold State.endFlush
    simp only [progress]
    rfl
  have mode : u.filter.mode = .settling := by rw [← hu]; rfl
  have roleOf : u.cfg.role = .filter := by rw [← hu]; exact role
  have spends := spends_request roleOf (by rw [mode]; nofun) (.done (s.shortFlush p)) .role false
  have roomy : s.roomy → u.roomy := by
    rw [← hu]
    exact id
  rw [step]
  exact {
    filter := by
      refine (congrArg (fun v : FilterState => { v with pending := s.filter.pending }) spends.filter).trans ?_
      rw [← hu]
      rfl
    seq := spends.seq.trans (by rw [← hu]; rfl)
    counted := by rw [spends.counters, ← hu]; rfl
    pending := fun room => by
      have kept : u.filter.pending = some ⟨s.shortFlush p, false⟩ := by rw [← hu]; rfl
      rw [request_done_roomy (roomy room)]
      unfold State.doneFate
      simp [roleOf, FilterState.doneFate, kept, PendingDone.fate]
    queued := fun room => mem_request_done (roomy room) _ }

/-- A stale claim of the flush under way ends it short. -/
theorem flushEnds_staleAll (l : List Claim) {s : State} (role : s.cfg.role = .filter) {p : Flushing} {id : Byte}
    (progress : s.filter.progress = some p) (running : s.filter.mode = .flushing) (claim : s.filter.claimId = some id)
    (hit : ∃ c ∈ l, c.id = id) : FlushEnds s (s.staleAll l) p := by
  induction l generalizing s with
  | nil => simp at hit
  | cons c l ih =>
    have split : s.staleAll (c :: l) = (s.roleRemoved c.id .stale).staleAll l := rfl
    rw [split]
    by_cases here : c.id = id
    · have step : s.roleRemoved c.id .stale = (s.report (.removed c.id .stale)).endFlush .settling 1 := by
        unfold State.roleRemoved
        simp only [report_cfg, role]
        unfold State.flushRemoved
        exact (if_pos ⟨here ▸ claim, nofun, nofun⟩).trans (if_pos running)
      have ends : FlushEnds s (s.roleRemoved c.id .stale) p := by
        rw [step]
        exact { flushEnds_endFlush (s := s.report (.removed c.id .stale)) role progress with }
      have cfg : (s.roleRemoved c.id .stale).cfg = s.cfg := (steady_roleRemoved s c.id .stale).cfg
      generalize s.roleRemoved c.id .stale = e at *
      have free : e.filter.claimId = none :=
        (congrArg (fun u : FilterState => u.claimId) ends.filter).trans rfl
      have rest := staleAll_filter l (s := e) (by rw [cfg, role]) (fun _ d _ => by rw [free]; exact nofun)
      have same : l.foldl FilterState.dropOne e.filter = e.filter := by
        rw [foldl_dropOne_filter, List.find?_eq_none.2 (by simp [free])]
        rfl
      rw [rest, same]
      exact { ends with }
    · have step : s.roleRemoved c.id .stale = s.report (.removed c.id .stale) := by
        unfold State.roleRemoved
        simp only [report_cfg, role]
        unfold State.flushRemoved
        exact if_neg (fun all => here (Option.some.inj (all.1.symm.trans claim)))
      rw [step]
      exact { ih (s := s.report (.removed c.id .stale)) role progress running claim
        (exists_tail hit here) with }

end Sys2Proof.Machine
end


section
/-! SUPPORT. The records' part of a MARK in the rules' own terms: which claims are stale, which commitments the plan hands
over, what the roster loses, and the state the role unit finds (R16 to R20, R47, R54, R67). -/

namespace Sys2Proof.Machine

/-! ## Stale claims and lost stations -/

/-- Stale is what is neither the MARK's window nor 1 to 255 windows after it (R19). -/
theorem staleAt_eq (w m : Window) : staleAt w m = decide (256 ≤ (w - m).toNat) := by
  have same : (w = m) ↔ (w - m).toNat = 0 := by
    constructor
    · rintro rfl
      simp
    · intro h
      bv_omega
  unfold staleAt dueBy earlier fwd
  by_cases here : w = m
  · simp [here]
  · have apart : (w - m).toNat ≠ 0 := fun zero => here (same.2 zero)
    have unlike : (w != m) = true := by simpa using here
    rw [unlike, Bool.and_true, Bool.eq_iff_iff]
    simp only [Bool.not_eq_true', Bool.and_eq_false_iff, decide_eq_false_iff_not, decide_eq_true_eq]
    omega

/-- The station is lost at a MARK of `sender` (R67, R69). -/
def lostStation (own sender : Addr) (roster : List RosterEntry) (y : Addr) : Bool :=
  roster.any (fun e => e.addr == y && e.addr != own && e.addr != sender && !e.heard && decide (2 ≤ e.missed))

theorem lostAt_contains (own sender : Addr) (roster : List RosterEntry) (y : Addr) :
    (lostAt own sender roster).contains y = lostStation own sender roster y := by
  rw [Bool.eq_iff_iff]
  simp only [lostAt, heardBy, lostStation, List.contains_iff_mem, List.mem_map, List.mem_filter, List.any_eq_true,
    Bool.and_eq_true, Bool.not_eq_true', Bool.or_eq_false_iff, bne_iff_ne, beq_iff_eq, beq_eq_false_iff_ne]
  constructor
  · rintro ⟨e, ⟨he, ⟨other, heard, apart⟩, missed⟩, rfl⟩
    exact ⟨e, he, ⟨⟨⟨rfl, other⟩, apart⟩, heard⟩, missed⟩
  · rintro ⟨e, he, ⟨⟨⟨rfl, other⟩, apart⟩, heard⟩, missed⟩
    exact ⟨e, ⟨he, ⟨other, heard, apart⟩, missed⟩, rfl⟩

theorem lostStation_own (own sender : Addr) (roster : List RosterEntry) : lostStation own sender roster own = false := by
  rw [Bool.eq_false_iff]
  simp only [lostStation, ne_eq, List.any_eq_true, Bool.and_eq_true, bne_iff_ne, beq_iff_eq]
  rintro ⟨e, _, ⟨⟨⟨rfl, other⟩, _⟩, _⟩, _⟩
  exact other rfl

/-- An own claim of the id is stale at the MARK. -/
theorem ownStale_any {s : State} {sender : Addr} (m : Window) (id : Byte) :
    (s.ownStale (lostAt s.own sender s.roster) m).any (fun c => c.id == id) =
      s.table.claims.any (fun c => c.owner == s.own && c.id == id &&
        match c.status with
        | .committed w => decide (256 ≤ (w - m).toNat)
        | .waiting => false) := by
  have kept := lostAt_contains s.own sender s.roster s.own
  rw [lostStation_own] at kept
  rw [State.ownStale, List.filter_filter, List.any_filter]
  congr 1
  funext c
  by_cases mine : c.owner = s.own
  · have past : staleClaim (lostAt s.own sender s.roster) m c = match c.status with
        | .committed w => decide (256 ≤ (w - m).toNat)
        | .waiting => false := by
      unfold staleClaim
      rw [mine, kept]
      cases c.status with
      | committed w => simp only [staleAt_eq, Bool.not_false, Bool.true_and]
      | waiting => rfl
    rw [past, mine, beq_self_eq_true, Bool.true_and, Bool.true_and, Bool.and_comm]
  · have other : (c.owner == s.own) = false := by simpa using mine
    rw [other]
    rfl

/-! ## Commitments handed over -/

/-- The plan's placement of a claim that goes in the next window (R47). -/
def placedNext (entries : List PlanEntry) (m : Window) (a : Addr) (id : Byte) : Option Placement :=
  (placementsOf entries).find? (fun p => p.owner == a && p.id == id && p.discharge == m + 1)

/-- A WAITING claim of owner and id stands in the table. -/
def waits (claims : List Claim) (a : Addr) (id : Byte) : Bool :=
  claims.any (fun c => c.owner == a && c.id == id && !c.isCommitted)

theorem find_commitsOf {claims : List Claim} (entries : List PlanEntry) (m : Window) {a : Addr} {id : Byte}
    (h : waits claims a id = true) :
    (commitsOf claims entries m).find? (fun x => x.1 == a && x.2.1 == id) =
      (placedNext entries m a id).map (fun p => (p.owner, p.id, p.arrival)) := by
  have pick : (fun p : Placement => decide ((placesWaiting claims p && p.discharge == plus m 1) = true ∧
      (p.owner == a && p.id == id) = true)) = fun p => p.owner == a && p.id == id && p.discharge == m + 1 := by
    funext p
    by_cases here : p.owner = a ∧ p.id = id
    · obtain ⟨rfl, rfl⟩ := here
      have waiting : placesWaiting claims p = true := h
      rw [waiting, Bool.true_and, beq_self_eq_true, beq_self_eq_true, Bool.true_and, Bool.true_and]
      simp only [and_true, Bool.decide_eq_true]
      rfl
    · have apart : (p.owner == a && p.id == id) = false := by simpa using here
      simp [apart]
  unfold commitsOf placedNext
  rw [List.find?_map, List.find?_filter, ← pick]
  rfl

/-- The commitments of own claims, as the role unit meets an id among them. -/
theorem find_ownCommits {s : State} {sender : Addr} (entries : List PlanEntry) (m : Window) (id : Byte) :
    (s.ownCommits (commitsOf s.table.claims entries m) (lostAt s.own sender s.roster)).find? (fun x => x.2.1 == id) =
      if waits s.table.claims s.own id = true then
        (placedNext entries m s.own id).map (fun p => (p.owner, p.id, p.arrival))
      else none := by
  have kept := lostAt_contains s.own sender s.roster s.own
  rw [lostStation_own] at kept
  unfold State.ownCommits
  rw [List.find?_filter]
  split
  · rename_i waiting
    rw [← find_commitsOf entries m waiting]
    congr 1
    funext x
    by_cases here : x.1 = s.own ∧ x.2.1 = id
    · have there : s.table.claims.any (fun c => c.owner == x.1 && c.id == x.2.1 && !c.isCommitted) = true := by
        rw [here.1, here.2]
        exact waiting
      have own : (lostAt s.own sender s.roster).contains x.1 = false := by rw [here.1, kept]
      rw [there, own]
      simp [here]
    · have apart : (x.1 == s.own && x.2.1 == id) = false := by simpa using here
      rw [apart]
      simp only [Bool.and_eq_true, beq_iff_eq, decide_eq_false_iff_not]
      exact fun both => here ⟨both.1.1.1, both.2⟩
  · rename_i idle
    refine List.find?_eq_none.2 fun x _ => ?_
    simp only [Bool.and_eq_true, beq_iff_eq, decide_eq_true_eq]
    rintro ⟨⟨⟨owner, _⟩, waiting⟩, same⟩
    rw [owner, same] at waiting
    exact idle waiting

/-- A claim of the table behind a MARK (R18, R19, R47). -/
theorem markClaim_eq {s : State} {sender : Addr} (entries : List PlanEntry) (m : Window) {c : Claim}
    (hc : c ∈ s.table.claims) :
    markClaim s.roster s.cfg.hall.a (commitsOf s.table.claims entries m) (lostAt s.own sender s.roster) m c =
      if lostStation s.own sender s.roster c.owner = true then none
      else match c.status with
        | .committed w => if 256 ≤ (w - m).toNat then none else some c
        | .waiting =>
          match placedNext entries m c.owner c.id with
          | some p => some { c with status := .committed p.arrival }
          | none => some (ageClaim s.cfg.hall.a (ceilingOf s.roster c.owner) c) := by
  unfold markClaim
  rw [lostAt_contains]
  split
  · rfl
  · cases status : c.status with
    | committed w => simp only [staleAt_eq, decide_eq_true_eq]
    | waiting =>
      have waiting : waits s.table.claims c.owner c.id = true :=
        List.any_eq_true.2 ⟨c, hc, by simp [Claim.isCommitted, status]⟩
      simp only [find_commitsOf entries m waiting]
      cases placedNext entries m c.owner c.id <;> rfl

/-- The commitments of own claims are among those reported. -/
theorem mem_ownCommits {s : State} {sender : Addr} {entries : List PlanEntry} {m : Window} {p : Placement}
    (hp : p ∈ placementsOf entries) (own : p.owner = s.own) (waiting : waits s.table.claims p.owner p.id = true)
    (next : p.discharge = m + 1) :
    (p.owner, p.id, p.arrival) ∈ s.ownCommits (commitsOf s.table.claims entries m) (lostAt s.own sender s.roster) := by
  have kept := lostAt_contains s.own sender s.roster s.own
  rw [lostStation_own] at kept
  refine List.mem_filter.2 ⟨List.mem_map.2 ⟨p, List.mem_filter.2 ⟨hp, ?_⟩, rfl⟩, ?_⟩
  · have placed : placesWaiting s.table.claims p = true := waiting
    simp [placed, next, plus]
  · have there : s.table.claims.any (fun c => c.owner == p.owner && c.id == p.id && !c.isCommitted) = true := waiting
    have unlost : (lostAt s.own sender s.roster).contains p.owner = false := by rw [own, kept]
    simp only [there, unlost]
    simp [own]

/-! ## A lot and the filter behind the table -/

section
variable {l : List (Addr × Byte × Window)} {d : List Claim} {transit : Nat} {commit : Byte → Option Window}
  {stale : Byte → Bool}

theorem lot_committed (hc : ∀ id, (l.find? (fun x => x.2.1 == id)).map (fun x => minus x.2.2 transit) = commit id)
    (lot : Lot) :
    l.foldl (Lot.commitOne transit) lot =
      if lot.status = .claimed ∧ (lot.claimId.bind commit).isSome = true then
        { lot with status := .committed, discharge := lot.claimId.bind commit } else lot := by
  rw [foldl_commitOne_lot]
  by_cases claimed : lot.status = .claimed
  · cases claim : lot.claimId with
    | none => rw [List.find?_eq_none.2 (by simp), if_neg (by simp)]; rfl
    | some id =>
      have pick : (fun x : Addr × Byte × Window => decide (some id = some x.2.1 ∧ lot.status = .claimed)) =
          fun x => x.2.1 == id := by
        funext x
        rw [Bool.eq_iff_iff]
        simp only [Option.some.injEq, claimed, and_true, decide_eq_true_eq, beq_iff_eq]
        exact eq_comm
      rw [pick, Option.bind_some, ← hc id]
      cases found : l.find? (fun x => x.2.1 == id) with
      | none => rw [if_neg (by simp)]; rfl
      | some x =>
        have same : x.2.1 = id := by simpa using List.find?_some found
        have now : lot.commitOne transit x =
            { lot with status := .committed, discharge := some (minus x.2.2 transit) } :=
          if_pos ⟨by rw [claim, same], claimed⟩
        rw [if_pos ⟨claimed, by rfl⟩, Option.elim_some, now, claim]
        rfl
  · rw [List.find?_eq_none.2 (by simp [claimed]), if_neg (fun both => claimed both.1)]
    rfl

theorem lot_dropped (hs : ∀ id, d.any (fun c => c.id == id) = stale id) (lot : Lot) :
    d.foldl Lot.dropOne lot =
      if (lot.status = .claimed ∨ lot.status = .committed) ∧ lot.claimId.any stale = true then lot.unclaim
      else lot := by
  rw [foldl_dropOne_lot]
  cases found : d.find? (fun c => lot.claimId = some c.id ∧ (lot.status = .claimed ∨ lot.status = .committed)) with
  | some c =>
    have hit := List.find?_some found
    simp only [decide_eq_true_eq] at hit
    have named : lot.claimId.any stale = true := by
      rw [hit.1, Option.any_some, ← hs]
      exact List.any_eq_true.2 ⟨c, List.mem_of_find?_eq_some found, beq_self_eq_true _⟩
    rw [if_pos ⟨hit.2, named⟩]
    exact if_pos hit
  | none =>
    refine (if_neg ?_).symm
    rintro ⟨held, named⟩
    obtain ⟨id, claim, id_stale⟩ := (Option.any_eq_true _ _).1 named
    rw [← hs] at id_stale
    obtain ⟨c, hc, same⟩ := List.any_eq_true.1 id_stale
    have miss := List.find?_eq_none.1 found c hc
    simp [claim, held, beq_iff_eq.1 same] at miss

/-- A lot behind the commitments and the stale claims of a MARK. -/
theorem lot_marked (hc : ∀ id, (l.find? (fun x => x.2.1 == id)).map (fun x => minus x.2.2 transit) = commit id)
    (hs : ∀ id, d.any (fun c => c.id == id) = stale id) (lot : Lot) :
    d.foldl Lot.dropOne (l.foldl (Lot.commitOne transit) lot) =
      if (lot.status = .claimed ∨ lot.status = .committed) ∧ lot.claimId.any stale = true then lot.unclaim
      else if lot.status = .claimed ∧ (lot.claimId.bind commit).isSome = true then
        { lot with status := .committed, discharge := lot.claimId.bind commit }
      else lot := by
  rw [lot_committed hc, lot_dropped hs]
  by_cases goes : lot.status = .claimed ∧ (lot.claimId.bind commit).isSome = true
  · rw [if_pos goes]
    by_cases named : lot.claimId.any stale = true
    · rw [if_pos ⟨.inr rfl, named⟩, if_pos ⟨.inl goes.1, named⟩]
      rfl
    · rw [if_neg (fun both => named both.2), if_neg (fun both => named both.2)]
  · rw [if_neg goes]

theorem filter_committed (hc : ∀ id, (l.find? (fun x => x.2.1 == id)).map (fun x => minus x.2.2 transit) = commit id)
    (u : FilterState) :
    l.foldl (FilterState.commitOne transit) u =
      if u.mode = .claimed ∧ (u.claimId.bind commit).isSome = true then
        { u with mode := .committed, discharge := u.claimId.bind commit } else u := by
  rw [foldl_commitOne_filter]
  by_cases claimed : u.mode = .claimed
  · cases claim : u.claimId with
    | none => rw [List.find?_eq_none.2 (by simp), if_neg (by simp)]; rfl
    | some id =>
      have pick : (fun x : Addr × Byte × Window => decide (some id = some x.2.1 ∧ u.mode = .claimed)) =
          fun x => x.2.1 == id := by
        funext x
        rw [Bool.eq_iff_iff]
        simp only [Option.some.injEq, claimed, and_true, decide_eq_true_eq, beq_iff_eq]
        exact eq_comm
      rw [pick, Option.bind_some, ← hc id]
      cases found : l.find? (fun x => x.2.1 == id) with
      | none => rw [if_neg (by simp)]; rfl
      | some x =>
        have same : x.2.1 = id := by simpa using List.find?_some found
        have now : u.commitOne transit x =
            { u with mode := .committed, discharge := some (minus x.2.2 transit) } :=
          if_pos ⟨by rw [claim, same], claimed⟩
        rw [if_pos ⟨claimed, by rfl⟩, Option.elim_some, now, claim]
        rfl
  · rw [List.find?_eq_none.2 (by simp [claimed]), if_neg (fun both => claimed both.1)]
    rfl

theorem filter_dropped (hs : ∀ id, d.any (fun c => c.id == id) = stale id) (u : FilterState) :
    d.foldl FilterState.dropOne u = if u.claimId.any stale = true then u.unclaim else u := by
  rw [foldl_dropOne_filter]
  cases claim : u.claimId with
  | none => rw [List.find?_eq_none.2 (by simp)]; rfl
  | some id =>
    rw [Option.any_some, ← hs]
    cases found : d.find? (fun c => some id = some c.id) with
    | some c =>
      have same : id = c.id := by simpa using List.find?_some found
      rw [if_pos (List.any_eq_true.2 ⟨c, List.mem_of_find?_eq_some found, by simp [same]⟩)]
      exact if_pos (by rw [claim, same])
    | none =>
      refine (if_neg fun named => ?_).symm
      obtain ⟨c, hc, same⟩ := List.any_eq_true.1 named
      have miss := List.find?_eq_none.1 found c hc
      simp [beq_iff_eq.1 same] at miss

/-- The filter behind the commitments and the stale claims of a MARK. -/
theorem filter_marked (hc : ∀ id, (l.find? (fun x => x.2.1 == id)).map (fun x => minus x.2.2 transit) = commit id)
    (hs : ∀ id, d.any (fun c => c.id == id) = stale id) (u : FilterState) :
    d.foldl FilterState.dropOne (l.foldl (FilterState.commitOne transit) u) =
      if u.claimId.any stale = true then u.unclaim
      else if u.mode = .claimed ∧ (u.claimId.bind commit).isSome = true then
        { u with mode := .committed, discharge := u.claimId.bind commit }
      else u := by
  rw [filter_committed hc, filter_dropped hs]
  by_cases goes : u.mode = .claimed ∧ (u.claimId.bind commit).isSome = true
  · rw [if_pos goes]
    rfl
  · rw [if_neg goes]

end

end Sys2Proof.Machine
end


section
/-! SUPPORT. The records behind a MARK, put together from the parts in their order (R16, R37, R54 to R56, R67, R101). -/

namespace Sys2Proof.Machine

/-! ## As the table's turn comes -/

/-- The state as the claim table's turn comes at a MARK. -/
def State.markCompared (h : State) (own : Bool) (b : MarkBody) : State :=
  (((h.markWindow b.window).markPresent own h.sync.status.joined).rebuildPlan b.window).markSync h.markView b

/-- The station before the comparison: the window counted, the PRESENT requested, the plan built. -/
def State.markPlanned (h : State) (own : Bool) (b : MarkBody) : State :=
  ((h.markWindow b.window).markPresent own h.sync.status.joined).rebuildPlan b.window

/-- What the table and the roster find at a MARK carrying `m`. -/
structure Readied (h s : State) (m : Window) : Prop where
  clerical : Clerical h s
  window : s.window = { number := m, timer := some 0, expiries := 0, sent := false, asked := h.window.asked }
  plan : s.plan = h.planAt m
  claims : s.table.claims = h.table.claims
  roster : s.roster = h.roster
  stale : s.counters.stale = h.counters.stale
  trunk : { s.trunk with queue := h.trunk.queue } = h.trunk.counted
  markless : s.markless
  hall : s.hall = if h.sync.status ≠ .synced ∧ s.sync.status = .synced then
    { h.hall with stops := h.hall.stops.map (fun e => { e with restated := true }) } else h.hall
  excluded : s.sync.status.isExcluded = true → h.sync.status.isExcluded = true

theorem Opens.planAt {m : Window} {n : Nat} {h s : State} (o : Opens m n h s) : s.planAt m = h.planAt m := by
  have same := congrArg (fun t : State => t.planAt m) o.frame
  exact same

theorem opens_markPlanned (h : State) (own : Bool) (b : MarkBody) :
    Opens b.window 1 h ((h.markWindow b.window).markPresent own h.sync.status.joined) :=
  (opens_markPresent (opens_markWindow h b.window) own _).1

/-- All but window, line record, plan, sync state, port and reports is untouched before the comparison. -/
theorem markPlanned_frame (h : State) (own : Bool) (b : MarkBody) :
    { h.markPlanned own b with
      window := h.window, trunk := h.trunk, plan := h.plan, sync := h.sync, port := h.port, reports := h.reports } = h :=
  (congrArg (fun t : State => { t with plan := h.plan }) (opens_markPlanned h own b).frame).trans rfl

theorem readied_markPlanned (h : State) (own : Bool) (b : MarkBody) : Readied h (h.markPlanned own b) b.window := by
  have opens := opens_markPlanned h own b
  have sent := (opens_markPresent (opens_markWindow h b.window) own h.sync.status.joined).2
  have frame := markPlanned_frame h own b
  have status : (h.markPlanned own b).sync.status = h.sync.status := opens.status
  exact {
    clerical := by
      have moved := congrArg (fun t : State => { t with
        table := h.table, roster := h.roster, hall := h.hall, discharge := h.discharge, filter := h.filter
        seq := h.seq, counters := h.counters }) frame
      exact moved
    window := by
      have window := congrArg (fun w : WindowState => { w with sent := false }) opens.window
      rw [← sent] at window
      exact window.trans (by rw [sent])
    plan := opens.planAt
    claims := (congrArg (fun t : State => t.table.claims) frame).trans rfl
    roster := (congrArg (fun t : State => t.roster) frame).trans rfl
    stale := (congrArg (fun t : State => t.counters.stale) frame).trans rfl
    trunk := opens.trunk
    markless := opens.markless
    hall := by
      rw [status, if_neg (fun both => both.1 both.2)]
      exact (congrArg (fun t : State => t.hall) frame).trans rfl
    excluded := by rw [status]; exact id }

theorem readied_markCompared (h : State) (own : Bool) (b : MarkBody) : Readied h (h.markCompared own b) b.window := by
  have planned := readied_markPlanned h own b
  have status : (h.markPlanned own b).sync.status = h.sync.status := (opens_markPlanned h own b).status
  have compared : Compared (h.markPlanned own b) (h.markCompared own b) := compared_markSync _ h.markView b
  have hall : (h.markPlanned own b).hall = h.hall :=
    (congrArg (fun t : State => t.hall) (markPlanned_frame h own b)).trans rfl
  exact {
    clerical := planned.clerical.trans compared.clerical
    window := compared.window.trans planned.window
    plan := compared.plan.trans planned.plan
    claims := compared.claims.trans planned.claims
    roster := compared.roster.trans planned.roster
    stale := compared.stale.trans planned.stale
    trunk := (congrArg (fun t : TrunkState => { t with queue := h.trunk.queue }) compared.trunk).trans planned.trunk
    markless := compared.markless planned.markless
    hall := by
      have := compared.hall
      rwa [status, hall] at this
    excluded := fun e => planned.excluded (compared.excluded e) }

theorem Clerical.cfg_eq {s t : State} (h : Clerical s t) : t.cfg = s.cfg :=
  (congrArg (fun t : State => t.cfg) h).trans rfl

theorem Clerical.mode_eq {s t : State} (h : Clerical s t) : t.mode = s.mode :=
  (congrArg (fun t : State => t.mode) h).trans rfl

theorem Clerical.own_eq {s t : State} (h : Clerical s t) : t.own = s.own := congrArg Config.address h.cfg_eq

/-! ### The role unit as the table's turn comes -/

theorem idle_markCompared {h : State} (own : Bool) (b : MarkBody) (role : h.cfg.role ≠ .crusher)
    (agreed : (h.markCompared own b).sync.status = .diverged → h.sync.status = .diverged) :
    Idle 3 h (h.markCompared own b) := by
  have frame := markPlanned_frame h own b
  have opens := opens_markPlanned h own b
  have cfg : (h.markPlanned own b).cfg = h.cfg := (congrArg (fun t : State => t.cfg) frame).trans rfl
  have idle : Idle 2 (h.markPlanned own b) (h.markCompared own b) :=
    idle_markSync h.markView b (by rwa [cfg]) (fun d => opens.status.trans (agreed d))
  exact {
    discharge := idle.discharge.trans ((congrArg (fun t : State => t.discharge) frame).trans rfl)
    filter := idle.filter.trans ((congrArg (fun t : State => t.filter) frame).trans rfl)
    seq := idle.seq.trans ((congrArg (fun t : State => t.seq) frame).trans rfl)
    counters := idle.counters.trans ((congrArg (fun t : State => t.counters) frame).trans rfl)
    length := by
      have before : (h.markPlanned own b).trunk.queue.length ≤ h.trunk.queue.length + 1 := opens.length
      have := idle.length
      omega }

theorem spares_markCompared {h : State} (own : Bool) (b : MarkBody) (role : h.cfg.role = .crusher) :
    Spares h (h.markCompared own b) := by
  have frame := markPlanned_frame h own b
  have planned : Spares h (h.markPlanned own b) :=
    ⟨(congrArg (fun t : State => t.cfg) frame).trans rfl, (congrArg (fun t : State => t.discharge) frame).trans rfl,
      (congrArg (fun t : State => t.filter) frame).trans rfl, (congrArg (fun t : State => t.seq) frame).trans rfl⟩
  exact planned.trans (spares_markSync (by rw [planned.cfg, role]) h.markView b)

theorem spends_markCompared {h : State} (own : Bool) (b : MarkBody) (role : h.cfg.role = .filter)
    (running : h.filter.mode = .flushing) : Spends h (h.markCompared own b) := by
  have frame := markPlanned_frame h own b
  have filter : (h.markPlanned own b).filter = h.filter := (congrArg (fun t : State => t.filter) frame).trans rfl
  have planned : Spends h (h.markPlanned own b) :=
    ⟨(congrArg (fun t : State => t.cfg) frame).trans rfl, by rw [filter],
      (congrArg (fun t : State => t.seq) frame).trans rfl, (congrArg (fun t : State => t.counters) frame).trans rfl⟩
  exact planned.trans (spends_markSync (by rw [planned.cfg, role]) (by rw [filter, running]) h.markView b)

/-! ## Table and roster -/

/-- The commitments that the plan of a MARK hands over. -/
def State.markCommits (h : State) (m : Window) : List (Addr × Byte × Window) :=
  commitsOf h.table.claims (h.planAt m).entries m

/-- The addresses lost at a MARK. -/
def State.markLost (h : State) (sender : Addr) : List Addr := lostAt h.own sender h.roster

/-- The state behind the claim table's part in a MARK. -/
def State.markTabled (h : State) (own : Bool) (sender : Addr) (b : MarkBody) : State :=
  (h.markCompared own b).markTable (h.markCommits b.window) (h.markLost sender) b.window

theorem markRecords_eq (h : State) (own : Bool) (sender : Addr) (b : MarkBody) :
    h.markRecords own sender b = (h.markTabled own sender b).markRoster sender := by
  have plan := (readied_markCompared h own b).plan
  unfold State.markTabled State.markCommits
  rw [← plan]
  rfl

/-- The roster's part in a MARK. -/
theorem markRoster_facts (s : State) (sender : Addr) :
    { s.markRoster sender with window := s.window, roster := s.roster, hall := s.hall, reports := s.reports } = s ∧
    (s.markRoster sender).window = { s.window with asked := [] } ∧
    (s.markRoster sender).roster = s.roster.filterMap (countMissed s.own sender) ∧
    (s.markRoster sender).hall = presenceHall (s.markRoster sender).roster s.hall ∧
    ((s.markRoster sender).hall.presence ≠ s.hall.presence →
      Report.presenceChanged (s.markRoster sender).hall.presence ∈ (s.markRoster sender).reports) ∧
    ∀ r ∈ s.reports, r ∈ (s.markRoster sender).reports := by
  have told : ∀ (l : List Addr) (t : State), ∃ q, l.foldl (fun s a => s.report (.rosterChanged a)) t =
      { t with reports := t.reports ++ q } := by
    intro l
    induction l with
    | nil => exact fun t => ⟨[], by simp⟩
    | cons a l ih =>
      intro t
      obtain ⟨q, rest⟩ := ih (t.report (.rosterChanged a))
      exact ⟨.rosterChanged a :: q, by rw [List.foldl_cons, rest]; simp [State.report]⟩
  obtain ⟨q, news⟩ := told (rosterNews s.roster (s.roster.filterMap (countMissed s.own sender)))
    (s.setRoster (s.roster.filterMap (countMissed s.own sender)))
  have step : s.markRoster sender = ({ s with
      window := { s.window with asked := [] }, roster := s.roster.filterMap (countMissed s.own sender),
      reports := s.reports ++ q } : State).recomputePresence := by
    unfold State.markRoster
    dsimp only
    rw [show (s.setRoster (s.roster.filterMap (countMissed s.own sender))).roster =
      s.roster.filterMap (countMissed s.own sender) from rfl, news]
    rfl
  generalize hu : ({ s with
      window := { s.window with asked := [] }, roster := s.roster.filterMap (countMissed s.own sender),
      reports := s.reports ++ q } : State) = u at step
  obtain ⟨frame, hall, presence, kept⟩ := recomputePresence_facts u
  have roster : u.recomputePresence.roster = u.roster := (congrArg (fun t : State => t.roster) frame).trans rfl
  have window : u.recomputePresence.window = u.window := (congrArg (fun t : State => t.window) frame).trans rfl
  have same : u.hall = s.hall := by rw [← hu]
  rw [step, roster, window, ← same]
  refine ⟨?_, by rw [← hu], by rw [← hu], hall, presence, fun r hr => kept r (by rw [← hu]; exact List.mem_append_left _ hr)⟩
  refine (congrArg (fun t : State => { t with
    window := s.window, roster := s.roster, hall := u.hall, reports := s.reports }) frame).trans ?_
  rw [← hu]

/-- The records behind a MARK of `sender` carrying `m`. -/
structure Recorded (h x : State) (sender : Addr) (m : Window) : Prop where
  clerical : Clerical h x
  window : x.window = { number := m, timer := some 0, expiries := 0, sent := false, asked := [] }
  plan : x.plan = h.planAt m
  claims : x.table.claims =
    h.table.claims.filterMap (markClaim h.roster h.cfg.hall.a (h.markCommits m) (h.markLost sender) m)
  committed : ∀ y ∈ h.ownCommits (h.markCommits m) (h.markLost sender), Report.committed y.2.1 y.2.2 ∈ x.reports
  stale : x.counters.stale =
    min (h.counters.stale + (h.table.claims.filter (staleClaim (h.markLost sender) m)).length) 65535
  roster : x.roster = h.roster.filterMap (countMissed h.own sender)
  hall : x.hall = presenceHall x.roster (if h.sync.status ≠ .synced ∧ x.sync.status = .synced then
    { h.hall with stops := h.hall.stops.map (fun e => { e with restated := true }) } else h.hall)
  presence : x.hall.presence ≠ h.hall.presence → Report.presenceChanged x.hall.presence ∈ x.reports
  trunk : { x.trunk with queue := h.trunk.queue } = h.trunk.counted
  markless : x.markless

/-- The claim table behind a MARK, with its stale claims counted. -/
def State.markClaims (h : State) (own : Bool) (sender : Addr) (b : MarkBody) : State :=
  (h.markCompared own b).tableMarked (h.markCommits b.window) (h.markLost sender) b.window

theorem markTabled_eq (h : State) (own : Bool) (sender : Addr) (b : MarkBody) :
    h.markTabled own sender b =
      ((h.markClaims own sender b).commitAll (h.ownCommits (h.markCommits b.window) (h.markLost sender))).staleAll
        (h.ownStale (h.markLost sender) b.window) := by
  have readied := readied_markCompared h own b
  have own_eq := readied.clerical.own_eq
  refine (markTable_eq (h.markCompared own b) _ _ _).trans ?_
  unfold State.ownCommits State.ownStale
  rw [own_eq, readied.claims]
  rfl

/-- What the role unit hears from the table leaves the records. -/
theorem steady_markTabled (h : State) (own : Bool) (sender : Addr) (b : MarkBody) :
    Steady (h.markClaims own sender b) (h.markTabled own sender b) := by
  rw [markTabled_eq]
  exact (chores_commitAll _ _).steady.trans (steady_staleAll _ _)

theorem clerical_markTabled (h : State) (own : Bool) (sender : Addr) (b : MarkBody) :
    Clerical h (h.markTabled own sender b) := by
  have claimed : ∀ (s : State) (l : List (Addr × Byte × Window)) (d : List Addr), Clerical s (s.tableMarked l d b.window) :=
    fun _ _ _ => rfl
  rw [markTabled_eq]
  exact ((readied_markCompared h own b).clerical.trans (claimed _ _ _)).trans
    ((chores_commitAll _ _).clerical.trans (clerical_staleAll _ _))

/-- From the table's part to the roster's. -/
theorem recorded_markRoster {h s t : State} {sender : Addr} {m : Window} (readied : Readied h s m)
    (steady : Steady (s.tableMarked (h.markCommits m) (h.markLost sender) m) t) (tabled : Clerical h t)
    (heard : ∀ y ∈ h.ownCommits (h.markCommits m) (h.markLost sender), Report.committed y.2.1 y.2.2 ∈ t.reports) :
    Recorded h (t.markRoster sender) sender m := by
  obtain ⟨frame, window, roster, hall, presence, told⟩ := markRoster_facts t sender
  generalize t.markRoster sender = x at *
  have cfg := readied.clerical.cfg_eq
  have status : x.sync.status = s.sync.status :=
    ((congrArg (fun t : State => t.sync.status) frame).trans rfl).trans steady.status
  have rosterOf : t.roster = h.roster := steady.endures.roster.trans readied.roster
  have hallOf : t.hall = s.hall := steady.endures.hall
  have still : t.hall.presence = h.hall.presence := by
    rw [hallOf, readied.hall]
    split <;> rfl
  exact {
    clerical := tabled.trans (by
      have moved := congrArg (fun x : State => { x with
        trunk := t.trunk, plan := t.plan, sync := t.sync, table := t.table, discharge := t.discharge
        filter := t.filter, seq := t.seq, counters := t.counters, port := t.port }) frame
      exact moved)
    window := by
      have before : t.window = s.window := steady.endures.window
      rw [window, before, readied.window]
    plan := ((congrArg (fun t : State => t.plan) frame).trans rfl).trans (steady.endures.plan.trans readied.plan)
    claims := by
      refine ((congrArg (fun t : State => t.table.claims) frame).trans rfl).trans (steady.endures.claims.trans ?_)
      unfold State.tableMarked
      rw [readied.claims, readied.roster, cfg]
      rfl
    committed := fun y hy => told _ (heard y hy)
    stale := by
      refine ((congrArg (fun t : State => t.counters.stale) frame).trans rfl).trans (steady.endures.stale.trans ?_)
      unfold State.tableMarked
      rw [readied.claims, ← readied.stale]
      rfl
    roster := by rw [roster, rosterOf, tabled.own_eq]
    hall := by rw [hall, hallOf, readied.hall, status]
    presence := fun changed => presence (by rwa [still])
    trunk := by
      have moved := congrArg (fun t : State => { t.trunk with queue := h.trunk.queue }) frame
      have before := congrArg (fun k : TrunkState => { k with queue := h.trunk.queue }) steady.trunk
      exact (moved.trans before).trans readied.trunk
    markless := by
      have quiet : (s.tableMarked (h.markCommits m) (h.markLost sender) m).markless := readied.markless
      exact markless_of_queue (steady.endures.markless quiet)
        ((congrArg (fun t : State => t.trunk.queue) frame).trans rfl) }

theorem recorded_markRecords (h : State) (own : Bool) (sender : Addr) (b : MarkBody) :
    Recorded h (h.markRecords own sender b) sender b.window := by
  rw [markRecords_eq]
  refine recorded_markRoster (readied_markCompared h own b) (steady_markTabled h own sender b)
    (clerical_markTabled h own sender b) fun y hy => ?_
  rw [markTabled_eq]
  exact (steady_staleAll _ _).endures.reports _ (committed_commitAll hy _)

end Sys2Proof.Machine
end


section
/-! SUPPORT. Lots, filter and sequencer behind the records' part of a MARK, by role (R119, R122, R127, R131, R138, R142,
R145). -/

namespace Sys2Proof.Machine

/-- The discharge window of an own WAITING claim that the plan of a MARK commits (R47, R119). -/
def State.markCommit (h : State) (m : Window) (id : Byte) : Option Window :=
  if waits h.table.claims h.own id = true then
    (placedNext (h.planAt m).entries m h.own id).map (fun p => minus p.arrival h.cfg.transit)
  else none

/-- An own claim of the id is stale at a MARK (R19). -/
def State.markStale (h : State) (m : Window) (id : Byte) : Bool :=
  h.table.claims.any (fun c => c.owner == h.own && c.id == id &&
    match c.status with
    | .committed w => decide (256 ≤ (w - m).toNat)
    | .waiting => false)

/-- A lot behind a MARK's records. -/
def State.lotMarked (h : State) (m : Window) (l : Lot) : Lot :=
  if (l.status = .claimed ∨ l.status = .committed) ∧ l.claimId.any (h.markStale m) = true then l.unclaim
  else if l.status = .claimed ∧ (l.claimId.bind (h.markCommit m)).isSome = true then
    { l with status := .committed, discharge := l.claimId.bind (h.markCommit m) }
  else l

/-- The filter behind a MARK's records where no flush ends. -/
def State.filterMarked (h : State) (m : Window) : FilterState :=
  if h.filter.claimId.any (h.markStale m) = true then h.filter.unclaim
  else if h.filter.mode = .claimed ∧ (h.filter.claimId.bind (h.markCommit m)).isSome = true then
    { h.filter with mode := .committed, discharge := h.filter.claimId.bind (h.markCommit m) }
  else h.filter

theorem find_markCommit (h : State) (sender : Addr) (m : Window) (id : Byte) :
    ((h.ownCommits (h.markCommits m) (h.markLost sender)).find? (fun x => x.2.1 == id)).map
      (fun x => minus x.2.2 h.cfg.transit) = h.markCommit m id := by
  unfold State.markCommits State.markLost State.markCommit
  rw [find_ownCommits]
  split
  · rw [Option.map_map]
    rfl
  · rfl

theorem any_markStale (h : State) (sender : Addr) (m : Window) (id : Byte) :
    (h.ownStale (h.markLost sender) m).any (fun c => c.id == id) = h.markStale m id :=
  ownStale_any m id

/-! ## As the table's reports come -/

/-- The role unit before the table's reports of a MARK: as it stood when the MARK was taken. -/
structure Awaits (h c : State) : Prop where
  cfg : c.cfg = h.cfg
  discharge : c.discharge = h.discharge
  filter : c.filter = h.filter
  seq : c.seq = h.seq
  short : c.counters.shortDischarges = h.counters.shortDischarges
  roomy : (h.trunk.queue.length ≤ 4 ∧ h.trunk.line = .active ∧ ∀ c, h.sync.status ≠ .excluded c) → c.roomy

/-- A queue of at most four frames has room for the DONE behind PRESENT, HELLO and ASK of the MARK. -/
theorem awaits_tableMarked {h s : State} {m : Window} (idle : Idle 3 h s) (readied : Readied h s m)
    (l : List (Addr × Byte × Window)) (d : List Addr) : Awaits h (s.tableMarked l d m) where
  cfg := readied.clerical.cfg_eq
  discharge := idle.discharge
  filter := idle.filter
  seq := idle.seq
  short := (congrArg (fun c : Counters => c.shortDischarges) idle.counters).trans rfl
  roomy := by
    rintro ⟨few, active, shut⟩
    have line : s.trunk.line = h.trunk.counted.line := (congrArg (fun k : TrunkState => k.line) readied.trunk).trans rfl
    have short : s.trunk.queue.length < 8 := by
      have := idle.length
      omega
    have part : s.sync.status.isExcluded = false := Bool.eq_false_iff.2 fun out => by
      have still := readied.excluded out
      rw [isExcluded_eq_false.2 shut] at still
      cases still
    exact ⟨short, line.trans ((counted_line _).trans active), part⟩

theorem tableMarked_status (s : State) (l : List (Addr × Byte × Window)) (d : List Addr) (m : Window) :
    (s.tableMarked l d m).sync.status = s.sync.status := rfl

theorem spends_tableMarked {h s : State} (spends : Spends h s) (l : List (Addr × Byte × Window)) (d : List Addr)
    (m : Window) :
    { (s.tableMarked l d m).filter with pending := h.filter.pending } = h.filter ∧
    (s.tableMarked l d m).cfg = h.cfg ∧ (s.tableMarked l d m).seq = h.seq ∧
    (s.tableMarked l d m).counters.shortDischarges = h.counters.shortDischarges :=
  ⟨spends.filter, spends.cfg, spends.seq, (congrArg (fun c : Counters => c.shortDischarges) spends.counters).trans rfl⟩

theorem spares_tableMarked {h s : State} (spares : Spares h s) (l : List (Addr × Byte × Window)) (d : List Addr)
    (m : Window) : Spares h (s.tableMarked l d m) :=
  ⟨spares.cfg, spares.discharge, spares.filter, spares.seq⟩

/-- The roster's part leaves the role unit, the sequencer, counters, port and queue. -/
structure Relays (t x : State) : Prop where
  status : x.sync.status = t.sync.status
  discharge : x.discharge = t.discharge
  filter : x.filter = t.filter
  seq : x.seq = t.seq
  counters : x.counters = t.counters
  port : x.port = t.port
  queue : x.trunk.queue = t.trunk.queue

theorem relays_markRoster (t : State) (sender : Addr) : Relays t (t.markRoster sender) := by
  have frame := (markRoster_facts t sender).1
  generalize t.markRoster sender = x at frame
  exact {
    status := (congrArg (fun t : State => t.sync.status) frame).trans rfl
    discharge := (congrArg (fun t : State => t.discharge) frame).trans rfl
    filter := (congrArg (fun t : State => t.filter) frame).trans rfl
    seq := (congrArg (fun t : State => t.seq) frame).trans rfl
    counters := (congrArg (fun t : State => t.counters) frame).trans rfl
    port := (congrArg (fun t : State => t.port) frame).trans rfl
    queue := (congrArg (fun t : State => t.trunk.queue) frame).trans rfl }

section
variable {h x : State} (own : Bool) (sender : Addr) (b : MarkBody)

/-- The table's reports and the roster's part behind the table itself. -/
theorem relays_markRecords (made : h.markRecords own sender b = x) :
    Relays (((h.markClaims own sender b).commitAll (h.ownCommits (h.markCommits b.window) (h.markLost sender))).staleAll
      (h.ownStale (h.markLost sender) b.window)) x := by
  rw [← made, markRecords_eq, ← markTabled_eq]
  exact relays_markRoster _ sender

theorem markRecords_status (made : h.markRecords own sender b = x) :
    x.sync.status = (h.markCompared own b).sync.status := by
  refine (relays_markRecords own sender b made).status.trans ?_
  rw [← markTabled_eq]
  exact (steady_markTabled h own sender b).status.trans (tableMarked_status _ _ _ _)

theorem awaits_markClaims (made : h.markRecords own sender b = x) (role : h.cfg.role ≠ .crusher)
    (agreed : x.sync.status = .diverged → h.sync.status = .diverged) : Awaits h (h.markClaims own sender b) := by
  rw [markRecords_status own sender b made] at agreed
  exact awaits_tableMarked (idle_markCompared own b role agreed) (readied_markCompared h own b) _ _

theorem exists_ownStale {m : Window} {id : Byte} (gone : h.markStale m id = true) :
    ∃ c ∈ h.ownStale (h.markLost sender) m, c.id = id := by
  rw [← any_markStale h sender] at gone
  simpa using gone

theorem markStale_of_mem {m : Window} {c : Claim} (hc : c ∈ h.ownStale (h.markLost sender) m) :
    h.markStale m c.id = true := by
  rw [← any_markStale h sender]
  exact List.any_eq_true.2 ⟨c, hc, beq_self_eq_true _⟩

/-! ## Discharge station -/

/-- A lot that has heard of commitments and of stale claims. -/
theorem lotMarked_eq (m : Window) (l : Lot) :
    (h.ownStale (h.markLost sender) m).foldl Lot.dropOne
      ((h.ownCommits (h.markCommits m) (h.markLost sender)).foldl (Lot.commitOne h.cfg.transit) l) = h.lotMarked m l :=
  lot_marked (find_markCommit h sender m) (any_markStale h sender m) l

/-- No discharge is ended: every lot hears what concerns it. -/
theorem markRecords_lots (made : h.markRecords own sender b = x) (role : h.cfg.role = .discharge)
    (agreed : x.sync.status = .diverged → h.sync.status = .diverged)
    (whole : ∀ p, h.discharge.progress = some p → h.markStale b.window p.id = false) :
    x.discharge = { h.discharge with lots := h.discharge.lots.map (h.lotMarked b.window) } ∧ x.seq = h.seq := by
  have awaits := awaits_markClaims own sender b made (by rw [role]; nofun) agreed
  have relays := relays_markRecords own sender b made
  generalize h.markClaims own sender b = c at awaits relays
  have heard := commitAll_discharge (h.ownCommits (h.markCommits b.window) (h.markLost sender)) (s := c)
    (by rw [awaits.cfg, role])
  generalize c.commitAll (h.ownCommits (h.markCommits b.window) (h.markLost sender)) = u at heard relays
  have lots : u.discharge.lots = h.discharge.lots.map (fun l =>
      (h.ownCommits (h.markCommits b.window) (h.markLost sender)).foldl (Lot.commitOne h.cfg.transit) l) := by
    rw [heard, ← awaits.cfg, ← awaits.discharge]
    rfl
  have rest : { u.discharge with lots := h.discharge.lots } = h.discharge := by
    rw [heard, ← awaits.discharge]
    rfl
  have progress : u.discharge.progress = h.discharge.progress := by
    rw [heard, ← awaits.discharge]
    rfl
  have cfg : u.cfg = h.cfg := by
    rw [heard, ← awaits.cfg]
    rfl
  have seq : u.seq = h.seq := by
    rw [heard, ← awaits.seq]
    rfl
  have dropped := staleAll_discharge (h.ownStale (h.markLost sender) b.window) (s := u) (by rw [cfg, role])
    (by
      rw [progress]
      intro p hp d hd same
      have named := markStale_of_mem sender hd
      rw [← same, whole p hp] at named
      cases named)
  generalize u.staleAll (h.ownStale (h.markLost sender) b.window) = t at dropped relays
  constructor
  · have mapped : t.discharge = { u.discharge with
        lots := u.discharge.lots.map (fun l => (h.ownStale (h.markLost sender) b.window).foldl Lot.dropOne l) } := by
      rw [dropped]
      rfl
    have both : (h.discharge.lots.map (fun l =>
        (h.ownCommits (h.markCommits b.window) (h.markLost sender)).foldl (Lot.commitOne h.cfg.transit) l)).map
          (fun l => (h.ownStale (h.markLost sender) b.window).foldl Lot.dropOne l) =
            h.discharge.lots.map (h.lotMarked b.window) := by
      rw [List.map_map]
      exact List.map_congr_left fun l _ => lotMarked_eq sender b.window l
    rw [relays.discharge, mapped, lots, both]
    exact congrArg (fun d : DischargeState => { d with lots := h.discharge.lots.map (h.lotMarked b.window) }) rest
  · rw [relays.seq, dropped]
    exact seq

theorem foldl_commitOne_claimId (transit : Nat) (l : List (Addr × Byte × Window)) (lot : Lot) :
    (l.foldl (Lot.commitOne transit) lot).claimId = lot.claimId := by
  induction l generalizing lot with
  | nil => rfl
  | cons x l ih =>
    rw [List.foldl_cons, ih]
    unfold Lot.commitOne
    split <;> rfl

/-- The discharge under way ends short: its claim is stale. -/
theorem markRecords_endsShort (made : h.markRecords own sender b = x) (role : h.cfg.role = .discharge)
    (agreed : x.sync.status = .diverged → h.sync.status = .diverged)
    {p : Discharging} {l : Lot} {k : List Lot} (progress : h.discharge.progress = some p)
    (gone : h.markStale b.window p.id = true) (lots : h.discharge.lots = l :: k) (busy : l.status = .discharging) :
    x.discharge.progress = none ∧ x.seq = (h.seq.cancel .discharge).seq ∧
    x.counters.shortDischarges = min (h.counters.shortDischarges + 1) 65535 ∧ x.port.flags.getLsbD 5 = true ∧
    x.discharge.lots.head? = some (l.remainderOf p.travel (h.boundsOf l.cls).min) ∧
    (h.trunk.queue.length ≤ 4 ∧ h.trunk.line = .active ∧ (∀ c, h.sync.status ≠ .excluded c) →
      ((∀ q ∈ k, q.claimId ≠ some p.id) → x.discharge.lots.tail = k.map (h.lotMarked b.window)) ∧
      ⟨shortDone p l, false⟩ ∈ x.discharge.pending ∧ ∃ f ∈ x.trunk.queue, f.body = .done (shortDone p l)) := by
  have awaits := awaits_markClaims own sender b made (by rw [role]; nofun) agreed
  have relays := relays_markRecords own sender b made
  generalize h.markClaims own sender b = c at awaits relays
  have heard := commitAll_discharge (h.ownCommits (h.markCommits b.window) (h.markLost sender)) (s := c)
    (by rw [awaits.cfg, role])
  generalize c.commitAll (h.ownCommits (h.markCommits b.window) (h.markLost sender)) = u at heard relays
  have head : (h.ownCommits (h.markCommits b.window) (h.markLost sender)).foldl (Lot.commitOne h.cfg.transit) l = l := by
    rw [lot_committed (find_markCommit h sender b.window), if_neg (by simp [busy])]
  have lotsU : u.discharge.lots = l :: k.map (fun q =>
      (h.ownCommits (h.markCommits b.window) (h.markLost sender)).foldl (Lot.commitOne h.cfg.transit) q) := by
    have all : u.discharge.lots = c.discharge.lots.map (fun q =>
        (h.ownCommits (h.markCommits b.window) (h.markLost sender)).foldl (Lot.commitOne c.cfg.transit) q) := by
      rw [heard]
      rfl
    rw [all, awaits.discharge, awaits.cfg, lots, List.map_cons, head]
  have progressU : u.discharge.progress = some p := by
    rw [heard, ← progress, ← awaits.discharge]
    rfl
  have cfg : u.cfg = h.cfg := by
    rw [heard, ← awaits.cfg]
    rfl
  have seq : u.seq = h.seq := by
    rw [heard, ← awaits.seq]
    rfl
  have short : u.counters.shortDischarges = h.counters.shortDischarges := by
    rw [heard, ← awaits.short]
    rfl
  have roomy : c.roomy → u.roomy := by
    rw [heard]
    exact fun room => room
  have ends := endsShort_staleAll (h.ownStale (h.markLost sender) b.window) (s := u) (by rw [cfg, role]) progressU lotsU
    busy (exists_ownStale sender gone)
  generalize u.staleAll (h.ownStale (h.markLost sender) b.window) = t at ends relays
  have bounds : u.boundsOf l.cls = h.boundsOf l.cls := by
    unfold State.boundsOf
    rw [cfg]
  rw [relays.discharge, relays.seq, relays.counters, relays.port, relays.queue, ← seq, ← short, ← bounds]
  refine ⟨ends.progress, ends.seq, ends.counted, ends.raised, ends.head, fun room => ⟨fun free => ?_, ?_, ?_⟩⟩
  · rw [ends.tail (roomy (awaits.roomy room)) ?_, List.map_map]
    · exact List.map_congr_left fun q _ => lotMarked_eq sender b.window q
    · intro q hq
      obtain ⟨y, hy, rfl⟩ := List.mem_map.1 hq
      rw [foldl_commitOne_claimId]
      exact free y hy
  · exact ends.pending (roomy (awaits.roomy room))
  · exact ends.queued (roomy (awaits.roomy room))

/-! ## Filter station -/

/-- No flush is ended: the filter hears what concerns it. -/
theorem markRecords_filter (made : h.markRecords own sender b = x) (role : h.cfg.role = .filter)
    (agreed : x.sync.status = .diverged → h.sync.status = .diverged)
    (whole : h.filter.mode = .flushing → ∀ id, h.filter.claimId = some id → h.markStale b.window id = false) :
    x.seq = h.seq ∧ x.filter = h.filterMarked b.window := by
  have awaits := awaits_markClaims own sender b made (by rw [role]; nofun) agreed
  have relays := relays_markRecords own sender b made
  generalize h.markClaims own sender b = c at awaits relays
  have heard := commitAll_filter (h.ownCommits (h.markCommits b.window) (h.markLost sender)) (s := c)
    (by rw [awaits.cfg, role])
  rw [awaits.cfg, awaits.filter] at heard
  generalize c.commitAll (h.ownCommits (h.markCommits b.window) (h.markLost sender)) = u at heard relays
  have filter : u.filter = (h.ownCommits (h.markCommits b.window) (h.markLost sender)).foldl
      (FilterState.commitOne h.cfg.transit) h.filter := by rw [heard]
  have still : u.filter.mode = .flushing → u.filter = h.filter := by
    rw [filter, filter_committed (find_markCommit h sender b.window)]
    split
    · exact nofun
    · exact fun _ => rfl
  have cfg : u.cfg = h.cfg := by rw [heard]
  have seq : u.seq = h.seq := by
    rw [heard, ← awaits.seq]
  have dropped := staleAll_filter (h.ownStale (h.markLost sender) b.window) (s := u) (by rw [cfg, role])
    (fun running d hd claim => by
      have same := still running
      rw [same] at running claim
      have named := markStale_of_mem sender hd
      rw [whole running d.id claim] at named
      cases named)
  generalize u.staleAll (h.ownStale (h.markLost sender) b.window) = t at dropped relays
  constructor
  · rw [relays.seq, dropped]
    exact seq
  · rw [relays.filter, dropped, filter]
    exact filter_marked (find_markCommit h sender b.window) (any_markStale h sender b.window) _

theorem shortFlush_congr {s t : State} (cfg : t.cfg = s.cfg) (seq : t.seq = s.seq) (p : Flushing) :
    t.shortFlush p = s.shortFlush p := by
  unfold State.shortFlush State.flushedVolume State.flushElapsed State.flushTicks
  rw [cfg, seq]

/-- The flush under way ends short: its claim is stale. -/
theorem markRecords_flushEnds (made : h.markRecords own sender b = x) (role : h.cfg.role = .filter) {p : Flushing}
    {id : Byte} (progress : h.filter.progress = some p) (running : h.filter.mode = .flushing)
    (claim : h.filter.claimId = some id) (gone : h.markStale b.window id = true) :
    { x.filter with pending := h.filter.pending } = { h.filter with
      progress := none, claimId := none, discharge := none, mode := .settling, settle := 1 } ∧
    x.seq = (h.seq.cancel .flush).seq ∧
    x.counters.shortDischarges = min (h.counters.shortDischarges + 1) 65535 ∧
    ((x.sync.status = .diverged → h.sync.status = .diverged) →
      (h.trunk.queue.length ≤ 4 ∧ h.trunk.line = .active ∧ ∀ c, h.sync.status ≠ .excluded c) →
      x.filter.pending = some ⟨h.shortFlush p, false⟩ ∧ ∃ f ∈ x.trunk.queue, f.body = .done (h.shortFlush p)) := by
  have awaits := awaits_markClaims own sender b made (by rw [role]; nofun)
  have relays := relays_markRecords own sender b made
  obtain ⟨before, cfgC, seqC, shortC⟩ := spends_tableMarked (spends_markCompared own b role running)
    (h.markCommits b.window) (h.markLost sender) b.window
  change { (h.markClaims own sender b).filter with pending := h.filter.pending } = h.filter at before
  change (h.markClaims own sender b).cfg = h.cfg at cfgC
  change (h.markClaims own sender b).seq = h.seq at seqC
  change (h.markClaims own sender b).counters.shortDischarges = h.counters.shortDischarges at shortC
  generalize h.markClaims own sender b = c at awaits relays before cfgC seqC shortC
  have mode : c.filter.mode = .flushing := ((congrArg (fun u : FilterState => u.mode) before).trans rfl).trans running
  have heard := commitAll_filter (h.ownCommits (h.markCommits b.window) (h.markLost sender)) (s := c)
    (by rw [cfgC, role])
  rw [foldl_commitOne_filter, List.find?_eq_none.2 (by simp [mode]), Option.elim_none] at heard
  generalize c.commitAll (h.ownCommits (h.markCommits b.window) (h.markLost sender)) = u at heard relays
  have filter : { u.filter with pending := h.filter.pending } = h.filter := by rw [heard]; exact before
  have cfg : u.cfg = h.cfg := by rw [heard]; exact cfgC
  have seq : u.seq = h.seq := by rw [heard]; exact seqC
  have short : u.counters.shortDischarges = h.counters.shortDischarges := by rw [heard]; exact shortC
  have roomy : c.roomy → u.roomy := by
    rw [heard]
    exact fun room => room
  have ends := flushEnds_staleAll (h.ownStale (h.markLost sender) b.window) (s := u) (p := p) (id := id)
    (by rw [cfg, role])
    (((congrArg (fun u : FilterState => u.progress) filter).trans rfl).trans progress)
    (((congrArg (fun u : FilterState => u.mode) filter).trans rfl).trans running)
    (((congrArg (fun u : FilterState => u.claimId) filter).trans rfl).trans claim) (exists_ownStale sender gone)
  generalize u.staleAll (h.ownStale (h.markLost sender) b.window) = t at ends relays
  rw [relays.filter, relays.seq, relays.counters, relays.queue, ← shortFlush_congr cfg seq p, ← seq, ← short]
  refine ⟨?_, ends.seq, ends.counted, fun agreed room => ?_⟩
  · refine (congrArg (fun u : FilterState => { u with pending := h.filter.pending }) ends.filter).trans ?_
    exact congrArg (fun u : FilterState => { u with
      progress := none, claimId := none, discharge := none, mode := .settling, settle := 1 }) filter
  · have room := roomy ((awaits agreed).roomy room)
    exact ⟨ends.pending room, ends.queued room⟩

/-! ## Crusher -/

/-- A crusher has no lots, no filter and no operation that a stale claim could end. -/
theorem markRecords_crusher (made : h.markRecords own sender b = x) (role : h.cfg.role = .crusher) :
    x.discharge = h.discharge ∧ x.filter = h.filter ∧ x.seq = h.seq := by
  have relays := relays_markRecords own sender b made
  have claims : Spares h (h.markClaims own sender b) := spares_tableMarked (spares_markCompared own b role) _ _ _
  generalize h.markClaims own sender b = c at relays claims
  have heard := commitAll_crusher (h.ownCommits (h.markCommits b.window) (h.markLost sender)) (s := c)
    (by rw [claims.cfg, role])
  generalize c.commitAll (h.ownCommits (h.markCommits b.window) (h.markLost sender)) = u at heard relays
  have spared : Spares h u := by
    rw [heard]
    exact ⟨claims.cfg, claims.discharge, claims.filter, claims.seq⟩
  have dropped := staleAll_crusher (h.ownStale (h.markLost sender) b.window) (s := u) (by rw [spared.cfg, role])
  rw [relays.discharge, relays.filter, relays.seq, dropped]
  exact ⟨spared.discharge, spared.filter, spared.seq⟩

end

end Sys2Proof.Machine
end


section
/-! O9: what taking a MARK makes of the station. -/

namespace Sys2Proof.Machine

/-! ## The clauses in the statement's terms -/

/-- A roster entry behind a MARK (R67). -/
theorem countMissed_eq (own sender : Addr) (e : RosterEntry) :
    countMissed own sender e =
      if e.addr = own then some { e with heard := false }
      else if e.heard = true ∨ e.addr = sender then
        some { e with heard := false, missed := 0, status := if e.isExcluded then e.status else .present }
      else if 2 ≤ e.missed then none
      else some { e with
        heard := false, missed := e.missed + 1, status := if e.isExcluded then e.status else .silent } := by
  have heard : heardBy sender e = true ↔ e.heard = true ∨ e.addr = sender := by simp [heardBy]
  unfold countMissed
  simp only [heard]

/-- The stale claims that the table counts (R19, R20). -/
theorem staleClaim_eq (h : State) (sender : Addr) (m : Window) (c : Claim) :
    staleClaim (h.markLost sender) m c = (!lostStation h.own sender h.roster c.owner &&
      match c.status with
      | .committed w => decide (256 ≤ (w - m).toNat)
      | .waiting => false) := by
  unfold staleClaim State.markLost
  rw [lostAt_contains]
  cases c.status with
  | committed w => simp only [staleAt_eq]
  | waiting => rfl

/-- WAITING as the table tests it. -/
theorem waits_eq (claims : List Claim) (a : Addr) (id : Byte) :
    waits claims a id = claims.any (fun c => c.owner == a && c.id == id && c.status == .waiting) := by
  unfold waits
  congr 1
  funext c
  congr 1
  unfold Claim.isCommitted
  cases c.status <;> rfl

/-- The discharge window of a commitment, as the placement gives it. -/
theorem markCommit_eq (h : State) (m : Window) (id : Byte) :
    h.markCommit m id =
      if h.table.claims.any (fun c => c.owner == h.own && c.id == id && c.status == .waiting) = true then
        ((placementsOf (h.planAt m).entries).find? (fun p =>
          p.owner == h.own && p.id == id && p.discharge == m + 1)).map
            (fun p => p.arrival - BitVec.ofNat 16 h.cfg.transit)
      else none := by
  unfold State.markCommit
  rw [waits_eq]
  rfl

/-- The role unit's part behind the DONEs requested again keeps the role. -/
theorem requestDones_role (s : State) (l : List DoneBody) : (s.requestDones l).cfg.role = s.cfg.role :=
  congrArg Config.role (chores_requestDones s l).works.untouched.cfg

/-- The second half of O9: what the role unit's part is made of. -/
theorem markRole_parts (s : State) (settling again : Bool) (dones : List DoneBody) (m : Window) :
    let u := dones.foldl (fun s b => s.request (.done b) .role) s
    let v := match s.cfg.role with
      | .discharge => u.markDischarge m
      | .filter => u.markFilter settling m
      | .crusher => u.markCrusher m
    s.markRole settling again dones m = if again then v.withdrawCommitted else v := by
  intro u v
  have unit : u.markUnit settling m = v :=
    congrArg (fun r : Role => match r with
      | .discharge => u.markDischarge m
      | .filter => u.markFilter settling m
      | .crusher => u.markCrusher m) (requestDones_role s dones)
  rw [← unit]
  exact markRole_eq s settling again dones m

/-- The fourth MARK ends the confinement (R81). -/
theorem markConfined_line {k : TrunkState} {z : State} (counted : { z.trunk with queue := k.queue } = k.counted)
    (listening : k.line = .listenOnly) :
    if k.confMarks + 1 < 4 then
      z.markConfined.trunk.line = .listenOnly ∧ z.markConfined.trunk.confMarks = k.confMarks + 1 ∧
        z.markConfined.trunk.confExpiries = 0
    else z.markConfined.trunk.line = .active ∧ z.markConfined.trunk.failCount = 0 := by
  rw [TrunkState.counted, if_pos listening] at counted
  have line : z.trunk.line = .listenOnly := ((congrArg (fun t : TrunkState => t.line) counted).trans rfl).trans listening
  have marks : z.trunk.confMarks = k.confMarks + 1 := (congrArg (fun t : TrunkState => t.confMarks) counted).trans rfl
  have expiries : z.trunk.confExpiries = 0 := (congrArg (fun t : TrunkState => t.confExpiries) counted).trans rfl
  split
  · rename_i few
    have stays : z.markConfined = z := if_neg (fun both => by omega)
    rw [stays]
    exact ⟨line, marks, expiries⟩
  · rename_i fourth
    have opens : z.markConfined = z.endConfinement := if_pos ⟨line, by omega⟩
    rw [opens]
    exact (endConfinement_facts z).2.2

/-- Settles O9: `recorded_markRecords` says what the records' part makes of the station, the `markRecords_` lemmas what the
role unit has of it, and the parts behind it leave the records alone (`Endures`). -/
theorem markTaken : Obligations.MarkTaken := by
  refine ⟨fun rx s h own a b arrives => ?_, markRole_parts⟩
  have answer : exec (.mark rx) s = .next ((h.takeMark own a b).concluded s.seq) :=
    congrArg Host.Outcome.next (event_of_arrival State.takeMark arrives)
  refine ⟨fun shut => ?_, fun heard => ?_⟩
  · rw [answer, State.takeMark, if_pos shut]
  intro m lost past lostDones x z y stale room
  have taken : h.takeMark own a b = y := by
    rw [State.takeMark, if_neg (by simp [heard])]
    rfl
  have made : h.markRecords own a b = x := rfl
  have recorded : Recorded h x a m := recorded_markRecords h own a b
  clear_value x
  have role : Steady x z := steady_markRole x _ _ _ _
  have moded := markMode_facts z
  have confined := markConfined_facts z.markMode
  have ended : Endures y (y.concluded s.seq) := endures_concluded s.seq y
  have mode : z.mode = h.mode := role.mode.trans recorded.clerical.mode_eq
  have line : { z.markMode.trunk with queue := h.trunk.queue } = h.trunk.counted := by
    have first := congrArg (fun k : TrunkState => { k with queue := h.trunk.queue }) moded.2.1
    have second := congrArg (fun k : TrunkState => { k with queue := h.trunk.queue }) role.trunk
    exact first.trans (second.trans recorded.trunk)
  have later : Endures x (y.concluded s.seq) := (role.endures.trans (moded.1.trans confined.1)).trans ended
  refine ⟨y.concluded s.seq, by rw [answer, taken], rfl, later.window.trans recorded.window,
    later.markless recorded.markless, later.plan.trans recorded.plan, later.plan.symm, later.window.symm,
    later.claims.symm, later.roster.symm, ?claims, recorded.clerical, ?units, ?stales, ?roster, later.hall, ?hall,
    ?presence, ?leaving, ?mode, ?line⟩
  case claims =>
    have plan : (y.concluded s.seq).plan = h.planAt m := later.plan.trans recorded.plan
    intro placed
    have entries : placed = placementsOf (h.planAt m).entries := congrArg (fun q : PlanState => placementsOf q.entries) plan
    clear_value placed
    subst entries
    refine ⟨later.claims.trans (recorded.claims.trans (List.filterMap_congr fun c hc => ?_)),
      fun c hc p hp mine waiting owner id next => ?_⟩
    · refine (markClaim_eq (sender := a) (h.planAt m).entries m hc).trans ?_
      obtain ⟨_, _, _, _, _, _, _, _, _, status, _⟩ := c
      cases status with
      | committed w => rfl
      | waiting => rfl
    · have held : waits h.table.claims p.owner p.id = true :=
        List.any_eq_true.2 ⟨c, hc, by simp [owner, id, waiting, Claim.isCommitted]⟩
      exact later.reports _ (recorded.committed (p.owner, p.id, p.arrival)
        (mem_ownCommits (sender := a) hp (owner.trans mine) held next))
  case units =>
    intro commit lotAfter
    have plan : (y.concluded s.seq).plan = h.planAt m := later.plan.trans recorded.plan
    have commits : ∀ o, commit o = o.bind (h.markCommit m) := by
      intro o
      cases o with
      | none => rfl
      | some id =>
        refine Eq.trans ?_ (markCommit_eq h m id).symm
        rw [← plan]
        rfl
    have lots : lotAfter = h.lotMarked m := by
      funext l
      unfold State.lotMarked
      simp only [← commits]
      rfl
    refine ⟨fun discharge agreed => ⟨fun whole => ?_, fun p l k progress gone head busy => ?_⟩,
      fun filter => ⟨fun agreed whole => ?_, fun p id progress running claim gone => ?_⟩,
      fun crusher => markRecords_crusher own a b made crusher⟩
    · rw [lots]
      exact markRecords_lots own a b made discharge agreed whole
    · rw [lots]
      exact markRecords_endsShort own a b made discharge agreed progress gone head busy
    · rw [commits]
      exact markRecords_filter own a b made filter agreed whole
    · exact markRecords_flushEnds own a b made filter progress running claim gone
  case stales =>
    refine later.stale.trans (recorded.stale.trans ?_)
    rw [List.filter_congr fun c _ => staleClaim_eq h a m c]
    rfl
  case roster =>
    exact later.roster.trans (recorded.roster.trans (List.filterMap_congr fun e _ => countMissed_eq h.own a e))
  case hall =>
    refine (later.hall.trans recorded.hall).trans ?_
    rw [later.roster]
    rfl
  case presence =>
    rw [later.hall]
    exact fun changed => later.reports _ (recorded.presence changed)
  case leaving => exact fun leaving => markMode_leaving ((congrArg ModeState.mode mode).trans leaving)
  case mode => exact confined.2.trans (moded.2.2.trans (by rw [mode]))
  case line => exact markConfined_line line

end Sys2Proof.Machine
end


section
/-! SUPPORT. Which frames of a given body the queue may hold after requests and withdrawals of other frames (R82 to R87),
and what a withdrawal of waiting frames leaves of the queue. -/

namespace Sys2Proof.Machine

/-! ## Requests for other frames -/

/-- A settled request leaves the frames of other bodies as they were, and enters none of them. -/
theorem mem_of_mem_settleRequest {q : List QFrame} {f g : QFrame} {holds : Byte → Bool}
    (h : g ∈ (settleRequest q f holds).queue) (other : g.body ≠ f.body) : g ∈ q := by
  have entered : ∀ {l : List QFrame}, g ∈ (enter l f).queue → g ∈ l := fun hg =>
    (mem_enter hg).resolve_right (fun e => other (congrArg QFrame.body e))
  have built : g ∈ (if q.any (fun g => g.body = f.body) then
      (⟨if f.body = .gate then q.map markFollowUp else q, .absorbed, []⟩ : QResult) else enter q f).queue →
      g ∈ q := by
    intro h
    split at h
    · dsimp only at h
      split at h
      · rename_i gate
        obtain ⟨x, hx, rfl⟩ := List.mem_map.1 h
        unfold markFollowUp at other ⊢
        split at other
        · rename_i flying
          exact absurd (flying.1.trans gate.symm) other
        · rename_i same
          rwa [if_neg same]
      · exact h
    · exact entered h
  unfold settleRequest at h
  split at h
  · exact built h
  · exact built h
  · exact built h
  · exact built h
  · split at h
    · obtain ⟨x, hx, rfl⟩ := List.mem_map.1 h
      split at other
      · exact absurd rfl other
      · rename_i same
        rwa [if_neg same]
    · exact entered h
  · dsimp only at h
    split at h
    · exact (List.mem_filter.1 h).1
    · split at h
      · exact (List.mem_filter.1 h).1
      · exact (List.mem_filter.1 (entered h)).1
  · exact entered h

/-- Every frame of the body `x` in `t`'s queue stands as it is in `s`'s. -/
def BringsNo (x : QBody) (s t : State) : Prop := ∀ f ∈ t.trunk.queue, f.body = x → f ∈ s.trunk.queue

theorem BringsNo.of_queue_eq {x : QBody} {s t : State} (h : t.trunk.queue = s.trunk.queue) : BringsNo x s t :=
  fun _ hf _ => h ▸ hf

theorem BringsNo.refl (x : QBody) (s : State) : BringsNo x s s := .of_queue_eq rfl

theorem BringsNo.trans {x : QBody} {a b c : State} (h : BringsNo x a b) (k : BringsNo x b c) : BringsNo x a c :=
  fun f hf body => h f (k f hf body) body

section
variable {x : QBody} (s : State)

theorem bringsNo_request {b : QBody} (other : x ≠ b) (who : Block) (u : Bool) : BringsNo x s (s.request b who u) := by
  intro f hf body
  rw [request_queue] at hf
  unfold State.settleOf at hf
  split at hf
  · exact hf
  · split at hf
    · exact hf
    · exact mem_of_mem_settleRequest hf (fun e => other (body.symm.trans e))

theorem bringsNo_pull {p : QFrame → Bool} (spared : ∀ f : QFrame, f.body = x → p f = false) :
    BringsNo x s (s.pull p) := by
  intro f hf body
  rw [pull_queue] at hf
  obtain ⟨g, hg, rfl⟩ := List.mem_map.1 hf
  have same : g.body = x := by
    split at body <;> exact body
  rw [if_neg (by simp [spared g same])]
  exact (List.mem_filter.1 hg).1

theorem bringsNo_requestGate (other : x ≠ .gate) : BringsNo x s s.requestGate := by
  unfold State.requestGate
  split
  · exact bringsNo_request s other _ _
  · exact .refl x s

/-- The comparison of R156 calls for a STOP or a RELEASE. -/
theorem stopCall_kind {own : Addr} {entry wanted : Option StopCause} {b : QBody}
    (h : stopCall own entry wanted = some b) : b.kind = .stop ∨ b.kind = .release := by
  unfold stopCall at h
  split at h
  · cases h
  · cases h
  · cases h
    exact .inr rfl
  · cases h
    exact .inl rfl
  · split at h
    · cases h
    · cases h
      exact .inl rfl

theorem bringsNo_compareStop (other : ¬(x.kind = .stop ∨ x.kind = .release)) : BringsNo x s s.compareStop := by
  unfold State.compareStop
  split
  · split
    · rename_i b call
      have spared : ∀ f : QFrame, f.body = x → ((f.unitStop && f.body != b) && f.waiting) = false := by
        rintro f rfl
        have no : f.unitStop = false := by
          rw [not_or] at other
          simp [QFrame.unitStop, other]
        rw [no, Bool.false_and, Bool.false_and]
      have called : x ≠ b := fun e => other (e ▸ stopCall_kind call)
      have pulled := bringsNo_pull s spared
      dsimp only
      split
      · exact pulled
      · exact pulled.trans (bringsNo_request _ called _ _)
    · exact .refl x s
  · exact .refl x s

theorem bringsNo_tellHall (gate : x ≠ .gate) (stop : ¬(x.kind = .stop ∨ x.kind = .release)) :
    BringsNo x s s.tellHall :=
  (bringsNo_requestGate s gate).trans (bringsNo_compareStop _ stop)

/-! ## Withdrawals of waiting frames -/

/-- A withdrawal of waiting frames leaves the others as they are. -/
theorem pullWaiting_queue (p : QFrame → Bool) :
    (s.pullWaiting p).trunk.queue = s.trunk.queue.filter (fun f => !(p f && f.waiting)) := by
  unfold State.pullWaiting
  rw [pull_queue]
  have twice : (fun f : QFrame => !((p f && f.waiting) && f.waiting)) = fun f => !(p f && f.waiting) := by
    funext f
    rw [Bool.and_assoc, Bool.and_self]
  rw [twice]
  refine (List.map_congr_left (fun f hf => ?_)).trans (List.map_id _)
  have kept := (List.mem_filter.1 hf).2
  refine if_neg fun gone => ?_
  rw [gone] at kept
  cases kept

end

end Sys2Proof.Machine
end


section
/-! O6 to O8: what the end of a frame does before the blocks take it. O14: a PRESENT that the blocks take. -/

namespace Sys2Proof.Machine

/-! ## A peer's frame (R58, R65, R73 to R75, R79) -/

/-- The frame end of a valid frame: counted, a new cycle begun, the failure hold ended (R73, R74, R79). -/
def State.frameCounted (s : State) (sender : Addr) : State :=
  s.countValid.mapTrunk (fun t => { t.frameEnd (t.lastHeard sender) with failHold := false })

/-- The roster asks where the station is SYNCED and ACTIVE, the address is unknown, and it was not asked yet (R65). -/
theorem askUnknown_eq (s : State) (a : Addr) :
    s.askUnknown a =
      if s.sync.status = .synced ∧ s.trunk.line = .active ∧ entryOf s.roster a = none ∧ a ∉ s.window.asked then
        { s with window := { s.window with asked := s.window.asked ++ [a] } }.request (.ask (askHello a)) .roster
      else s := by
  unfold State.askUnknown
  exact if_congr (by simp [State.lineActive, and_assoc]) rfl rfl

/-- The ASK notes the address in the asked set, and is a request. -/
theorem untouched_askUnknown (s : State) (a : Addr) :
    Untouched { s with window := (s.askUnknown a).window } (s.askUnknown a) := by
  rw [askUnknown_eq]
  split
  · have asked := untouched_request { s with window := { s.window with asked := s.window.asked ++ [a] } }
      (.ask (askHello a)) .roster false
    rw [asked.window]
    exact asked
  · exact .refl s

/-- A valid frame before an address conflict is looked at. -/
def State.frameHeard (s : State) (sender : Addr) (informs : Bool) : State :=
  let u := (s.frameCounted sender).hear sender
  if informs then u else u.askUnknown sender

theorem untouched_frameHeard (s : State) (a : Addr) (informs : Bool) :
    Untouched { (s.frameCounted a).hear a with window := (s.frameHeard a informs).window }
      (s.frameHeard a informs) := by
  cases informs
  · exact untouched_askUnknown _ a
  · exact .refl _

theorem hear_own (s : State) (a : Addr) : (s.hear a).own = s.own := by
  unfold State.hear
  split <;> rfl

/-- A frame under the station's own address, and no other, is a conflict (R66). -/
theorem hearFrame_eq (s : State) (a : Addr) (informs : Bool) :
    s.hearFrame a informs = if a = s.own then (s.frameHeard a informs).onConflict else s.frameHeard a informs := by
  have own : (s.frameHeard a informs).own = s.own :=
    (untouched_frameHeard s a informs).own_eq.trans (hear_own (s.frameCounted a) a)
  rw [← own]
  rfl

/-- Settles O6: the frame end and `hear` give the state named, and `askUnknown_eq` says when the ASK follows. -/
theorem peerFrameHeard : Obligations.PeerFrameHeard := by
  intro s a informs peer h
  have heard : (s.frameCounted a).hear a = h := if_neg peer
  have entry : entryOf h.roster a = none ↔ entryOf s.roster a = none := by
    have same := entryOf_map (f := fun e => if e.addr = a then { e with heard := true } else e)
      (fun e => by split <;> rfl) s.roster a
    exact (congrArg (· = none) same).to_iff.trans Option.map_eq_none_iff
  rw [hearFrame_eq, if_neg peer]
  split
  · rename_i asks
    obtain ⟨rfl, synced, active, unknown, unasked⟩ := asks
    change ((s.frameCounted a).hear a).askUnknown a = _
    rw [heard, askUnknown_eq]
    exact if_pos ⟨synced, active, entry.2 unknown, unasked⟩
  · rename_i silent
    cases informs with
    | true => exact heard
    | false =>
      change ((s.frameCounted a).hear a).askUnknown a = h
      rw [heard, askUnknown_eq]
      exact if_neg fun ⟨synced, active, unknown, unasked⟩ => silent ⟨rfl, synced, active, entry.1 unknown, unasked⟩

/-! ## The own address under another station's frame (R66, R93, R95) -/

/-- A LISTENING, SYNCING or DIVERGED station excludes itself. -/
theorem onConflict_excludes {s : State}
    (h : s.sync.status = .listening ∨ s.sync.status = .syncing ∨ s.sync.status = .diverged) :
    s.onConflict = (s.report .addressConflict).enterExcluded .address := by
  unfold State.onConflict
  dsimp only
  rcases h with h | h | h <;> rw [report_sync, h]

/-- A SYNCED or EXCLUDED one reports the conflict, and no more. -/
theorem onConflict_reports {s : State} (h : s.sync.status = .synced ∨ ∃ c, s.sync.status = .excluded c) :
    s.onConflict = s.report .addressConflict := by
  unfold State.onConflict
  dsimp only
  rcases h with h | ⟨c, h⟩ <;> rw [report_sync, h]

/-- Settles O7: the frame end leaves sync state, claims, roster and hall, and `Expelled` says the rest. -/
theorem ownAddressHeard : Obligations.OwnAddressHeard := by
  intro s informs
  rw [hearFrame_eq, if_pos rfl]
  have counted : (s.frameCounted s.own).hear s.own = s.frameCounted s.own := if_pos rfl
  have heard := untouched_frameHeard s s.own informs
  rw [counted] at heard
  generalize s.frameHeard s.own informs = u at heard
  have status : u.sync.status = s.sync.status := heard.status_eq
  have own : u.own = s.own := heard.own_eq
  have claims : u.table.claims = s.table.claims := heard.claims
  have roster : u.roster = s.roster := heard.roster
  have hall : u.hall = s.hall := heard.hall
  rw [← status, ← own, ← claims, ← roster, ← hall]
  have expelled := expelled_enterExcluded (u.report .addressConflict) .address
  have kept : u.onConflict.roster = u.roster ∧ u.onConflict.hall = u.hall := by
    have excludes := fun h => onConflict_excludes (s := u) h ▸ expelled
    have reports := onConflict_reports (s := u)
    cases now : u.sync.status with
    | listening => exact ⟨(excludes (.inl now)).untouched.roster, (excludes (.inl now)).untouched.hall⟩
    | syncing => exact ⟨(excludes (.inr (.inl now))).untouched.roster, (excludes (.inr (.inl now))).untouched.hall⟩
    | diverged => exact ⟨(excludes (.inr (.inr now))).untouched.roster, (excludes (.inr (.inr now))).untouched.hall⟩
    | synced => exact reports (.inl now) ▸ ⟨rfl, rfl⟩
    | excluded c => exact reports (.inr ⟨c, now⟩) ▸ ⟨rfl, rfl⟩
  refine ⟨fun joining => ?_, fun staying => ?_, kept⟩
  · rw [onConflict_excludes joining]
    exact ⟨expelled.status, expelled.round, expelled.listenTimer, expelled.untouched.claims, expelled.flying,
      expelled.flagged⟩
  · rw [onConflict_reports staying]
    exact ⟨rfl, rfl⟩

/-! ## A good listen-back (R55, R56, R78, R84) -/

/-- A good listen-back before a GATE marked for a follow-up is requested again (R84). -/
def State.ownEnded (s : State) (f : QFrame) : State :=
  let t := (s.mapTrunk (fun t =>
    { t.frameEnd (some s.own) with failCount := 0, queue := t.queue.filter QFrame.waiting })).deliver f.who f.body .sent
  { t with window := { t.window with sent := true } }.pullWaiting (fun g => g.body == QBody.present)

theorem ownGood_eq (s : State) (f : QFrame) :
    s.ownGood f = if f.followUp then (s.ownEnded f).requestGate else s.ownEnded f := rfl

/-- The frame heard back and a waiting PRESENT leave the queue (R56, R78). -/
theorem ownEnded_queue (s : State) (f : QFrame) : (s.ownEnded f).trunk.queue =
    s.trunk.queue.filter (fun g => g.sent.isNone && g.body != .present) := by
  unfold State.ownEnded
  rw [pullWaiting_queue]
  change List.filter _ (State.deliver _ _ _ _).trunk.queue = _
  rw [deliver_trunk]
  refine List.filter_filter.trans (List.filter_congr fun g _ => ?_)
  cases h : g.sent.isNone <;> simp [QFrame.waiting, h, bne]

theorem bringsNo_ownGood (s : State) (f : QFrame) : BringsNo .present (s.ownEnded f) (s.ownGood f) := by
  rw [ownGood_eq]
  split
  · exact bringsNo_requestGate _ nofun
  · exact .refl _ _

/-- Settles O8: `untouched_ownGood` is the frame end, and a follow-up GATE brings no PRESENT back. -/
theorem ownFrameGood : Obligations.OwnFrameGood := by
  intro s k f b _
  refine ⟨(untouched_setQueue _ _).trans (untouched_ownGood s f),
    fun g hg => ⟨ownGood_waiting s f g hg, fun present => ?_⟩, fun plain => ?_⟩
  · have before := bringsNo_ownGood s f g hg present
    rw [ownEnded_queue] at before
    simpa [present] using (List.mem_filter.1 before).2
  · rw [ownGood_eq, plain]
    exact ownEnded_queue s f

/-! ## PRESENT (R56) -/

/-- Settles O14: what the blocks make of a PRESENT is nothing. -/
theorem presentTaken : Obligations.PresentTaken := fun _ _ _ _ _ _ arrives =>
  congrArg Host.Outcome.next (event_of_arrival (fun _ _ _ s => s) arrives)

end Sys2Proof.Machine
end


section
/-! O29: the window timer's expiry, in an ACTIVE line and in confinement. -/

namespace Sys2Proof.Machine

/-! ## The end of confinement (R81) -/

/-- The line as the end of confinement opens it. -/
def TrunkState.opened (k : TrunkState) : TrunkState :=
  { k with line := .active, failCount := 0, failHold := false, confMarks := 0, confExpiries := 0 }

/-- What follows the opening of the line asks for HELLO, rows, GATE and STOP, and for no MARK (R105, R155, R156). -/
theorem endConfinement_trunk (s : State) :
    { s.endConfinement.trunk with queue := s.trunk.queue } = s.trunk.opened ∧ BringsNo .mark s s.endConfinement := by
  generalize hu : ({ s with trunk := s.trunk.opened } : State) = u
  have result : s.endConfinement = u.onLineActive.roleLineActive := by
    rw [← hu]
    rfl
  have asked : { u.onLineActive.trunk with queue := u.trunk.queue } = u.trunk ∧ BringsNo .mark u u.onLineActive := by
    unfold State.onLineActive
    split
    · exact ⟨((asks_requestHello u).trans (asks_askRows _ 1)).trunk,
        (bringsNo_request u (x := .mark) (b := .hello (u.helloBody false)) nofun _ _).trans
          (bringsNo_request _ (x := .mark) (b := .ask askAllRow) nofun _ _)⟩
    · exact ⟨rfl, .refl _ u⟩
  have told : BringsNo .mark u.onLineActive u.onLineActive.roleLineActive := by
    unfold State.roleLineActive
    dsimp only
    split
    · exact bringsNo_tellHall (u.onLineActive.report .lineActive) nofun (by decide)
    · exact .of_queue_eq rfl
  have both := (congrArg (fun k : TrunkState => { k with queue := u.trunk.queue })
    (untouched_roleLineActive u.onLineActive).trunk).trans asked.1
  rw [result]
  subst hu
  exact ⟨both, asked.2.trans told⟩

/-! ## The expiry (R52, R81) -/

/-- The window timer started again, its expiry counted. -/
def State.windowRestarted (s : State) : State :=
  { s with window := { s.window with timer := some 0, expiries := min (s.window.expiries + 1) 2 } }

theorem windowTimerExpiry_eq {s : State} (awake : s.awake = true) (runs : s.window.timer ≠ none) :
    exec .windowTimerExpiry s = .next (s.cleared.expireWindow.concluded s.seq) := by
  have takes : (s.cleared.awake && s.cleared.window.timer.isSome) = true := by
    rw [Bool.and_eq_true]
    exact ⟨awake, Option.isSome_iff_ne_none.2 runs⟩
  refine congrArg Host.Outcome.next ((event_of_running _ (notReset_of_awake awake)).trans ?_)
  rw [if_pos takes]

theorem callsMark_windowRestarted (s : State) : s.windowRestarted.callsMark = true ↔
    s.trunk.line = .active ∧ (s.sync.status = .synced ∨
      ((s.sync.status = .syncing ∨ s.sync.status = .diverged) ∧ 1 ≤ s.window.expiries)) := by
  have mending : s.sync.status.mending = true ↔ s.sync.status = .syncing ∨ s.sync.status = .diverged := by
    cases s.sync.status <;> simp [SyncStatus.mending]
  have second : min (s.window.expiries + 1) 2 = 2 ↔ 1 ≤ s.window.expiries := by omega
  simp only [State.callsMark, State.lineActive, State.windowRestarted, Bool.and_eq_true, Bool.or_eq_true, beq_iff_eq,
    mending, second]

theorem confinedExpiry_of_active {s : State} (active : s.trunk.line = .active) : s.confinedExpiry = s :=
  if_neg (by simp [active])

/-- In an ACTIVE line the expiry asks for a MARK where one is called for. -/
theorem expireWindow_of_active {s : State} (active : s.trunk.line = .active) : s.expireWindow =
    if s.windowRestarted.callsMark then s.windowRestarted.request .mark .window else s.windowRestarted := by
  refine confinedExpiry_of_active ?_
  split
  · exact (untouched_request s.windowRestarted .mark .window false).line_eq.trans active
  · exact active

/-- The window timer started again in confinement, where the expiry is counted there too. -/
def State.confinedRestarted (s : State) : State :=
  s.windowRestarted.mapTrunk (fun t => { t with confExpiries := t.confExpiries + 1 })

/-- In LISTEN_ONLY the expiry is counted, and the eighth ends the confinement. -/
theorem expireWindow_of_confined {s : State} (confined : s.trunk.line = .listenOnly) : s.expireWindow =
    if 8 ≤ s.trunk.confExpiries + 1 then s.confinedRestarted.endConfinement else s.confinedRestarted := by
  have silent : s.windowRestarted.callsMark ≠ true := fun calls => by
    cases confined.symm.trans ((callsMark_windowRestarted s).1 calls).1
  change (if s.windowRestarted.callsMark then _ else s.windowRestarted).confinedExpiry = _
  rw [if_neg silent]
  exact if_pos confined

/-- Settles O29: the two lines apart, and the end of confinement by what it leaves. -/
theorem windowTimerRunsOut : Obligations.WindowTimerRunsOut := by
  intro s awake runs w calls
  have answer := windowTimerExpiry_eq awake runs
  have called : s.trunk.line = .active → (s.cleared.windowRestarted.callsMark = true ↔ calls) := fun active =>
    (callsMark_windowRestarted s.cleared).trans (and_iff_right active)
  refine ⟨fun active may => ?_, fun active may => ?_, fun confined few => ?_, fun confined enough => ?_⟩
  · rw [answer, expireWindow_of_active (s := s.cleared) active, if_pos ((called active).2 may)]
    rfl
  · rw [answer, expireWindow_of_active (s := s.cleared) active, if_neg (fun c => may ((called active).1 c))]
    rfl
  · rw [answer, expireWindow_of_confined (s := s.cleared) confined]
    exact congrArg (fun u => Host.Outcome.next (State.concluded s.seq u)) (if_neg (Nat.not_le.2 few))
  · have ended : s.cleared.expireWindow = s.cleared.confinedRestarted.endConfinement :=
      (expireWindow_of_confined (s := s.cleared) confined).trans (if_pos enough)
    rw [ended] at answer
    obtain ⟨ends, _, line, failCount⟩ := endConfinement_facts s.cleared.confinedRestarted
    obtain ⟨trunk, marks⟩ := endConfinement_trunk s.cleared.confinedRestarted
    exact ⟨_, answer, ends.window, line, failCount, (congrArg TrunkState.failHold trunk).trans rfl, marks, ends.claims,
      ends.roster⟩

end Sys2Proof.Machine
end


section
/-! SUPPORT. What reading the configuration image comes to (R179, R191): each part of the reader gives one value under one
condition, and the parts compose as the reader does. -/

namespace Sys2Proof.Machine

/-! ## Readers -/

/-- The reader `o` gives `v` where `P` holds, and nothing otherwise. -/
def Reads {α : Type} (o : Option α) (P : Prop) (v : α) : Prop := ∀ x, o = some x ↔ P ∧ x = v

section
variable {α β : Type} {o : Option α} {P Q : Prop} {v : α}

theorem Reads.congr (h : Reads o P v) (iff : P ↔ Q) : Reads o Q v := fun x => (h x).trans (and_congr_left' iff)

theorem Reads.ne_none (h : Reads o P v) : P ↔ o ≠ none := by
  rw [Option.ne_none_iff_exists']
  exact ⟨fun p => ⟨v, (h v).2 ⟨p, rfl⟩⟩, fun ⟨x, hx⟩ => ((h x).1 hx).1⟩

theorem reads_pure (v : α) : Reads (pure v) True v := fun _ =>
  ⟨fun h => ⟨trivial, (Option.some.inj h).symm⟩, fun h => congrArg some h.2.symm⟩

/-- One reader after another. -/
theorem Reads.bind {k : α → Option β} {w : β} (h : Reads o P v) (rest : Reads (k v) Q w) :
    Reads (o >>= k) (P ∧ Q) w := by
  intro y
  refine Option.bind_eq_some_iff.trans ⟨fun ⟨x, hx, hy⟩ => ?_, fun ⟨⟨p, q⟩, hy⟩ => ?_⟩
  · obtain ⟨p, rfl⟩ := (h x).1 hx
    obtain ⟨q, hy⟩ := (rest y).1 hy
    exact ⟨⟨p, q⟩, hy⟩
  · exact ⟨v, (h v).2 ⟨p, rfl⟩, (rest y).2 ⟨q, hy⟩⟩

/-- The last reader, and the record made of what was read. -/
theorem Reads.last (h : Reads o P v) (f : α → β) : Reads (o >>= fun x => pure (f x)) P (f v) :=
  (h.bind (reads_pure (f v))).congr (and_iff_left trivial)

/-- A reader behind a test. -/
theorem Reads.guard {c : Prop} [Decidable c] (h : Reads o P v) : Reads (if c then o else none) (c ∧ P) v := by
  intro x
  split
  · rename_i holds
    rw [and_iff_right holds]
    exact h x
  · rename_i fails
    exact ⟨nofun, fun h => absurd h.1.1 fails⟩

/-- A part that is read under a condition, and stands at a blank otherwise. -/
theorem Reads.part {c : Prop} [Decidable c] {k : α → Option β} {blank : α} {w : β} (h : Reads o P v)
    (rest : Reads (k (if c then v else blank)) Q w) :
    Reads (if c then o >>= k else some blank >>= k) ((c → P) ∧ Q) w := by
  split
  · rename_i holds
    rw [if_pos holds] at rest
    exact (h.bind rest).congr (and_congr_left' ⟨fun p _ => p, fun p => p holds⟩)
  · rename_i fails
    rw [if_neg fails] at rest
    exact Reads.congr rest (and_iff_right (fun holds => absurd holds fails)).symm

/-- A list of `n` fields, the one with index `k` read at `place k`. -/
theorem reads_fields {f : Nat → Option α} {P : Nat → Prop} {g : Nat → α} (n : Nat) (place : Nat → Nat)
    (h : ∀ k < n, Reads (f (place k)) (P k) (g k)) :
    Reads (((List.range n).map place).mapM f) (∀ k < n, P k) ((List.range n).map g) := by
  have listed : ∀ l : List Nat, (∀ k ∈ l, k < n) →
      Reads ((l.map place).mapM f) (∀ k ∈ l, P k) (l.map g) := by
    intro l
    induction l with
    | nil => exact fun _ => (reads_pure []).congr (by simp)
    | cons k l ih =>
      intro small
      rw [List.map_cons, List.mapM_cons]
      refine Reads.congr ((h k (small k List.mem_cons_self)).bind
        ((ih (fun i hi => small i (List.mem_cons_of_mem _ hi))).last _)) ?_
      rw [List.forall_mem_cons]
  exact (listed _ (fun _ => List.mem_range.1)).congr (by simp only [List.mem_range])

end

/-! ## Fields -/

theorem reads_inRange (low n high : Nat) : Reads (inRange low n high) (low ≤ n ∧ n ≤ high) n := by
  intro x
  unfold inRange
  split
  · rename_i fits
    rw [and_iff_right fits]
    exact ⟨fun h => (Option.some.inj h).symm, fun h => congrArg some h.symm⟩
  · rename_i fails
    exact ⟨nofun, fun h => absurd h.1 fails⟩

theorem reads_upTo (n high : Nat) : Reads (inRange 0 n high) (n ≤ high) n :=
  (reads_inRange 0 n high).congr (and_iff_right (Nat.zero_le n))

/-- A field with no bound above but the width of its bytes. -/
theorem reads_from (low : Nat) {n high : Nat} (fits : n ≤ high) : Reads (inRange low n high) (low ≤ n) n :=
  (reads_inRange low n high).congr (and_iff_left fits)

theorem imageByte_le (l : List Byte) (i : Nat) : imageByte l i ≤ 255 := Nat.le_of_lt_succ (l.getD i 0).isLt

theorem imageHalf_le (l : List Byte) (i : Nat) : imageHalf l i ≤ 65535 := by
  have high := imageByte_le l i
  have low := imageByte_le l (i + 1)
  unfold imageHalf
  omega

/-- Two bytes read high byte first (log 58). -/
theorem halfOf_toNat (hi lo : Byte) : (halfOf hi lo).toNat = hi.toNat * 256 + lo.toNat := by
  unfold halfOf
  rw [BitVec.toNat_append, ← Nat.shiftLeft_add_eq_or_of_lt lo.isLt, Nat.shiftLeft_eq]

theorem reads_addrOf (b : Byte) : Reads (addrOf b) (b.toNat ≤ 31) (Fin.ofNat 32 b.toNat) := by
  intro x
  unfold addrOf
  split
  · rename_i small
    have same : (⟨b.toNat, small⟩ : Addr) = Fin.ofNat 32 b.toNat := Fin.ext (Nat.mod_eq_of_lt small).symm
    rw [and_iff_right (Nat.le_of_lt_succ small), ← same]
    exact ⟨fun h => (Option.some.inj h).symm, fun h => congrArg some h.symm⟩
  · rename_i large
    exact ⟨nofun, fun h => absurd (Nat.lt_succ_of_le h.1) large⟩

/-- The role of a role code. -/
def roleAt (n : Nat) : Role := if n = 1 then .discharge else if n = 2 then .filter else .crusher

theorem reads_roleOf (n : Nat) : Reads (roleOf n) (1 ≤ n ∧ n ≤ 3) (roleAt n) := by
  unfold roleOf
  split
  · exact (reads_pure _).congr (by decide)
  · exact (reads_pure _).congr (by decide)
  · exact (reads_pure _).congr (by decide)
  · rename_i one two three
    refine fun x => ⟨nofun, fun ⟨⟨least, most⟩, _⟩ => ?_⟩
    rcases Nat.lt_or_eq_of_le most with small | rfl
    · rcases Nat.lt_or_eq_of_le (Nat.le_of_lt_succ small) with small | rfl
      · exact absurd (Nat.le_antisymm (Nat.le_of_lt_succ small) least) one
      · exact absurd rfl two
    · exact absurd rfl three

theorem roleAt_discharge (n : Nat) : roleAt n = .discharge ↔ n = 1 := by
  unfold roleAt
  split
  · simp [*]
  · split <;> simp [*]

theorem roleAt_filter (n : Nat) : roleAt n = .filter ↔ n = 2 := by
  unfold roleAt
  split
  · simp [*]
  · split <;> simp [*]

theorem roleAt_crusher {n : Nat} (fits : 1 ≤ n ∧ n ≤ 3) : roleAt n = .crusher ↔ n = 3 := by
  unfold roleAt
  split
  · simp [*]
  · split
    · simp [*]
    · exact ⟨fun _ => by omega, fun _ => rfl⟩

/-! ## The sections of the image -/

section
variable (l : List Byte)

/-- The hall section lies in its ranges. -/
def HallFits : Prop :=
  imageByte l 0 ≤ 2 ∧ (4 ≤ imageByte l 1 ∧ imageByte l 1 ≤ 60) ∧ (16 ≤ imageHalf l 2 ∧ imageHalf l 2 ≤ 1023) ∧
  (1 ≤ imageByte l 4 ∧ imageByte l 4 ≤ 4) ∧ (1 ≤ imageByte l 5 ∧ imageByte l 5 ≤ 15) ∧
  ∀ k < 7, 1 ≤ imageByte l (6 + 2 * k) ∧ imageByte l (6 + 2 * k) ≤ imageByte l (7 + 2 * k)

/-- The hall section's fields. -/
def hallAt : HallParams :=
  ⟨imageByte l 0, imageByte l 1, imageHalf l 2, imageByte l 4, imageByte l 5,
    (List.range 7).map (fun k => ⟨imageByte l (6 + 2 * k), imageByte l (7 + 2 * k)⟩), crc16 (l.take 20)⟩

theorem reads_boundsOf (i : Nat) : Reads (boundsOf l i)
    (1 ≤ imageByte l i ∧ imageByte l i ≤ imageByte l (i + 1)) ⟨imageByte l i, imageByte l (i + 1)⟩ :=
  (reads_from 1 (imageByte_le l i)).bind ((reads_from _ (imageByte_le l (i + 1))).last _)

theorem reads_hallParamsOf : Reads (hallParamsOf l) (HallFits l) (hallAt l) := by
  have next : ∀ k, 6 + 2 * k + 1 = 7 + 2 * k := fun k => Nat.add_right_comm 6 (2 * k) 1
  have bounds : Reads ([6, 8, 10, 12, 14, 16, 18].mapM (boundsOf l))
      (∀ k < 7, 1 ≤ imageByte l (6 + 2 * k) ∧ imageByte l (6 + 2 * k) ≤ imageByte l (7 + 2 * k))
      ((List.range 7).map fun k => ⟨imageByte l (6 + 2 * k), imageByte l (7 + 2 * k)⟩) :=
    reads_fields 7 (fun k => 6 + 2 * k) (fun k _ => next k ▸ reads_boundsOf l (6 + 2 * k))
  exact (reads_upTo _ _).bind ((reads_inRange _ _ _).bind ((reads_inRange _ _ _).bind ((reads_inRange _ _ _).bind
    ((reads_inRange _ _ _).bind (bounds.last _)))))

/-! ### The station section -/

/-- The fields of a channel. -/
def channelAt (i : Nat) : ChannelParams :=
  ⟨imageByte l i, imageHalf l (i + 1), imageHalf l (i + 3), imageByte l (i + 5)⟩

theorem reads_channelOf (i : Nat) : Reads (channelOf l i)
    ((1 ≤ imageByte l i ∧ imageByte l i ≤ 16) ∧ imageHalf l (i + 1) ≤ 4095 ∧ imageHalf l (i + 3) ≤ 4095 ∧
      1 ≤ imageByte l (i + 5) ∧ imageByte l (i + 5) ≤ 15) (channelAt l i) :=
  (reads_inRange _ _ _).bind ((reads_upTo _ _).bind ((reads_upTo _ _).bind ((reads_inRange _ _ _).last _)))

/-- Each channel lies in its ranges. -/
def ChannelsFit : Prop :=
  ∀ k < 4, (1 ≤ imageByte l (29 + 6 * k) ∧ imageByte l (29 + 6 * k) ≤ 16) ∧ imageHalf l (30 + 6 * k) ≤ 4095 ∧
    imageHalf l (32 + 6 * k) ≤ 4095 ∧ 1 ≤ imageByte l (34 + 6 * k) ∧ imageByte l (34 + 6 * k) ≤ 15

theorem reads_channels : Reads ([29, 35, 41, 47].mapM (channelOf l)) (ChannelsFit l)
    [channelAt l 29, channelAt l 35, channelAt l 41, channelAt l 47] := by
  have read := reads_fields 4 (fun k => 29 + 6 * k) (fun k _ => reads_channelOf l (29 + 6 * k))
  refine Reads.congr read (forall₂_congr fun k _ => ?_)
  rw [Nat.add_right_comm 29 (6 * k) 1, Nat.add_right_comm 29 (6 * k) 3, Nat.add_right_comm 29 (6 * k) 5]

/-- The role part of a discharge station lies in its ranges. -/
def DischargeFits : Prop :=
  imageByte l 55 ≤ 7 ∧ 1 ≤ imageByte l 56 ∧ (∀ k < 6, 1 ≤ imageHalf l (57 + 2 * k) ∧ imageHalf l (57 + 2 * k) ≤ 1023) ∧
  5 ≤ imageByte l 69 ∧ imageByte l 69 ≤ 100

/-- Its fields. -/
def dischargeAt : DischargeParams :=
  ⟨imageByte l 55, imageByte l 56, (List.range 6).map (fun k => imageHalf l (57 + 2 * k)), imageByte l 69,
    imageByte l 70, imageByte l 71, imageByte l 72⟩

theorem reads_dischargeParamsOf : Reads (dischargeParamsOf l) (DischargeFits l) (dischargeAt l) := by
  have factors : Reads ([57, 59, 61, 63, 65, 67].mapM (fun i => inRange 1 (imageHalf l i) 1023))
      (∀ k < 6, 1 ≤ imageHalf l (57 + 2 * k) ∧ imageHalf l (57 + 2 * k) ≤ 1023)
      ((List.range 6).map fun k => imageHalf l (57 + 2 * k)) :=
    reads_fields 6 (fun k => 57 + 2 * k) (fun _ _ => reads_inRange _ _ _)
  exact (reads_upTo _ _).bind ((reads_from _ (imageByte_le l 56)).bind (factors.bind ((reads_inRange _ _ _).last _)))

/-- The role part of a filter station lies in its ranges. -/
def FilterFits : Prop :=
  imageByte l 55 ≤ 7 ∧ 1 ≤ imageByte l 56 ∧ imageHalf l 57 ≤ 4095 ∧ imageHalf l 59 ≤ 4095 ∧
  (1 ≤ imageByte l 62 ∧ imageByte l 62 ≤ 16) ∧ 1 ≤ imageByte l 64 ∧ imageByte l 64 ≤ 50

/-- Its fields. -/
def filterAt : FilterParams :=
  ⟨imageByte l 55, imageByte l 56, imageHalf l 57, imageHalf l 59, imageByte l 61, imageByte l 62, imageByte l 63,
    imageByte l 64⟩

theorem reads_filterParamsOf : Reads (filterParamsOf l) (FilterFits l) (filterAt l) :=
  (reads_upTo _ _).bind ((reads_from _ (imageByte_le l 56)).bind ((reads_upTo _ _).bind ((reads_upTo _ _).bind
    ((reads_inRange _ _ _).bind ((reads_inRange _ _ _).last _)))))

/-- The role part of a crusher station lies in its ranges: each hold threshold up to its bin's capacity. -/
def CrusherFits : Prop :=
  (∀ k < 7, 1 ≤ imageHalf l (55 + 2 * k) ∧
    1 ≤ imageHalf l (69 + 2 * k) ∧ imageHalf l (69 + 2 * k) ≤ imageHalf l (55 + 2 * k)) ∧
  (1 ≤ imageHalf l 83 ∧ imageHalf l 83 ≤ 4095) ∧ 1 ≤ imageByte l 85 ∧ 5 ≤ imageByte l 86 ∧ imageByte l 86 ≤ 100

/-- The capacities of the bins. -/
def capacitiesAt : List Nat := (List.range 7).map (fun k => imageHalf l (55 + 2 * k))

/-- Its fields. -/
def crusherAt : CrusherParams :=
  ⟨capacitiesAt l, (List.range 7).map (fun k => imageHalf l (69 + 2 * k)), imageHalf l 83, imageByte l 85,
    imageByte l 86, imageByte l 87, imageByte l 88, imageByte l 89⟩

theorem capacitiesAt_getD {k : Nat} (h : k < 7) : (capacitiesAt l).getD k 0 = imageHalf l (55 + 2 * k) := by
  simp [capacitiesAt, h]

theorem reads_crusherParamsOf : Reads (crusherParamsOf l) (CrusherFits l) (crusherAt l) := by
  have capacities : Reads ([55, 57, 59, 61, 63, 65, 67].mapM (fun i => inRange 1 (imageHalf l i) 65535))
      (∀ k < 7, 1 ≤ imageHalf l (55 + 2 * k)) (capacitiesAt l) :=
    reads_fields 7 (fun k => 55 + 2 * k) (fun k _ => reads_from 1 (imageHalf_le l (55 + 2 * k)))
  have thresholds : Reads ([0, 1, 2, 3, 4, 5, 6].mapM
        (fun i => inRange 1 (imageHalf l (69 + 2 * i)) ((capacitiesAt l).getD i 0)))
      (∀ k < 7, 1 ≤ imageHalf l (69 + 2 * k) ∧ imageHalf l (69 + 2 * k) ≤ imageHalf l (55 + 2 * k))
      ((List.range 7).map fun k => imageHalf l (69 + 2 * k)) := by
    refine reads_fields 7 id (fun k small => ?_)
    rw [id, capacitiesAt_getD l small]
    exact reads_inRange _ _ _
  refine Reads.congr (capacities.bind (thresholds.bind ((reads_inRange _ _ _).bind
    ((reads_from _ (imageByte_le l 85)).bind ((reads_inRange _ _ _).last _))))) ?_
  exact and_assoc.symm.trans (and_congr_left' forall₂_and.symm)

/-! ### The image -/

/-- The image has its length and its check word. -/
def ImageChecked : Prop := l.length = 128 ∧ imageHalf l 126 = (crc16 (l.take 126)).toNat

/-- The common part of the station section lies in its ranges. -/
def CommonFits : Prop :=
  imageByte l 20 ≤ 31 ∧ (1 ≤ imageByte l 21 ∧ imageByte l 21 ≤ 3) ∧ imageByte l 22 ≤ 7 ∧ imageByte l 23 ≤ 7 ∧
  imageByte l 26 ≤ 1 ∧ 1 ≤ imageByte l 27 ∧ imageByte l 28 ≤ 3 ∧ ChannelsFit l ∧ imageByte l 53 ≤ 7 ∧
  1 ≤ imageByte l 54 ∧ imageByte l 54 ≤ 50

/-- The configured role's part lies in its ranges. -/
def RoleFits : Prop :=
  (imageByte l 21 = 1 → DischargeFits l) ∧ (imageByte l 21 = 2 → FilterFits l) ∧ (imageByte l 21 = 3 → CrusherFits l)

/-- The fields of the image. -/
def configAt : Config where
  hall := hallAt l
  address := Fin.ofNat 32 (imageByte l 20)
  role := roleAt (imageByte l 21)
  transit := imageByte l 22
  ceiling := imageByte l 23
  mask := halfOf (l.getD 24 0) (l.getD 25 0)
  dormancy := decide (imageByte l 26 = 1)
  dormantDelay := imageByte l 27
  supplyThreshold := 34 + 3 * imageByte l 28
  channels := [channelAt l 29, channelAt l 35, channelAt l 41, channelAt l 47]
  prescaler := 2 ^ imageByte l 53
  stallTime := imageByte l 54
  dis := if roleAt (imageByte l 21) = .discharge then dischargeAt l else .blank
  fil := if roleAt (imageByte l 21) = .filter then filterAt l else .blank
  cru := if roleAt (imageByte l 21) = .crusher then crusherAt l else .blank

/-- The role's part is asked for by the role. -/
theorem roleFits_iff (role : 1 ≤ imageByte l 21 ∧ imageByte l 21 ≤ 3) : RoleFits l ↔
    (roleAt (imageByte l 21) = .discharge → DischargeFits l) ∧ (roleAt (imageByte l 21) = .filter → FilterFits l) ∧
      (roleAt (imageByte l 21) = .crusher → CrusherFits l) := by
  rw [roleAt_discharge, roleAt_filter, roleAt_crusher role]
  rfl

/-- The reader's conditions in their order. -/
theorem reads_configOf : Reads (configOf l) (ImageChecked l ∧ HallFits l ∧ CommonFits l ∧ RoleFits l) (configAt l) := by
  have read : Reads (configOf l) (ImageChecked l ∧ HallFits l ∧ imageByte l 20 ≤ 31 ∧
      (1 ≤ imageByte l 21 ∧ imageByte l 21 ≤ 3) ∧ imageByte l 22 ≤ 7 ∧ imageByte l 23 ≤ 7 ∧ imageByte l 26 ≤ 1 ∧
      1 ≤ imageByte l 27 ∧ imageByte l 28 ≤ 3 ∧ ChannelsFit l ∧ imageByte l 53 ≤ 7 ∧
      (1 ≤ imageByte l 54 ∧ imageByte l 54 ≤ 50) ∧ (roleAt (imageByte l 21) = .discharge → DischargeFits l) ∧
      (roleAt (imageByte l 21) = .filter → FilterFits l) ∧ (roleAt (imageByte l 21) = .crusher → CrusherFits l) ∧
      True) (configAt l) :=
    .guard ((reads_hallParamsOf l).bind ((reads_addrOf _).bind ((reads_roleOf _).bind ((reads_upTo _ _).bind
      ((reads_upTo _ _).bind ((reads_upTo _ _).bind ((reads_from _ (imageByte_le l 27)).bind ((reads_upTo _ _).bind
      ((reads_channels l).bind ((reads_upTo _ _).bind ((reads_inRange _ _ _).bind ((reads_dischargeParamsOf l).part
      ((reads_filterParamsOf l).part ((reads_crusherParamsOf l).part (reads_pure _)))))))))))))))
  refine read.congr (and_congr_right fun _ => and_congr_right fun _ => ?_)
  unfold CommonFits
  rw [and_true]
  constructor
  · rintro ⟨addr, role, transit, ceiling, dormancy, delay, threshold, channels, prescaler, stall, part⟩
    exact ⟨⟨addr, role, transit, ceiling, dormancy, delay, threshold, channels, prescaler, stall⟩,
      (roleFits_iff l role).2 part⟩
  · rintro ⟨⟨addr, role, transit, ceiling, dormancy, delay, threshold, channels, prescaler, stall⟩, part⟩
    exact ⟨addr, role, transit, ceiling, dormancy, delay, threshold, channels, prescaler, stall,
      (roleFits_iff l role).1 part⟩

end

end Sys2Proof.Machine
end


section
/-! O44: the configuration read of a start. -/

namespace Sys2Proof.Machine

theorem configLoad_eq {s : State} (image : Option (List Byte)) (running : s.inReset = false)
    (mode : s.mode.mode = .startHold) (config : s.mode.config = .loading) :
    exec (.configLoad image) s = .next ((s.cleared.loadImage image).concluded s.seq) := by
  have reads : (s.cleared.mode.mode == .startHold && s.cleared.mode.config == .loading) = true := by
    rw [Bool.and_eq_true, beq_iff_eq, beq_iff_eq]
    exact ⟨mode, config⟩
  refine congrArg Host.Outcome.next ((event_of_running _ running).trans ?_)
  rw [if_pos reads]

theorem loadImage_good (s : State) {image : Option (List Byte)} {c : Config} (h : image.bind configOf = some c) :
    s.loadImage image = s.configure c := by
  unfold State.loadImage
  rw [h]

theorem loadImage_bad (s : State) {image : Option (List Byte)} (h : image.bind configOf = none) :
    s.loadImage image = { s with
      mode := { s.mode with config := .fault }
      port := { s.port with flags := s.port.flags ||| 0x4000#16 } } := by
  have flag : Attn.word .configFault = 0x4000#16 := by decide
  unfold State.loadImage
  rw [h, ← flag]
  rfl

/-- An image of another length or with a wrong check word is bad. -/
theorem configOf_of_unchecked {l : List Byte} (h : ¬ImageChecked l) : configOf l = none := by
  by_contra read
  exact h ((reads_configOf l).ne_none.2 read).1

/-- The role part of the configuration is that of the role code. -/
theorem configAt_role (l : List Byte) :
    (imageByte l 21 = 1 → (configAt l).role = .discharge ∧ (configAt l).dis = dischargeAt l) ∧
    (imageByte l 21 = 2 → (configAt l).role = .filter ∧ (configAt l).fil = filterAt l) ∧
    (imageByte l 21 = 3 → (configAt l).role = .crusher ∧ (configAt l).cru = crusherAt l) := by
  refine ⟨fun code => ?_, fun code => ?_, fun code => ?_⟩
  · have role := (roleAt_discharge _).2 code
    exact ⟨role, if_pos role⟩
  · have role := (roleAt_filter _).2 code
    exact ⟨role, if_pos role⟩
  · have role := (roleAt_crusher (by omega)).2 code
    exact ⟨role, if_pos role⟩

/-- Settles O44: `configLoad_eq` and `loadImage_good` or `loadImage_bad` give the answer, and `reads_configOf` says of
every image whether it is good and what it gives. -/
theorem configLoaded : Obligations.ConfigLoaded := by
  refine ⟨?_, ?_⟩
  · intro s image running mode config bad
    have answer := configLoad_eq image running mode config
    have faulty : image.bind configOf = none → bad := fun none => answer.trans (by rw [loadImage_bad _ none]; rfl)
    refine ⟨?_, ?_, ?_, ?_⟩
    · rintro l c rfl read
      rw [answer, loadImage_good _ (show (some l).bind configOf = some c from read)]
      rfl
    · rintro rfl
      exact faulty rfl
    · rintro l rfl unread
      exact faulty unread
    · rintro l rfl wrong
      exact faulty (configOf_of_unchecked fun ⟨length, check⟩ => wrong.elim (· length) (· check))
  · intro l n nn within wide dis fil cru channel good
    have fits : ImageChecked l ∧ HallFits l ∧ CommonFits l ∧ RoleFits l ↔ good := by
      constructor
      · rintro ⟨⟨length, check⟩, ⟨rate, w, b, k, a, bounds⟩, ⟨addr, role, transit, ceiling, dormancy, delay, threshold,
          channels, prescaler, stall⟩, part⟩
        exact ⟨length, check, rate, w, b, k, a, bounds, addr, role, transit, ceiling, dormancy, delay, threshold,
          channels, prescaler, stall, part⟩
      · rintro ⟨length, check, rate, w, b, k, a, bounds, addr, role, transit, ceiling, dormancy, delay, threshold,
          channels, prescaler, stall, part⟩
        exact ⟨⟨length, check⟩, ⟨rate, w, b, k, a, bounds⟩, ⟨addr, role, transit, ceiling, dormancy, delay, threshold,
          channels, prescaler, stall⟩, part⟩
    refine ⟨fits.symm.trans (reads_configOf l).ne_none, fun c read => ?_⟩
    obtain ⟨⟨_, _, ⟨addr, _⟩, _⟩, rfl⟩ := (reads_configOf l c).1 read
    exact ⟨rfl, Nat.mod_eq_of_lt (Nat.lt_succ_of_le addr), rfl, rfl, halfOf_toNat _ _, rfl, rfl, rfl, rfl, rfl, rfl,
      configAt_role l⟩

end Sys2Proof.Machine
end


section
/-! SUPPORT. The outgoing queue as data (R71, R76, R82 to R86): the frame that a full queue displaces, what a request
comes to by the kind of its body, and the limits that requests and withdrawals keep: 8 frames, one of each built kind,
and no frame put in flight. -/

namespace Sys2Proof.Machine

/-! ## The displaced frame (R86) -/

theorem cls_pos (f : QFrame) : 1 ≤ f.cls := by
  unfold QFrame.cls
  cases f.body.kind <;> decide

theorem cls_le (f : QFrame) : f.cls ≤ 4 := by
  unfold QFrame.cls
  cases f.body.kind <;> decide

theorem lastIdx_none {α : Type} {p : α → Bool} {l : List α} (h : lastIdx p l = none) : ∀ x ∈ l, p x = false := by
  induction l with
  | nil => simp
  | cons x l ih =>
    unfold lastIdx at h
    split at h
    · cases h
    · rename_i rest
      split at h
      · cases h
      · rename_i here
        exact List.forall_mem_cons.2 ⟨by simpa using here, ih rest⟩

theorem lastIdx_last {α : Type} {p : α → Bool} {l : List α} {i : Nat} (h : lastIdx p l = some i) :
    ∀ (j : Nat) (y : α), l[j]? = some y → p y = true → j ≤ i := by
  induction l generalizing i with
  | nil => simp
  | cons x l ih =>
    intro j y at_j hy
    unfold lastIdx at h
    split at h
    · rename_i k rest
      obtain rfl : k + 1 = i := by simpa using h
      cases j with
      | zero => exact Nat.zero_le _
      | succ j => exact Nat.succ_le_succ (ih rest j y at_j hy)
    · rename_i rest
      cases j with
      | zero => exact Nat.zero_le _
      | succ j =>
        have none := lastIdx_none rest y (List.mem_of_getElem? at_j)
        rw [hy] at none
        cases none

/-- `v`, at `i`, is the newest waiting frame of the worst class present, which is worse than `c` (R86). -/
structure IsVictim (c : Nat) (q : List QFrame) (i : Nat) (v : QFrame) : Prop where
  here : q[i]? = some v
  waits : v.sent = none
  worse : c < v.cls
  worst : ∀ (j : Nat) (g : QFrame), q[j]? = some g → g.sent = none → g.cls < v.cls ∨ (g.cls = v.cls ∧ j ≤ i)

theorem IsVictim.unique {c : Nat} {q : List QFrame} {i j : Nat} {v w : QFrame} (h : IsVictim c q i v)
    (k : IsVictim c q j w) : i = j := by
  rcases h.worst j w k.here k.waits with less | ⟨same, le⟩ <;>
    rcases k.worst i v h.here h.waits with less' | ⟨same', le'⟩ <;> omega

/-- The newest waiting frame of one class, once no worse one waits. -/
theorem isVictim_of_lastIdx {c k : Nat} {q : List QFrame} {i : Nat} (worse : c < k)
    (none_worse : ∀ g ∈ q, g.sent = none → g.cls ≤ k)
    (h : lastIdx (fun f => f.waiting && f.cls == k) q = some i) : ∃ v, IsVictim c q i v := by
  obtain ⟨v, here, hv⟩ := lastIdx_some h
  obtain ⟨waits, cls⟩ : v.sent = none ∧ v.cls = k := by simpa [QFrame.waiting] using hv
  refine ⟨v, here, waits, cls ▸ worse, fun j g at_j hg => ?_⟩
  rcases Nat.lt_or_eq_of_le (none_worse g (List.mem_of_getElem? at_j) hg) with less | same
  · exact .inl (cls ▸ less)
  · exact .inr ⟨same.trans cls.symm, lastIdx_last h j g at_j (by simp [QFrame.waiting, hg, same])⟩

/-- Where no frame of one class is to be displaced, and none worse waits, none of that class or worse waits. -/
theorem le_of_newest_none {c k : Nat} {q : List QFrame}
    (none_worse : ∀ g ∈ q, g.sent = none → g.cls ≤ max c (k + 1))
    (h : (if c < k + 1 then lastIdx (fun f => f.waiting && f.cls == k + 1) q else none) = none) :
    ∀ g ∈ q, g.sent = none → g.cls ≤ max c k := by
  intro g hg waits
  have le := none_worse g hg waits
  split at h
  · have other := lastIdx_none h g hg
    have ne : g.cls ≠ k + 1 := by simpa [QFrame.waiting, waits] using other
    omega
  · omega

/-- What `victimIdx` finds: the frame that R86 displaces, or that there is none. -/
theorem victimIdx_spec {c : Nat} (q : List QFrame) (hc : 1 ≤ c) :
    (∃ i v, victimIdx c q = some i ∧ IsVictim c q i v) ∨
    (victimIdx c q = none ∧ ∀ g ∈ q, g.sent = none → g.cls ≤ c) := by
  have found : ∀ {k i : Nat}, (∀ g ∈ q, g.sent = none → g.cls ≤ max c k) →
      (if c < k then lastIdx (fun f => f.waiting && f.cls == k) q else none) = some i → ∃ v, IsVictim c q i v := by
    intro k i none_worse h
    split at h
    · rename_i worse
      exact isVictim_of_lastIdx worse (fun g hg w => by have := none_worse g hg w; omega) h
    · cases h
  have four : ∀ g ∈ q, g.sent = none → g.cls ≤ max c 4 := fun g _ _ => (cls_le g).trans (Nat.le_max_right _ _)
  unfold victimIdx
  dsimp only
  split
  · rename_i i h
    exact .inl ((found four h).elim fun v hv => ⟨i, v, rfl, hv⟩)
  · rename_i no4
    have three := le_of_newest_none four no4
    split
    · rename_i i h
      exact .inl ((found three h).elim fun v hv => ⟨i, v, rfl, hv⟩)
    · rename_i no3
      have two := le_of_newest_none three no3
      cases h : (if c < 2 then lastIdx (fun f => f.waiting && f.cls == 2) q else none) with
      | some i => exact .inl ((found two h).elim fun v hv => ⟨i, v, rfl, hv⟩)
      | none =>
        refine .inr ⟨rfl, fun g hg w => ?_⟩
        have := le_of_newest_none two h g hg w
        omega

theorem victimIdx_eq {c : Nat} {q : List QFrame} {i : Nat} {v : QFrame} (h : IsVictim c q i v) (hc : 1 ≤ c) :
    victimIdx c q = some i := by
  rcases victimIdx_spec q hc with ⟨j, w, found, hw⟩ | ⟨_, none⟩
  · rw [found, h.unique hw]
  · exact absurd (none v (List.mem_of_getElem? h.here) h.waits) (Nat.not_le.2 h.worse)

/-! ## Entry (R86) -/

section
variable {q : List QFrame} {f : QFrame}

theorem enter_of_room (room : q.length < 8) : enter q f = ⟨q ++ [f], .queued, []⟩ := if_pos room

theorem enter_of_full (full : 8 ≤ q.length) (none_worse : ∀ g ∈ q, g.sent = none → g.cls ≤ f.cls) :
    enter q f = ⟨q, .refused .full, []⟩ := by
  unfold enter
  rw [if_neg (Nat.not_lt.2 full)]
  rcases victimIdx_spec q (cls_pos f) with ⟨i, v, _, victim⟩ | ⟨found, _⟩
  · exact absurd (none_worse v (List.mem_of_getElem? victim.here) victim.waits) (Nat.not_le.2 victim.worse)
  · rw [found]

theorem enter_of_victim {i : Nat} {v : QFrame} (full : 8 ≤ q.length) (victim : IsVictim f.cls q i v) :
    enter q f = ⟨q.eraseIdx i ++ [f], .queued, [(v.who, v.body, .displaced)]⟩ := by
  unfold enter
  rw [if_neg (Nat.not_lt.2 full), victimIdx_eq victim (cls_pos f)]
  simp [victim.here]

/-- A frame enters where there is room, displaces the frame of R86, or is refused as FULL. -/
theorem enter_cases (q : List QFrame) (f : QFrame) :
    q.length < 8 ∨ (8 ≤ q.length ∧ ∃ i v, IsVictim f.cls q i v) ∨
    (8 ≤ q.length ∧ ∀ g ∈ q, g.sent = none → g.cls ≤ f.cls) := by
  rcases Nat.lt_or_ge q.length 8 with room | full
  · exact .inl room
  · rcases victimIdx_spec q (cls_pos f) with ⟨i, v, _, victim⟩ | ⟨_, none_worse⟩
    · exact .inr (.inl ⟨full, i, v, victim⟩)
    · exact .inr (.inr ⟨full, none_worse⟩)

end

/-! ## What a request comes to -/

/-- The body is one of the four of which the queue holds one at most (R83, R84). -/
def QBody.built (b : QBody) : Prop := b = .mark ∨ b = .present ∨ b = .gate ∨ b = .row

section
variable (q : List QFrame) {f : QFrame} (holds : Byte → Bool)

theorem settleRequest_built (h : f.body.built) : settleRequest q f holds =
    if q.any (fun g => g.body = f.body) then
      ⟨if f.body = .gate then q.map markFollowUp else q, .absorbed, []⟩
    else enter q f := by
  unfold settleRequest
  rcases h with h | h | h | h <;> simp only [h]

theorem settleRequest_claim {c : ClaimBody} (h : f.body = .claim c) : settleRequest q f holds =
    if q.any (fun g => g.waitingClaim c.id) then
      ⟨q.map (fun g => if g.waitingClaim c.id then { g with body := .claim c } else g), .replaced, []⟩
    else enter q f := by
  unfold settleRequest
  simp only [h]

/-- The waiting CLAIMs of an id, as a WITHDRAW cancels them (R85). -/
def cancelledBy (q : List QFrame) (id : Byte) : List (Block × QBody × Fate) :=
  (q.filter (fun g => g.waitingClaim id)).map (fun g => (g.who, g.body, Fate.cancelled))

/-- The queue without the waiting CLAIMs of an id (R85). -/
def withoutClaim (q : List QFrame) (id : Byte) : List QFrame := q.filter (fun g => !g.waitingClaim id)

theorem settleRequest_withdraw {w : WithdrawBody} (h : f.body = .withdraw w) : settleRequest q f holds =
    if cancelledBy q w.id ≠ [] ∧ holds w.id = false then ⟨withoutClaim q w.id, .cancelled, cancelledBy q w.id⟩
    else if (withoutClaim q w.id).any (fun g => g.withdrawOf w.id) then
      ⟨withoutClaim q w.id, .absorbed, cancelledBy q w.id⟩
    else
      ⟨(enter (withoutClaim q w.id) f).queue, (enter (withoutClaim q w.id) f).fate,
        cancelledBy q w.id ++ (enter (withoutClaim q w.id) f).others⟩ := by
  unfold settleRequest
  simp only [h]
  rfl

theorem settleRequest_other (hb : ¬f.body.built) (hc : ∀ c, f.body ≠ .claim c) (hw : ∀ w, f.body ≠ .withdraw w) :
    settleRequest q f holds = enter q f := by
  unfold settleRequest
  cases h : f.body with
  | claim c => exact absurd h (hc c)
  | withdraw w => exact absurd h (hw w)
  | mark => exact absurd (.inl h) hb
  | present => exact absurd (.inr (.inl h)) hb
  | gate => exact absurd (.inr (.inr (.inl h))) hb
  | row => exact absurd (.inr (.inr (.inr h))) hb
  | _ => rfl

end

/-! ## The limits -/


/-- The frame is in flight. -/
def QFrame.flying (f : QFrame) : Bool := f.sent.isSome

/-- `r` comes from the queue `q` by requests and withdrawals: each limit of the queue is kept, and no frame starts. -/
structure Confines (q r : List QFrame) : Prop where
  length : r.length ≤ max 8 q.length
  built : ∀ b : QBody, b.built → queuedOf r b ≤ max 1 (queuedOf q b)
  flying : r.countP QFrame.flying ≤ q.countP QFrame.flying

theorem queuedOf_eq_countP (q : List QFrame) (b : QBody) : queuedOf q b = q.countP (fun f => f.body == b) :=
  List.countP_eq_length_filter.symm

theorem queuedOf_eq_zero {q : List QFrame} {b : QBody} : queuedOf q b = 0 ↔ ∀ f ∈ q, f.body ≠ b := by
  simp [queuedOf_eq_countP, List.countP_eq_zero]

theorem Confines.trans {p q r : List QFrame} (h : Confines p q) (k : Confines q r) : Confines p r where
  length := by have := h.length; have := k.length; omega
  built b hb := by have := h.built b hb; have := k.built b hb; omega
  flying := k.flying.trans h.flying

/-- Frames that leave the queue break no limit. -/
theorem confines_of_sublist {q r : List QFrame} (h : r.Sublist q) : Confines q r where
  length := h.length_le.trans (Nat.le_max_right _ _)
  built b _ := by
    rw [queuedOf_eq_countP, queuedOf_eq_countP]
    exact h.countP_le.trans (Nat.le_max_right _ _)
  flying := h.countP_le

theorem Confines.refl (q : List QFrame) : Confines q q := confines_of_sublist (.refl q)

/-- Rewriting frames where they stand, in flight or waiting as they were, with no new built body. -/
theorem confines_map (q : List QFrame) {k : QFrame → QFrame} (sent : ∀ f, (k f).sent = f.sent)
    (body : ∀ f, (k f).body.built → (k f).body = f.body) : Confines q (q.map k) where
  length := by rw [List.length_map]; exact Nat.le_max_right _ _
  built b hb := by
    rw [queuedOf_eq_countP, queuedOf_eq_countP, List.countP_map]
    refine (List.countP_mono_left fun f _ h => ?_).trans (Nat.le_max_right _ _)
    have same : (k f).body = b := beq_iff_eq.1 h
    exact beq_iff_eq.2 ((body f (same ▸ hb)).symm.trans same)
  flying := by
    rw [List.countP_map]
    exact List.countP_mono_left fun f _ h => by simpa [QFrame.flying, sent f] using h

/-- A waiting frame that enters last, no other of a built kind being there, once others have made room. -/
theorem confines_append {q r : List QFrame} {f : QFrame} (left : r.Sublist q) (room : r.length < max 8 q.length)
    (waits : f.sent = none) (new : f.body.built → ∀ g ∈ q, g.body ≠ f.body) : Confines q (r ++ [f]) where
  length := by rw [List.length_append, List.length_singleton]; omega
  built b hb := by
    have fewer := (confines_of_sublist left).built b hb
    rw [queuedOf_eq_countP, queuedOf_eq_countP] at fewer ⊢
    rw [List.countP_append, List.countP_singleton]
    split
    · rename_i same
      obtain rfl := beq_iff_eq.1 same
      have none := queuedOf_eq_zero.2 fun g hg => new hb g (left.subset hg)
      rw [queuedOf_eq_countP] at none
      omega
    · exact fewer
  flying := by simpa [QFrame.flying, waits] using left.countP_le (p := QFrame.flying)

/-- Entering a frame keeps the limits, by its entry or by a displacement (R86). -/
theorem confines_enter {q : List QFrame} {f : QFrame} (waits : f.sent = none)
    (new : f.body.built → ∀ g ∈ q, g.body ≠ f.body) : Confines q (enter q f).queue := by
  rcases enter_cases q f with room | ⟨full, i, v, victim⟩ | ⟨full, none_worse⟩
  · rw [enter_of_room room]
    exact confines_append (.refl q) (by omega) waits new
  · obtain ⟨within, _⟩ := List.getElem?_eq_some_iff.1 victim.here
    rw [enter_of_victim full victim]
    refine confines_append (List.eraseIdx_sublist q i) ?_ waits new
    have := List.length_eraseIdx_of_lt within
    omega
  · rw [enter_of_full full none_worse]
    exact .refl q

/-- A settled request keeps the limits of the queue (R82, R84 to R86). -/
theorem confines_settleRequest (q : List QFrame) {f : QFrame} (holds : Byte → Bool) (waits : f.sent = none) :
    Confines q (settleRequest q f holds).queue := by
  by_cases built : f.body.built
  · rw [settleRequest_built q holds built]
    split
    · dsimp only
      split
      · exact confines_map q (by intro g; unfold markFollowUp; split <;> rfl)
          (by intro g _; unfold markFollowUp; split <;> rfl)
      · exact .refl q
    · rename_i new
      exact confines_enter waits fun _ g hg same => new (List.any_eq_true.2 ⟨g, hg, decide_eq_true same⟩)
  · have entered : ∀ r : List QFrame, Confines r (enter r f).queue := fun r => confines_enter waits (absurd · built)
    by_cases claim : ∃ c, f.body = .claim c
    · obtain ⟨c, hc⟩ := claim
      rw [settleRequest_claim q holds hc]
      split
      · refine confines_map q (by intro g; split <;> rfl) (fun g hg => ?_)
        split at hg
        · simp [QBody.built] at hg
        · rename_i same
          rw [if_neg same]
      · exact entered q
    · by_cases withdraw : ∃ w, f.body = .withdraw w
      · obtain ⟨w, hw⟩ := withdraw
        have fewer : Confines q (withoutClaim q w.id) := confines_of_sublist List.filter_sublist
        rw [settleRequest_withdraw q holds hw]
        split
        · exact fewer
        · split
          · exact fewer
          · exact fewer.trans (entered _)
      · rw [settleRequest_other q holds built (fun c h => claim ⟨c, h⟩) (fun w h => withdraw ⟨w, h⟩)]
        exact entered q

end Sys2Proof.Machine
end


section
/-! SUPPORT. The role units' operations outside a MARK as work (`Works`), and the limits of the outgoing queue under what
each block does (R71, R76, R82, R84): requests, withdrawals and emptyings keep them, and nothing else moves the queue. -/

namespace Sys2Proof.Machine

/-! ## The role units' operations -/

section
variable (s : State)

theorem works_sealOpen (why : SealReason) : Works s (s.sealOpen why) := by
  unfold State.sealOpen
  split
  · exact (works_mapLots s _).trans (.capture _ _)
  · exact .refl s

theorem works_sealAged : Works s s.sealAged := by
  unfold State.sealAged
  split
  · exact works_sealOpen s _
  · exact .refl s

theorem works_rerank (n : Nat) : Works s (s.rerank n) := by
  unfold State.rerank
  split
  · split
    · exact (works_mapFilter s _ ⟨rfl, rfl⟩).trans (.request _ _ _ _)
    · exact .refl s
  · exact .refl s

theorem works_withdrawOrphanFlushes : Works s s.withdrawOrphanFlushes :=
  works_foldl s _ (fun s _ => .request s _ _ _) _

theorem works_completeDischarge : Works s s.completeDischarge := by
  unfold State.completeDischarge
  split
  · exact (works_requestDone _ _).after ((works_setDischarge _ _ (by exact rfl)).after (.complete s _))
  · exact .refl s

theorem works_countTravel : Works s s.countTravel := by
  unfold State.countTravel
  split
  · exact works_mapLots s _
  · split
    · split
      · dsimp only
        split
        · exact (works_completeDischarge _).after (works_setDischarge s _ rfl)
        · exact works_setDischarge s _ rfl
      · exact .refl s
    · exact .refl s

theorem works_enterBeltFault : Works s s.enterBeltFault := by
  unfold State.enterBeltFault
  split
  · exact .refl s
  · exact (Works.raise _ _).after ((works_withdrawLots _ _).after ((Works.cancel _ _).after
      ((works_endDischarge _).after (works_setDischarge s _ rfl))))

theorem works_pumpFault : Works s s.pumpFault := by
  have withdrawn : ∀ u : State, Works u ((waitingClaimIds u.trunk.queue).foldl
      (fun s id => s.request (.withdraw ⟨id⟩) .role) u.withdrawOrphanFlushes) := fun u =>
    (works_withdrawOrphanFlushes u).trans (works_foldl _ _ (fun s _ => .request s _ _ _) _)
  exact (works_endFlush s _ _).trans ((works_mapFilter _ _ ⟨rfl, rfl⟩).trans ((withdrawn _).trans (.raise _ _)))

theorem works_clearJam : Works s s.clearJam := by
  unfold State.clearJam
  dsimp only
  split
  · exact (works_mapCrusher s _ rfl).trans (works_tellHall _)
  · exact (Works.cancel s _).trans ((works_mapCrusher _ _ rfl).trans (works_tellHall _))
  · exact works_mapCrusher s _ rfl

theorem works_roleAdmitted (id : Byte) : Works s (s.roleAdmitted id) := by
  unfold State.roleAdmitted
  dsimp only
  split
  · exact (Works.report s _ rfl).trans (works_mapLots _ _)
  · exact (Works.report s _ rfl).trans (works_mapFilter _ _ (by split <;> exact ⟨rfl, rfl⟩))
  · exact .report s _ rfl

theorem works_roleRefused (id : Byte) (c : RefusalCause) : Works s (s.roleRefused id c) := by
  unfold State.roleRefused
  dsimp only
  split
  · exact (Works.report s _ rfl).trans (works_mapLots _ _)
  · exact (Works.report s _ rfl).trans (works_mapFilter _ _ (by split <;> exact ⟨rfl, rfl⟩))
  · exact .report s _ rfl

theorem works_roleLineActive : Works s s.roleLineActive := by
  unfold State.roleLineActive
  dsimp only
  split
  · exact (Works.report s _ rfl).trans (works_tellHall _)
  · exact .report s _ rfl

theorem works_roleStopTaken (a : Addr) (c : StopCause) : Works s (s.roleStopTaken a c) := by
  unfold State.roleStopTaken
  dsimp only
  split
  · exact (Works.report s _ rfl).trans ((works_endDischarge _).trans (works_withdrawCommitted _))
  · exact (Works.report s _ rfl).trans ((works_endFlush _ _ _).trans (works_withdrawCommitted _))
  · exact .report s _ rfl

theorem works_roleSupplyLow : Works s s.roleSupplyLow := by
  unfold State.roleSupplyLow
  dsimp only
  split
  · exact (Works.report s _ rfl).trans ((works_endDischarge _).trans (works_withdrawLots _ _))
  · exact (Works.report s _ rfl).trans ((works_endFlush _ _ _).trans (works_withdrawFlush _))
  · exact .report s _ rfl

end

/-! ## Keeping the queue lawful -/

/-- The queue of `t` is within its limits where that of `s` is. -/
def KeepsQueue (s t : State) : Prop := s.queueLawful → t.queueLawful

theorem KeepsQueue.refl (s : State) : KeepsQueue s s := id

theorem KeepsQueue.trans {a b c : State} (h : KeepsQueue a b) (k : KeepsQueue b c) : KeepsQueue a c :=
  fun hs => k (h hs)

theorem inFlight_isSome {q : List QFrame} : (inFlight q).isSome = true ↔ 0 < q.countP QFrame.flying := by
  simp [inFlight, List.find?_isSome, List.countP_pos_iff, QFrame.flying]

/-- The limits of the queue in terms of its counts. -/
theorem queueLawful_iff {s : State} : s.queueLawful ↔
    s.trunk.queue.length ≤ 8 ∧ (∀ b : QBody, b.built → queuedOf s.trunk.queue b ≤ 1) ∧
    s.trunk.queue.countP QFrame.flying ≤ 1 ∧ (0 < s.trunk.queue.countP QFrame.flying → s.trunk.busy = true) := by
  unfold State.queueLawful
  rw [inFlight_isSome, List.countP_eq_length_filter]
  rfl

theorem Confines.keepsQueue {s t : State} (h : Confines s.trunk.queue t.trunk.queue)
    (busy : t.trunk.busy = s.trunk.busy) : KeepsQueue s t := by
  intro hs
  obtain ⟨length, built, flying, line⟩ := queueLawful_iff.1 hs
  refine queueLawful_iff.2 ⟨?_, fun b hb => ?_, h.flying.trans flying, fun some => ?_⟩
  · have := h.length; omega
  · have := h.built b hb; have := built b hb; omega
  · exact busy.trans (line (some.trans_le h.flying))

/-- What leaves queue and busy line alone. -/
theorem keepsQueue_of_eq {s t : State} (queue : t.trunk.queue = s.trunk.queue) (busy : t.trunk.busy = s.trunk.busy) :
    KeepsQueue s t := Confines.keepsQueue (queue ▸ .refl _) busy

/-- What leaves the line record alone. -/
theorem keepsQueue_of_trunk {s t : State} (h : t.trunk = s.trunk) : KeepsQueue s t :=
  keepsQueue_of_eq (by rw [h]) (by rw [h])

/-- A queue without a frame in flight, made of one within its limits, is within them whatever the line. -/
theorem keepsQueue_of_waiting {s t : State} (h : Confines s.trunk.queue t.trunk.queue)
    (waiting : t.trunk.queue.countP QFrame.flying = 0) : KeepsQueue s t := by
  intro hs
  obtain ⟨length, built, _, _⟩ := queueLawful_iff.1 hs
  refine queueLawful_iff.2 ⟨?_, fun b hb => ?_, by omega, by omega⟩
  · have := h.length; omega
  · have := h.built b hb; have := built b hb; omega

theorem keepsQueue_foldl {α : Type} {f : State → α → State} (hf : ∀ s x, KeepsQueue s (f s x)) (l : List α)
    (s : State) : KeepsQueue s (l.foldl f s) := by
  induction l generalizing s with
  | nil => exact .refl s
  | cons x l ih => exact (hf s x).trans (ih _)

theorem keepsQueue_ite {s t u : State} {c : Prop} [Decidable c] (ht : c → KeepsQueue s t)
    (hu : ¬c → KeepsQueue s u) : KeepsQueue s (if c then t else u) := by
  split
  · exact ht ‹_›
  · exact hu ‹_›

/-! ### Requests, withdrawals, emptyings -/

theorem keepsQueue_request (s : State) (b : QBody) (who : Block) (u : Bool) : KeepsQueue s (s.request b who u) := by
  refine Confines.keepsQueue ?_ (untouched_request s b who u).busy_eq
  rw [request_queue]
  unfold State.settleOf
  split
  · exact .refl _
  · split
    · exact .refl _
    · exact confines_settleRequest _ _ rfl

/-- Frames of which some leave and the others may be marked as withdrawn (R87). -/
theorem confines_marked (q : List QFrame) (p r : QFrame → Bool) :
    Confines q ((q.filter p).map (fun f => if r f then { f with pulled := true } else f)) :=
  (confines_of_sublist List.filter_sublist).trans
    (confines_map _ (fun f => by split <;> rfl) (fun f _ => by split <;> rfl))

theorem keepsQueue_pull (s : State) (p : QFrame → Bool) : KeepsQueue s (s.pull p) := by
  refine Confines.keepsQueue ?_ (untouched_pull s p).busy_eq
  rw [pull_queue]
  exact confines_marked _ _ _

theorem keepsQueue_dropAll (s : State) (why : DropReason) : KeepsQueue s (s.dropAll why) := by
  refine Confines.keepsQueue ?_ (untouched_dropAll s why).busy_eq
  rw [dropAll_queue]
  exact confines_marked _ _ (fun _ => true)

/-- The work of the role unit keeps the queue within its limits. -/
theorem Works.keepsQueue {s t : State} (h : Works s t) : KeepsQueue s t := by
  induction h with
  | trans _ _ ih ik => exact ih.trans ik
  | request s b who u => exact keepsQueue_request s b who u
  | pull s p => exact keepsQueue_pull s p
  | capture s ch => exact keepsQueue_of_trunk (by unfold State.requestCapture; split <;> rfl)
  | complete s k => exact keepsQueue_of_trunk (by unfold State.completeOp; split <;> rfl)
  | _ => exact keepsQueue_of_trunk rfl

end Sys2Proof.Machine
end


section
/-! SUPPORT. The limits of the outgoing queue under what each block does with a frame and at a MARK. -/

namespace Sys2Proof.Machine

section
variable (s : State)

/-! ## The claim table (chapter 1) -/

theorem keepsQueue_roleRemoved (id : Byte) (why : RemovalReason) : KeepsQueue s (s.roleRemoved id why) :=
  (keepsQueue_of_trunk (t := s.report (.removed id why)) rfl).trans (works_roleRemoved s id why).keepsQueue

theorem keepsQueue_removeClaims (p : Claim → Bool) (why : RemovalReason) : KeepsQueue s (s.removeClaims p why) :=
  (keepsQueue_of_trunk (t := s.setClaims (s.table.claims.filter (fun c => !p c))) rfl).trans
    (keepsQueue_foldl (fun s (c : Claim) => keepsQueue_roleRemoved s c.id why) _ _)

theorem keepsQueue_takeClaim (own : Bool) (a : Addr) (b : ClaimBody) : KeepsQueue s (s.takeClaim own a b) := by
  have entered : ∀ l : List Claim, KeepsQueue s (s.setClaims l) := fun _ => keepsQueue_of_trunk rfl
  unfold State.takeClaim
  split
  · exact (entered _).trans (keepsQueue_ite (fun _ => (works_roleAdmitted _ _).keepsQueue) fun _ => .refl _)
  · exact (entered _).trans (keepsQueue_ite (fun _ => keepsQueue_of_trunk rfl) fun _ => .refl _)
  · refine keepsQueue_ite (fun _ => ?_) fun _ => .refl s
    exact (keepsQueue_of_trunk (t := (s.countRefused 1).raise .claimRefused) rfl).trans
      (works_roleRefused _ _ _).keepsQueue

theorem keepsQueue_takeRow (a : Addr) (b : RowBody) : KeepsQueue s (s.takeRow a b) := by
  have entered : KeepsQueue s (s.rowTable a b) := keepsQueue_of_trunk rfl
  by_cases own : a = s.own
  · subst own
    have counted : ∀ (u : State) (n : Nat), KeepsQueue u (u.countDropped n) := by
      intro u n
      unfold State.countDropped
      exact keepsQueue_ite (fun _ => .refl u) fun _ => keepsQueue_of_trunk rfl
    rw [takeRow_own]
    exact (entered.trans (counted _ _)).trans
      ((keepsQueue_foldl (fun t (c : Claim) => keepsQueue_roleRemoved t c.id _) _ _).trans
        (keepsQueue_foldl (fun t (c : Claim) => (works_roleAdmitted t c.id).keepsQueue) _ _))
  · rw [takeRow_foreign s b own]
    exact entered

theorem keepsQueue_markTable (commits : List (Addr × Byte × Window)) (lost : List Addr) (m : Window) :
    KeepsQueue s (s.markTable commits lost m) := by
  have marked : ∀ (l : List Claim) (n : Nat), KeepsQueue s ((s.setClaims l).countStale n) :=
    fun _ _ => keepsQueue_of_trunk rfl
  exact (marked _ _).trans ((keepsQueue_foldl (fun t (x : Addr × Byte × Window) =>
    (chores_roleCommitted t x.2.1 x.2.2).works.keepsQueue) _ _).trans
      (keepsQueue_foldl (fun t (c : Claim) => keepsQueue_roleRemoved t c.id _) _ _))

/-! ## The hall condition (chapter 2) -/

theorem keepsQueue_recomputePresence : KeepsQueue s s.recomputePresence := by
  unfold State.recomputePresence
  exact keepsQueue_ite (fun _ => keepsQueue_of_trunk rfl) fun _ => keepsQueue_of_trunk rfl

theorem keepsQueue_takeGate (a : Addr) (b : GateBody) : KeepsQueue s (s.takeGate a b) := by
  unfold State.takeGate
  split
  · refine keepsQueue_ite (fun _ => ?_) fun _ => .refl s
    exact keepsQueue_ite (fun _ => keepsQueue_of_trunk rfl) fun _ => keepsQueue_of_trunk rfl
  · exact .refl s

theorem keepsQueue_takeStop (a : Addr) (b : StopBody) : KeepsQueue s (s.takeStop a b) := by
  unfold State.takeStop
  split
  · rename_i c _
    have added : KeepsQueue s (s.setHall (s.hall.addStop a c)) := keepsQueue_of_trunk rfl
    refine keepsQueue_ite (fun _ => .refl s) fun _ => keepsQueue_ite (fun _ => added) fun _ => ?_
    exact (added.trans (keepsQueue_ite (fun _ => (Works.raise _ _).keepsQueue) fun _ => .refl _)).trans
      (works_roleStopTaken _ _ _).keepsQueue
  · exact .refl s

theorem keepsQueue_removeStop (a : Addr) : KeepsQueue s (s.removeStop a) := by
  unfold State.removeStop
  refine keepsQueue_ite (fun _ => ?_) fun _ => .refl s
  exact keepsQueue_ite (fun _ => keepsQueue_of_trunk rfl) fun _ => keepsQueue_of_trunk rfl

theorem keepsQueue_takeRelease (a : Addr) (b : ReleaseBody) : KeepsQueue s (s.takeRelease a b) := by
  unfold State.takeRelease
  split
  · exact keepsQueue_ite (fun _ => .refl s) fun _ => keepsQueue_ite (fun _ => keepsQueue_removeStop s _) fun _ => .refl s
  · exact .refl s

theorem keepsQueue_mendStop (a : Addr) : KeepsQueue s (s.mendStop a) :=
  keepsQueue_ite (fun _ => keepsQueue_removeStop s a) fun _ => .refl s

theorem keepsQueue_restateStop : KeepsQueue s s.restateStop := by
  unfold State.restateStop
  split
  · exact keepsQueue_ite (fun _ => .refl s) fun _ => keepsQueue_request s _ _ _
  · exact .refl s

/-! ## The sync controller (chapter 5) -/

theorem keepsQueue_mapSync (f : SyncState → SyncState) : KeepsQueue s (s.mapSync f) := keepsQueue_of_trunk rfl

theorem keepsQueue_setSync (x : SyncStatus) : KeepsQueue s (s.setSync x) :=
  keepsQueue_ite (fun _ => keepsQueue_of_trunk rfl) fun _ => keepsQueue_of_trunk rfl

theorem keepsQueue_markRestated : KeepsQueue s s.markRestated := keepsQueue_of_trunk rfl

theorem keepsQueue_requestHello : KeepsQueue s s.requestHello := keepsQueue_request s _ _ _

theorem keepsQueue_askRows (n : Nat) : KeepsQueue s (s.askRows n) :=
  (keepsQueue_mapSync s _).trans (keepsQueue_request _ _ _ _)

theorem keepsQueue_enterExcluded (c : ExclusionCause) : KeepsQueue s (s.enterExcluded c) :=
  (keepsQueue_setSync s _).trans ((keepsQueue_mapSync _ _).trans ((keepsQueue_dropAll _ _).trans
    ((keepsQueue_removeClaims _ _ _).trans ((works_roleExcluded _).trans (.raise _ _)).keepsQueue)))

theorem keepsQueue_onConflict : KeepsQueue s s.onConflict := by
  have told : KeepsQueue s (s.report .addressConflict) := keepsQueue_of_trunk rfl
  unfold State.onConflict
  refine told.trans ?_
  dsimp only
  split
  · exact keepsQueue_enterExcluded _ _
  · exact keepsQueue_enterExcluded _ _
  · exact keepsQueue_enterExcluded _ _
  · exact .refl _

theorem keepsQueue_onRoleConflict (a : Addr) : KeepsQueue s (s.onRoleConflict a) := by
  have told : KeepsQueue s (s.report (.roleConflict a)) := keepsQueue_of_trunk rfl
  unfold State.onRoleConflict
  refine told.trans ?_
  dsimp only
  split
  · exact keepsQueue_enterExcluded _ _
  · exact keepsQueue_enterExcluded _ _
  · exact .refl _

theorem keepsQueue_onParameters (i : StationInfo) : KeepsQueue s (s.onParameters i) :=
  keepsQueue_ite (fun _ => keepsQueue_enterExcluded s _) fun _ => .refl s

theorem keepsQueue_becomeSynced : KeepsQueue s s.becomeSynced :=
  (keepsQueue_setSync s _).trans ((keepsQueue_markRestated _).trans (chores_roleSyncGained _).works.keepsQueue)

theorem keepsQueue_enterDiverged : KeepsQueue s s.enterDiverged :=
  (keepsQueue_setSync s _).trans (((Works.raise _ _).trans (works_roleSyncLost _)).keepsQueue.trans
    (keepsQueue_askRows _ _))

theorem keepsQueue_markRound (v : MarkView) (b : MarkBody) : KeepsQueue s (s.markRound v b) := by
  unfold State.markRound
  split
  · refine keepsQueue_ite (fun _ => ?_) fun _ => ?_
    · refine keepsQueue_ite (fun _ => (keepsQueue_mapSync s _).trans (keepsQueue_becomeSynced _)) fun _ => ?_
      exact (Works.raise s _).keepsQueue.trans (keepsQueue_askRows _ _)
    · exact (keepsQueue_mapSync s _).trans (keepsQueue_ite (fun _ => keepsQueue_askRows _ _) fun _ => .refl _)
  · exact keepsQueue_ite (fun _ => keepsQueue_askRows s _) fun _ => .refl s
  · exact .refl s

theorem keepsQueue_markSync (v : MarkView) (b : MarkBody) : KeepsQueue s (s.markSync v b) := by
  unfold State.markSync
  split
  · exact (keepsQueue_mapSync s _).trans ((keepsQueue_setSync _ _).trans ((keepsQueue_requestHello _).trans
      (keepsQueue_askRows _ _)))
  · exact keepsQueue_markRound s v b
  · exact keepsQueue_markRound s v b
  · exact keepsQueue_ite (fun _ => .refl s) fun _ => keepsQueue_enterDiverged s
  · exact .refl s

theorem keepsQueue_onConfined : KeepsQueue s s.onConfined := by
  unfold State.onConfined
  split
  · exact .refl s
  · exact .refl s
  · exact (keepsQueue_setSync s _).trans ((keepsQueue_mapSync _ _).trans ((keepsQueue_markRestated _).trans
      (works_roleSyncLost _).keepsQueue))

theorem keepsQueue_onLineActive : KeepsQueue s s.onLineActive :=
  keepsQueue_ite (fun _ => (keepsQueue_requestHello s).trans (keepsQueue_askRows _ _)) fun _ => .refl s

theorem keepsQueue_endConfinement : KeepsQueue s s.endConfinement := by
  have opened : KeepsQueue s { s with trunk := { s.trunk with
      line := .active, failCount := 0, failHold := false, confMarks := 0, confExpiries := 0 } } :=
    keepsQueue_of_eq rfl rfl
  exact opened.trans ((keepsQueue_onLineActive _).trans (works_roleLineActive _).keepsQueue)

theorem keepsQueue_enterListenOnly : KeepsQueue s s.enterListenOnly := by
  have confined : KeepsQueue s { s with trunk := { s.trunk with
      line := .listenOnly, failHold := false, confMarks := 0, confExpiries := 0 } } := keepsQueue_of_eq rfl rfl
  have told : ∀ u : State, KeepsQueue u ((u.raise .listenOnly).report .listenOnly) := fun _ => keepsQueue_of_trunk rfl
  exact confined.trans ((keepsQueue_dropAll _ _).trans ((told _).trans
    ((keepsQueue_removeClaims _ _ _).trans (keepsQueue_onConfined _))))

theorem keepsQueue_answerRow (t : AskTarget) : KeepsQueue s (s.answerRow t) :=
  keepsQueue_ite (fun _ => (keepsQueue_request s _ _ _).trans (keepsQueue_restateStop _)) fun _ => .refl s

/-! ## The roster (chapter 3) -/

theorem keepsQueue_hear (a : Addr) : KeepsQueue s (s.hear a) :=
  keepsQueue_ite (fun _ => .refl s) fun _ => keepsQueue_of_trunk rfl

theorem keepsQueue_askUnknown (a : Addr) : KeepsQueue s (s.askUnknown a) := by
  have noted : KeepsQueue s { s with window := { s.window with asked := s.window.asked ++ [a] } } :=
    keepsQueue_of_trunk rfl
  exact keepsQueue_ite (fun _ => noted.trans (keepsQueue_request _ _ _ _)) fun _ => .refl s

theorem keepsQueue_applyInfo (a : Addr) (role : Role) (i : StationInfo) : KeepsQueue s (s.applyInfo a role i) := by
  unfold State.applyInfo
  dsimp only
  generalize s.entryAfter a role i = e
  have told : KeepsQueue s (if entryOf s.roster a = some e then s.setRoster (putEntry e s.roster)
      else (s.setRoster (putEntry e s.roster)).report (.rosterChanged a)) :=
    keepsQueue_ite (fun _ => keepsQueue_of_trunk rfl) fun _ => keepsQueue_of_trunk rfl
  have raised : ∀ (u : State) (l : List Claim), KeepsQueue u (u.setClaims l) := fun _ _ => keepsQueue_of_trunk rfl
  exact (told.trans (raised _ _)).trans ((keepsQueue_ite (fun _ => keepsQueue_removeClaims _ _ _) fun _ => .refl _).trans
    (keepsQueue_ite (fun _ => keepsQueue_recomputePresence _) fun _ => .refl _))

theorem keepsQueue_takeInfo (a : Addr) (i : StationInfo) : KeepsQueue s (s.takeInfo a i) := by
  unfold State.takeInfo
  refine keepsQueue_ite (fun _ => .refl s) fun _ => ?_
  split
  · exact ((keepsQueue_pull s _).trans (keepsQueue_applyInfo _ _ _ _)).trans
      (keepsQueue_ite (fun _ => keepsQueue_onRoleConflict _ _) fun _ => .refl _)
  · exact .refl s

theorem keepsQueue_removeLeaver (a : Addr) : KeepsQueue s (s.removeLeaver a) := by
  have dropped : ∀ (u : State) (l : List RosterEntry), KeepsQueue u ((u.setRoster l).report (.rosterChanged a)) :=
    fun _ _ => keepsQueue_of_trunk rfl
  exact (keepsQueue_removeClaims s _ _).trans (keepsQueue_ite (fun _ => (dropped _ _).trans
    (keepsQueue_recomputePresence _)) fun _ => .refl _)

theorem keepsQueue_answerHello (peer : Bool) (t : AskTarget) : KeepsQueue s (s.answerHello peer t) := by
  have dropped : KeepsQueue s (match peer, t with
      | true, .station a => s.dropAsk a
      | _, _ => s) := by
    split
    · exact keepsQueue_pull s _
    · exact .refl s
  exact dropped.trans (keepsQueue_ite (fun _ => keepsQueue_request _ _ _ _) fun _ => .refl _)

theorem keepsQueue_markRoster (sender : Addr) : KeepsQueue s (s.markRoster sender) := by
  have counted : ∀ l : List RosterEntry, KeepsQueue s (s.setRoster l) := fun _ => keepsQueue_of_trunk rfl
  have cleared : ∀ u : State, KeepsQueue u { u with window := { u.window with asked := [] } } :=
    fun _ => keepsQueue_of_trunk rfl
  exact (counted _).trans ((keepsQueue_foldl (fun s a => (Works.report s (.rosterChanged a) rfl).keepsQueue) _ _).trans
    ((cleared _).trans (keepsQueue_recomputePresence _)))

/-! ## Modes and starts (chapter 10) -/

/-- A start empties the queue (R178). -/
theorem queueLawful_start (c : StartCause) : (s.start c).queueLawful :=
  ⟨Nat.zero_le _, fun _ _ => Nat.zero_le _, Nat.zero_le _, nofun⟩

theorem keepsQueue_mapMode (f : ModeState → ModeState) : KeepsQueue s (s.mapMode f) := keepsQueue_of_trunk rfl

theorem keepsQueue_setMode (x : StationMode) : KeepsQueue s (s.setMode x) :=
  keepsQueue_ite (fun _ => keepsQueue_of_trunk rfl) fun _ => keepsQueue_of_trunk rfl

theorem keepsQueue_backToQuiet : KeepsQueue s s.backToQuiet := (keepsQueue_setMode s _).trans (keepsQueue_mapMode _ _)

theorem keepsQueue_backByShift : KeepsQueue s s.backByShift := (keepsQueue_setMode s _).trans (keepsQueue_mapMode _ _)

theorem keepsQueue_settleMode : KeepsQueue s s.settleMode := by
  unfold State.settleMode
  split
  · refine keepsQueue_ite (fun _ => ?_) fun _ => .refl s
    exact ((keepsQueue_setMode s _).trans (keepsQueue_request _ _ _ _)).trans
      (keepsQueue_ite (fun _ => (Works.cancel _ _).keepsQueue) fun _ => .refl _)
  · refine keepsQueue_ite (fun _ => .refl s) fun _ => ?_
    exact (keepsQueue_pull s _).trans (keepsQueue_ite (fun _ => .refl _) fun _ => keepsQueue_backToQuiet _)
  · exact .refl s

theorem keepsQueue_enterDormant : KeepsQueue s s.enterDormant := by
  have stopped : ∀ u : State, KeepsQueue u { u with
      window := { u.window with timer := none }, sync := { u.sync with listenTimer := none }, seq := u.seq.off } :=
    fun _ => keepsQueue_of_trunk rfl
  exact (keepsQueue_setMode s _).trans ((keepsQueue_dropAll _ _).trans (stopped _))

theorem keepsQueue_helloLeft : KeepsQueue s s.helloLeft :=
  (keepsQueue_enterDormant s).trans (keepsQueue_ite (fun _ _ => queueLawful_start _ _) fun _ => .refl _)

theorem keepsQueue_wakeUp : KeepsQueue s s.wakeUp := by
  unfold State.wakeUp
  split
  · exact fun _ => queueLawful_start s _
  · exact (keepsQueue_pull s _).trans
      (keepsQueue_ite (fun _ => keepsQueue_mapMode _ _) fun _ => keepsQueue_backByShift _)
  · exact .refl s

/-! ## A MARK (R54) -/

theorem keepsQueue_markWindow (m : Window) : KeepsQueue s (s.markWindow m) := by
  have moved : KeepsQueue s { s with window := { s.window with number := m, timer := some 0, expiries := 0 } } :=
    keepsQueue_of_trunk rfl
  exact moved.trans ((keepsQueue_pull _ _).trans (keepsQueue_ite (fun _ => keepsQueue_of_eq rfl rfl) fun _ => .refl _))

theorem keepsQueue_markPresent (own joined : Bool) : KeepsQueue s (s.markPresent own joined) := by
  have unsent : ∀ u : State, KeepsQueue u { u with window := { u.window with sent := false } } :=
    fun _ => keepsQueue_of_trunk rfl
  exact (keepsQueue_ite (fun _ => keepsQueue_request s _ _ _) fun _ => .refl s).trans (unsent _)

theorem keepsQueue_markRecords (own : Bool) (sender : Addr) (b : MarkBody) :
    KeepsQueue s (s.markRecords own sender b) := by
  have planned : ∀ u : State, KeepsQueue u (u.rebuildPlan b.window) := fun _ => keepsQueue_of_trunk rfl
  exact (keepsQueue_markWindow s _).trans ((keepsQueue_markPresent _ _ _).trans ((planned _).trans
    ((keepsQueue_markSync _ _ _).trans ((keepsQueue_markTable _ _ _ _).trans (keepsQueue_markRoster _ _)))))

theorem keepsQueue_consumeOne (m : Window) (e : Inbound) : KeepsQueue s (s.consumeOne m e) := by
  have mapped : ∀ (u : State) (f : CrusherState → CrusherState), KeepsQueue u (u.mapCrusher f) :=
    fun _ _ => keepsQueue_of_trunk rfl
  have judged : ∀ (u : State) (n : Nat), KeepsQueue u (u.judgeHold n) := fun u n => keepsQueue_ite
    (fun _ => (mapped u _).trans ((Works.raise _ _).trans (works_requestGate _)).keepsQueue) fun _ => .refl u
  unfold State.consumeOne
  generalize (if e.arrival = m then s.crusher.current else s.crusher.previous) = r
  have mixed : KeepsQueue s (if e.cls = r.position then s else s.countMixed.raise .mixedArrival) :=
    keepsQueue_ite (fun _ => .refl s) fun _ => keepsQueue_of_trunk rfl
  dsimp only
  split
  · exact mixed.trans ((mapped _ _).trans (judged _ _))
  · exact mapped s _

theorem keepsQueue_markCrusher (m : Window) : KeepsQueue s (s.markCrusher m) := by
  have mapped : ∀ (u : State) (f : CrusherState → CrusherState), KeepsQueue u (u.mapCrusher f) :=
    fun _ _ => keepsQueue_of_trunk rfl
  have turned : KeepsQueue s s.turnDiverter := keepsQueue_of_trunk rfl
  have consumed : ∀ u : State, KeepsQueue u (u.consume m) := fun u =>
    (mapped u _).trans (keepsQueue_foldl (fun s e => keepsQueue_consumeOne s m e) _ _)
  exact turned.trans ((consumed _).trans ((mapped _ _).trans (works_tellHall _).keepsQueue))

theorem keepsQueue_markRole (settling again : Bool) (l : List DoneBody) (m : Window) :
    KeepsQueue s (s.markRole settling again l m) := by
  have unit : ∀ u : State, KeepsQueue u (u.markUnit settling m) := by
    intro u
    unfold State.markUnit
    split
    · exact (works_markDischarge u m).keepsQueue
    · exact (works_markFilter u settling m).keepsQueue
    · exact keepsQueue_markCrusher u m
  have both := (chores_requestDones s l).works.keepsQueue.trans (unit _)
  rw [markRole_eq]
  exact keepsQueue_ite (fun _ => both.trans (works_withdrawCommitted _).keepsQueue) fun _ => both

theorem keepsQueue_markMode : KeepsQueue s s.markMode := by
  unfold State.markMode
  split
  · exact keepsQueue_mapMode s _
  · exact keepsQueue_ite (fun _ => keepsQueue_request s _ _ _) fun _ => .refl s
  · exact .refl s

theorem keepsQueue_takeMark (own : Bool) (sender : Addr) (b : MarkBody) : KeepsQueue s (s.takeMark own sender b) := by
  have confined : ∀ u : State, KeepsQueue u u.markConfined := fun u =>
    keepsQueue_ite (fun _ => keepsQueue_endConfinement u) fun _ => .refl u
  refine keepsQueue_ite (fun _ => .refl s) fun _ => ?_
  exact (keepsQueue_markRecords s own sender b).trans ((keepsQueue_markRole _ _ _ _ _).trans
    ((keepsQueue_markMode _).trans (confined _)))

/-! ## The other frames -/

theorem keepsQueue_takeHello (own : Bool) (a : Addr) (b : HelloBody) : KeepsQueue s (s.takeHello own a b) := by
  unfold State.takeHello
  split
  · exact keepsQueue_takeInfo s a _
  · exact (keepsQueue_pull s _).trans (keepsQueue_removeLeaver _ a)
  · exact .refl s
  · exact (keepsQueue_removeClaims s _ _).trans (keepsQueue_ite (fun _ => keepsQueue_helloLeft _) fun _ => .refl _)

theorem keepsQueue_takeWithdraw (a : Addr) (b : WithdrawBody) : KeepsQueue s (s.takeWithdraw a b) :=
  keepsQueue_ite (fun _ => keepsQueue_removeClaims s _ _) fun _ => .refl s

theorem keepsQueue_addInbound (a : Addr) (b : DoneBody) : KeepsQueue s (s.addInbound a b) := by
  unfold State.addInbound
  refine keepsQueue_ite (fun _ => .refl s) fun _ => keepsQueue_ite (fun _ => .refl s) fun _ => ?_
  exact keepsQueue_ite (fun _ => keepsQueue_of_trunk rfl) fun _ => keepsQueue_of_trunk rfl

theorem keepsQueue_takeDone (a : Addr) (b : DoneBody) : KeepsQueue s (s.takeDone a b) :=
  (keepsQueue_removeClaims s _ _).trans (keepsQueue_ite (fun _ => keepsQueue_addInbound _ _ _) fun _ => .refl _)

theorem keepsQueue_afterOwnStop : KeepsQueue s s.afterOwnStop :=
  keepsQueue_ite (fun _ => (works_compareStop s).keepsQueue) fun _ => .refl s

theorem keepsQueue_takeAsk (own : Bool) (b : AskBody) : KeepsQueue s (s.takeAsk own b) := by
  have opened : KeepsQueue s s.openRound := keepsQueue_of_trunk rfl
  have either : ∀ (c : Prop) [Decidable c], KeepsQueue s (if c then s.openRound else s) := fun _ _ =>
    keepsQueue_ite (fun _ => opened) fun _ => .refl s
  unfold State.takeAsk
  split
  · exact keepsQueue_answerHello s _ _
  · exact (either _).trans (keepsQueue_answerRow _ _)
  · exact .refl s

theorem keepsQueue_recordRow (a : Addr) : KeepsQueue s (s.recordRow a) := by
  unfold State.recordRow
  exact keepsQueue_ite (fun _ => keepsQueue_mapSync s _) fun _ => .refl s

theorem keepsQueue_takeRowFrame (own : Bool) (a : Addr) (b : RowBody) : KeepsQueue s (s.takeRowFrame own a b) := by
  unfold State.takeRowFrame
  split
  · exact (keepsQueue_takeRow s a b).trans (keepsQueue_mendStop _ a)
  · unfold State.takePeerRow
    split
    · have informed := keepsQueue_takeInfo s a b.info
      have entered := informed.trans (keepsQueue_takeRow (s.takeInfo a b.info) a b)
      have recorded := (entered.trans (keepsQueue_mendStop _ a)).trans (keepsQueue_recordRow _ a)
      exact recorded.trans (keepsQueue_onParameters _ b.info)
    · exact keepsQueue_mendStop s a

end

end Sys2Proof.Machine
end


section
/-! SUPPORT. The limits of the outgoing queue at the ends and starts of frames (R71, R74, R76, R78, R79): the one frame in
flight goes with its judgement, and the next starts only on a line that is not busy. -/

namespace Sys2Proof.Machine

section
variable (s : State)

/-! ## Ends of frames -/

/-- With no frame in flight the line may become free. -/
theorem keepsQueue_of_listens {t : State} (listens : s.listens = true) (queue : t.trunk.queue = s.trunk.queue) :
    KeepsQueue s t := by
  have none : (inFlight s.trunk.queue).isSome = false := by
    simp only [State.listens, Bool.and_eq_true, Option.isNone_iff_eq_none] at listens
    simp [listens.2]
  refine keepsQueue_of_waiting (queue ▸ .refl _) ?_
  have grounded : ¬0 < s.trunk.queue.countP QFrame.flying := fun h => by simp [inFlight_isSome.2 h] at none
  rw [queue]
  omega

theorem keepsQueue_hearFrame (a : Addr) (informs : Bool) (listens : s.listens = true) :
    KeepsQueue s (s.hearFrame a informs) := by
  have ended : KeepsQueue s
      (s.countValid.mapTrunk (fun t => { t.frameEnd (t.lastHeard a) with failHold := false })) :=
    keepsQueue_of_listens s listens rfl
  have asked : ∀ u : State, KeepsQueue u (if informs then u else u.askUnknown a) := fun u =>
    keepsQueue_ite (fun _ => .refl u) fun _ => keepsQueue_askUnknown u a
  have conflicted : ∀ u : State, KeepsQueue u (if a = u.own then u.onConflict else u) := fun u =>
    keepsQueue_ite (fun _ => keepsQueue_onConflict u) fun _ => .refl u
  exact ended.trans ((keepsQueue_hear _ a).trans ((asked _).trans (conflicted _)))

/-- The frame in flight leaves the queue with its good listen-back (R78). -/
theorem keepsQueue_ownGood (f : QFrame) : KeepsQueue s (s.ownGood f) := by
  have ended : KeepsQueue s (s.mapTrunk (fun t =>
      { t.frameEnd (some s.own) with failCount := 0, queue := t.queue.filter QFrame.waiting })) := by
    refine keepsQueue_of_waiting (confines_of_sublist List.filter_sublist) (List.countP_eq_zero.2 fun g hg => ?_)
    have waits := (List.mem_filter.1 hg).2
    simpa [QFrame.waiting, QFrame.flying] using waits
  have told : ∀ u : State, KeepsQueue u (u.deliver f.who f.body .sent) := fun u =>
    keepsQueue_of_trunk (deliver_trunk u _ _ _)
  have sent : ∀ u : State, KeepsQueue u { u with window := { u.window with sent := true } } :=
    fun _ => keepsQueue_of_trunk rfl
  exact (ended.trans ((told _).trans ((sent _).trans (keepsQueue_pull _ _)))).trans
    (keepsQueue_ite (fun _ => (works_requestGate _).keepsQueue) fun _ => .refl _)

/-- The blocks take a frame that arrives: the limits hold through its end and through what they make of it. -/
theorem keepsQueue_takeFrame {α : Type} {kind : FrameKind} {informs : Bool} {bodyOf : Body → Option α}
    {take : Bool → Addr → α → State → State} (taken : ∀ own a b u, KeepsQueue u (take own a b u))
    (rx : Rx α) : KeepsQueue s (takeFrame kind informs bodyOf take rx s) := by
  unfold takeFrame
  split
  · exact keepsQueue_ite (fun listens => (keepsQueue_hearFrame s _ _ listens).trans (taken _ _ _ _)) fun _ => .refl s
  · unfold State.fromOwn
    split
    · refine keepsQueue_ite (fun _ => ?_) fun _ => .refl s
      dsimp only
      split
      · exact (keepsQueue_ownGood s _).trans (taken _ _ _ _)
      · exact keepsQueue_ownGood s _
    · exact .refl s

theorem keepsQueue_applyPulled : KeepsQueue s s.applyPulled := by
  have pulled : ∀ (p : QFrame → Bool) (l : List (Block × QBody × Fate)),
      KeepsQueue s ((s.setQueue (s.trunk.queue.filter p)).deliverAll l) := by
    intro p l
    refine Confines.keepsQueue ?_ (by simp)
    rw [deliverAll_trunk]
    exact confines_of_sublist List.filter_sublist
  have failed : ∀ u : State, KeepsQueue u u.helloFailed := fun u =>
    keepsQueue_ite (fun _ => keepsQueue_backByShift u) fun _ => keepsQueue_backToQuiet u
  exact (pulled _ _).trans (keepsQueue_ite (fun _ => failed _) fun _ => .refl _)

/-- The frame in flight waits again after a failed listen-back (R79). -/
theorem keepsQueue_failFrame (received : Option Addr) : KeepsQueue s (s.failFrame received) := by
  have failed : KeepsQueue s (s.countOwnFailure.mapTrunk (fun t =>
      { t.frameEnd received with
        failCount := t.failCount + 1, failHold := true, queue := t.queue.map QFrame.failed })) := by
    have length : (s.trunk.queue.map QFrame.failed).length ≤ max 8 s.trunk.queue.length := by simp
    have bodies : ∀ b : QBody, queuedOf (s.trunk.queue.map QFrame.failed) b = queuedOf s.trunk.queue b := by
      intro b
      simp [queuedOf_eq_countP, List.countP_map, Function.comp_def, failed_body]
    have grounded : (s.trunk.queue.map QFrame.failed).countP QFrame.flying = 0 := by
      rw [List.countP_map]
      refine List.countP_eq_zero.2 fun g _ => ?_
      by_cases flying : g.sent.isSome = true <;> simp [QFrame.flying, QFrame.failed, flying]
    refine keepsQueue_of_waiting ⟨length, fun b _ => ?_, grounded ▸ Nat.zero_le _⟩ grounded
    exact (bodies b).le.trans (Nat.le_max_right _ _)
  refine keepsQueue_ite (fun _ => ?_) fun _ => .refl s
  exact failed.trans ((keepsQueue_applyPulled _).trans
    (keepsQueue_ite (fun _ => keepsQueue_enterListenOnly _) fun _ => .refl _))

/-! ## Starts of frames -/

theorem countP_flying_modify (q : List QFrame) (i : Nat) (k : QFrame → QFrame) :
    (q.modify i k).countP QFrame.flying ≤ q.countP QFrame.flying + 1 := by
  induction q generalizing i with
  | nil => simp
  | cons f q ih =>
    cases i with
    | zero =>
      simp only [List.modify_zero_cons, List.countP_cons]
      split <;> split <;> omega
    | succ i =>
      have := ih i
      simp only [List.modify_succ_cons, List.countP_cons]
      omega

theorem queuedOf_modify (q : List QFrame) (i : Nat) {k : QFrame → QFrame} (body : ∀ f, (k f).body = f.body)
    (b : QBody) : queuedOf (q.modify i k) b = queuedOf q b := by
  rw [queuedOf_eq_countP, queuedOf_eq_countP]
  induction q generalizing i with
  | nil => simp
  | cons f q ih => cases i <;> simp [List.countP_cons, body, ih]

/-- A frame that starts on a line that is not busy is the only one in flight, and makes the line busy (R71, R76). -/
theorem keepsQueue_startFrame (i : Nat) (free : s.trunk.busy = false) : KeepsQueue s (s.startFrame i) := by
  intro hs
  obtain ⟨length, built, _, line⟩ := queueLawful_iff.1 hs
  have grounded : ¬0 < s.trunk.queue.countP QFrame.flying := fun h => by simp [line h] at free
  refine queueLawful_iff.2 ⟨?_, fun b hb => ?_, ?_, fun _ => rfl⟩
  · simpa [State.startFrame] using length
  · simp only [State.startFrame, mapTrunk_trunk]
    rw [queuedOf_modify _ _ (by intro; rfl)]
    exact built b hb
  · have := countP_flying_modify s.trunk.queue i (fun f => { f with sent := some (s.bodyToSend f.body) })
    simp only [State.startFrame, mapTrunk_trunk]
    omega

theorem keepsQueue_enterSlot (x : Slot) : KeepsQueue s (s.enterSlot x) := by
  unfold State.enterSlot
  refine keepsQueue_ite (fun reached => ?_) fun _ => .refl s
  have free : s.trunk.busy = false := by
    rw [Bool.and_eq_true] at reached
    have slot := reached.2
    unfold TrunkState.reaches at slot
    split at slot
    · simpa using (Bool.and_eq_true_iff.1 slot).1
    · cases slot
  have moved : KeepsQueue s
      (s.mapTrunk (fun t => { t with cycle := t.cycle.map (fun c => { c with slot := some x }) })) :=
    keepsQueue_of_eq rfl rfl
  dsimp only
  split
  · exact moved.trans (keepsQueue_startFrame _ _ free)
  · exact moved

end

end Sys2Proof.Machine
end


section
/-! O57: every step keeps the limits of the outgoing queue. -/

namespace Sys2Proof.Machine

section
variable (s : State)

/-! ## The conclusion of an event -/

theorem keepsQueue_concluded (q : SeqState) : KeepsQueue s (s.concluded q) := by
  have settled : KeepsQueue s (s.settle q) := by
    cases awake : s.awake
    · rw [settle_of_asleep q awake]
      exact .refl s
    · rw [settle_of_awake q awake]
      exact ((works_completeSpent s _ _).trans (works_settleRole _ _)).keepsQueue.trans
        ((keepsQueue_settleMode _).trans (works_settleRole _ _).keepsQueue)
  exact settled.trans (keepsQueue_of_trunk (refreshTone_trunk _))

theorem keepsQueue_cleared : KeepsQueue s s.cleared := keepsQueue_of_trunk rfl

theorem keepsQueue_event {f : State → State} (h : ∀ u, KeepsQueue u (f u)) : KeepsQueue s (s.event f) := by
  cases reset : s.inReset
  · rw [event_of_running f reset]
    exact (keepsQueue_cleared s).trans ((h _).trans (keepsQueue_concluded _ _))
  · rw [event_in_reset f reset]
    exact keepsQueue_cleared s

theorem keepsQueue_quiet {f : State → State} (h : ∀ u, KeepsQueue u (f u)) : KeepsQueue s (s.quiet f) := by
  cases reset : s.inReset
  · rw [quiet_of_running f reset]
    exact (keepsQueue_cleared s).trans (h _)
  · rw [quiet_in_reset f reset]
    exact keepsQueue_cleared s

/-- A port transaction leaves the line alone. -/
theorem keepsQueue_transact (args : Nat) (l : List Byte) (r : PortResult) : KeepsQueue s (s.transact args l r) :=
  keepsQueue_of_trunk rfl

theorem keepsQueue_command (args : Nat) {f : State → State × PortResult} (h : ∀ u, KeepsQueue u (f u).1) :
    KeepsQueue s (s.command args f) := by
  refine keepsQueue_event s fun u => KeepsQueue.trans (b := (if u.closed then (u, .refusedState) else f u).1) ?_
    (keepsQueue_transact _ _ _ _)
  split
  · exact .refl u
  · exact h u

theorem keepsQueue_read (f : State → List Byte) : KeepsQueue s (s.read f) :=
  keepsQueue_quiet s fun u => keepsQueue_transact u _ _ _

theorem keepsQueue_readAt (limit size : Nat) (arg : Byte) (f : State → Nat → List Byte) :
    KeepsQueue s (s.readAt limit size arg f) :=
  keepsQueue_quiet s fun u => keepsQueue_ite (fun _ => keepsQueue_transact u _ _ _) fun _ => keepsQueue_transact u _ _ _

/-! ## Line and timers -/

theorem keepsQueue_expireWindow : KeepsQueue s s.expireWindow := by
  have again : KeepsQueue s { s with window := { s.window with
      timer := some 0, expiries := min (s.window.expiries + 1) 2 } } := keepsQueue_of_trunk rfl
  have counted : ∀ u : State, KeepsQueue u (u.mapTrunk (fun t => { t with confExpiries := t.confExpiries + 1 })) :=
    fun _ => keepsQueue_of_eq rfl rfl
  have confined : ∀ u : State, KeepsQueue u u.confinedExpiry := fun u => keepsQueue_ite
    (fun _ => (counted u).trans (keepsQueue_ite (fun _ => keepsQueue_endConfinement _) fun _ => .refl _)) fun _ => .refl u
  exact again.trans ((keepsQueue_ite (fun _ => keepsQueue_request _ _ _ _) fun _ => .refl _).trans (confined _))

theorem keepsQueue_declareAlone : KeepsQueue s s.declareAlone := by
  have timed : ∀ u : State, KeepsQueue u { u with window := { u.window with timer := some 0 } } :=
    fun _ => keepsQueue_of_trunk rfl
  exact (keepsQueue_mapSync s _).trans ((keepsQueue_becomeSynced _).trans ((keepsQueue_requestHello _).trans (timed _)))

/-! ## Measurement, the supply and the field lines -/

theorem keepsQueue_setBand (b : Band) : KeepsQueue s (s.setBand b) := by
  have mapped : ∀ (u : State) (f : FilterState → FilterState), KeepsQueue u (u.mapFilter f) :=
    fun _ _ => keepsQueue_of_trunk rfl
  have opened : ∀ u : State, KeepsQueue u (if u.filter.bypassOpen then u else u.raise .bypassOpen) := fun u =>
    keepsQueue_ite (fun _ => .refl u) fun _ => keepsQueue_of_trunk rfl
  have bypassed : ∀ u : State, KeepsQueue u (if b = .bypass then
      (if u.filter.bypassOpen then u else u.raise .bypassOpen).mapFilter
        (fun u => { u with bypassOpen := true, cleaned := false })
      else u.mapFilter FilterState.closeBypass) := fun u =>
    keepsQueue_ite (fun _ => (opened u).trans (mapped _ _)) fun _ => mapped u _
  have reranked : ∀ u : State, KeepsQueue u (match u.bandRank with
      | some r => u.rerank r
      | none => u) := by
    intro u
    split
    · exact (works_rerank u _).keepsQueue
    · exact .refl u
  refine keepsQueue_ite (fun _ => .refl s) fun _ => ?_
  exact (mapped s (fun u => { u with band := b })).trans ((bypassed _).trans
    (keepsQueue_ite (fun _ => reranked _) fun _ => .refl _))

theorem keepsQueue_captureReady : KeepsQueue s s.captureReady := by
  have taken : ∀ (u : State) (avg : Nat), KeepsQueue u (u.takeCapture avg) := by
    intro u avg
    unfold State.takeCapture
    refine keepsQueue_ite (fun _ => ?_) fun _ => keepsQueue_ite (fun _ => ?_) fun _ => .refl u
    · exact keepsQueue_ite (fun _ => (works_setLots u _).keepsQueue) fun _ => (works_mapLots u _).keepsQueue
    · exact ((works_mapLots u _).trans (works_sealAged _)).keepsQueue.trans
        (keepsQueue_ite (fun _ => (Works.capture _ _).keepsQueue) fun _ => .refl _)
  have emptied : KeepsQueue s ({ s with measure := { s.measure with capture := .empty } }.report .captureReady) :=
    keepsQueue_of_trunk rfl
  unfold State.captureReady
  split
  · exact emptied.trans (taken _ _)
  · exact .refl s

theorem keepsQueue_onEntered (ch : Fin 4) (was now : ChannelStatus) (avg : Nat) :
    KeepsQueue s (s.onEntered ch was now avg) := by
  unfold State.onEntered
  split
  · exact keepsQueue_ite (fun _ => (works_enterBeltFault s).keepsQueue) fun _ => .refl s
  · exact keepsQueue_ite (fun _ => keepsQueue_setBand s _) fun _ =>
      keepsQueue_ite (fun _ => keepsQueue_setBand s _) fun _ => .refl s
  · exact keepsQueue_ite (fun _ => (works_pumpFault s).keepsQueue) fun _ => .refl s
  · exact keepsQueue_ite (fun _ => (works_jam s).keepsQueue) fun _ => .refl s
  · exact keepsQueue_ite (fun _ => keepsQueue_of_trunk rfl) fun _ => .refl s
  · exact .refl s

theorem keepsQueue_completeAverage (ch : Fin 4) (avg : Nat) : KeepsQueue s (s.completeAverage ch avg) := by
  have measured : ∀ m : MeasureState, KeepsQueue s { s with measure := m } := fun _ => keepsQueue_of_trunk rfl
  have entered : ∀ (u : State) (was now : ChannelStatus), KeepsQueue u
      (if now = was then u else (u.report (.entered ch now)).onEntered ch was now avg) := fun u was now =>
    keepsQueue_ite (fun _ => .refl u) fun _ =>
      (Works.report u _ (by rfl)).keepsQueue.trans (keepsQueue_onEntered _ _ _ _ _)
  have averaged : ∀ u : State, KeepsQueue u (u.onAverage ch avg) := by
    intro u
    unfold State.onAverage
    split
    · exact keepsQueue_ite (fun _ => .refl u) fun _ => keepsQueue_setBand u _
    · exact .refl u
  exact (measured _).trans ((entered _ _ _).trans ((Works.report _ (.average ch avg _) rfl).keepsQueue.trans
    ((averaged _).trans (keepsQueue_captureReady _))))

theorem keepsQueue_judgeSupply (avg : Nat) : KeepsQueue s (s.judgeSupply avg) := by
  unfold State.judgeSupply
  split
  · refine keepsQueue_ite (fun _ => ?_) fun _ => .refl s
    exact (keepsQueue_mapMode s _).trans ((works_requestOp _ safeStopOp).trans
      ((Works.raise _ .supplyLow).trans (works_roleSupplyLow _))).keepsQueue
  · refine keepsQueue_ite (fun _ => keepsQueue_mapMode s _) fun _ =>
      keepsQueue_ite (fun _ => ?_) fun _ => keepsQueue_mapMode s _
    exact (keepsQueue_mapMode s _).trans ((Works.complete _ .safeStop).trans (.report _ .supplyNormal rfl)).keepsQueue

theorem keepsQueue_countEdge : KeepsQueue s s.countEdge := by
  have measured : ∀ m : MeasureState, KeepsQueue s ({ s with measure := m }.report .travel) :=
    fun _ => keepsQueue_of_trunk rfl
  refine keepsQueue_ite (fun _ => ?_) fun _ => keepsQueue_of_trunk rfl
  exact (measured _).trans (keepsQueue_ite (fun _ => (works_countTravel _).keepsQueue) fun _ => .refl _)

theorem keepsQueue_onStall : KeepsQueue s s.onStall := by
  unfold State.onStall
  split
  · exact keepsQueue_ite (fun _ => (works_enterBeltFault s).keepsQueue) fun _ => .refl s
  · exact .refl s
  · exact (works_jam s).keepsQueue

theorem keepsQueue_swapBin (n : Nat) : KeepsQueue s (s.swapBin n) := by
  have mapped : ∀ f : CrusherState → CrusherState, KeepsQueue s (s.mapCrusher f) := fun _ => keepsQueue_of_trunk rfl
  exact keepsQueue_ite (fun _ => (mapped _).trans (works_requestGate _).keepsQueue) fun _ => .refl s

theorem keepsQueue_provePump : KeepsQueue s s.provePump := by
  have spent : ∀ q : SeqState, KeepsQueue s { s with seq := q } := fun _ => keepsQueue_of_trunk rfl
  exact (spent _).trans (keepsQueue_ite (fun _ => keepsQueue_of_trunk rfl) fun _ => (works_pumpFault _).keepsQueue)

theorem keepsQueue_reachRunTime (k : OpKind) : KeepsQueue s (s.reachRunTime k) := by
  have spent : ∀ q : SeqState, KeepsQueue s { s with seq := q } := fun _ => keepsQueue_of_trunk rfl
  exact keepsQueue_ite (fun _ => (spent _).trans (works_finishOp _ k).keepsQueue) fun _ => .refl s

theorem keepsQueue_onShift (active : Bool) : KeepsQueue s (s.onShift active) := by
  unfold State.onShift
  split
  · exact ((keepsQueue_setMode s _).trans (keepsQueue_mapMode _ _)).trans
      (keepsQueue_ite (fun _ => (works_sealOpen _ _).keepsQueue) fun _ => .refl _)
  · exact (keepsQueue_setMode s _).trans (keepsQueue_mapMode _ _)
  · exact keepsQueue_wakeUp s
  · exact keepsQueue_wakeUp s
  · exact .refl s

theorem keepsQueue_checkClock (n : Nat) : KeepsQueue s (s.checkClock n) := by
  have left : ∀ u : State, KeepsQueue u u.leaveStartHold := fun u =>
    (keepsQueue_mapMode u _).trans ((keepsQueue_mapSync _ _).trans (keepsQueue_setMode _ _))
  refine keepsQueue_ite (fun _ => ?_) fun _ => ?_
  · exact (keepsQueue_mapMode s _).trans (keepsQueue_ite (fun _ => left _) fun _ => .refl _)
  · exact (keepsQueue_mapMode s _).trans (keepsQueue_ite (fun _ => .refl _) fun _ => (Works.raise _ _).keepsQueue)

theorem keepsQueue_loadImage (image : Option (List Byte)) : KeepsQueue s (s.loadImage image) := by
  unfold State.loadImage
  split <;> exact keepsQueue_of_trunk rfl

/-! ## Control commands -/

theorem keepsQueue_when (c : Bool) {f : State → State} (h : KeepsQueue s (f s)) : KeepsQueue s (s.when c f).1 := by
  unfold State.when
  split
  · exact h
  · exact .refl s

theorem keepsQueue_doHold : KeepsQueue s s.doHold.1 := by
  have held : ∀ d : DischargeState, KeepsQueue s { s with discharge := d } := fun _ => keepsQueue_of_trunk rfl
  have mapped : ∀ f : FilterState → FilterState, KeepsQueue s (s.mapFilter f) := fun _ => keepsQueue_of_trunk rfl
  unfold State.doHold
  split
  · exact (held _).trans (works_withdrawLots _ _).keepsQueue
  · exact (mapped _).trans (keepsQueue_ite (fun _ => .refl _) fun _ => (works_withdrawFlush _).keepsQueue)
  · exact .refl s

theorem keepsQueue_doReleaseHold : KeepsQueue s s.doReleaseHold.1 := by
  unfold State.doReleaseHold
  split <;> exact keepsQueue_of_trunk rfl

theorem keepsQueue_doLotClose : KeepsQueue s s.doLotClose.1 := by
  unfold State.doLotClose
  split
  · exact keepsQueue_when s _ (works_sealOpen s _).keepsQueue
  · exact .refl s

theorem keepsQueue_doFlushNow : KeepsQueue s s.doFlushNow.1 := by
  have asked : KeepsQueue s s.flushSoon :=
    (keepsQueue_of_trunk (t := s.mapFilter (fun u => { u with flushRequest := true })) rfl).trans
      (works_rerank _ _).keepsQueue
  unfold State.doFlushNow
  split
  · exact keepsQueue_when s _ asked
  · exact .refl s

theorem keepsQueue_doClearFault : KeepsQueue s s.doClearFault.1 := by
  unfold State.doClearFault
  split
  · exact keepsQueue_when s _ (keepsQueue_of_trunk rfl)
  · exact keepsQueue_when s _ (keepsQueue_of_trunk rfl)
  · exact keepsQueue_when s _ (works_clearJam s).keepsQueue

theorem keepsQueue_hallRequest (b : QBody) : KeepsQueue s (s.hallRequest b).1 := by
  unfold State.hallRequest
  split
  · exact keepsQueue_request s b .port false
  · exact .refl s

theorem queueLawful_startByPort (c : StartCause) : (s.startByPort c).queueLawful := queueLawful_start s c

theorem keepsQueue_portWake : KeepsQueue s s.portWake := by
  unfold State.portWake
  split
  · exact fun _ => queueLawful_startByPort s _
  · exact (keepsQueue_wakeUp s).trans (keepsQueue_transact _ _ _ _)
  · exact keepsQueue_transact s _ _ _

/-! ## Steps -/

theorem keepsQueue_tick : KeepsQueue s s.tick := by
  have ticked : s.trunk.tick.queue = s.trunk.queue ∧ s.trunk.tick.busy = s.trunk.busy := by
    unfold TrunkState.tick
    split <;> exact ⟨rfl, rfl⟩
  exact keepsQueue_ite (fun _ => keepsQueue_of_eq ticked.1 ticked.2) fun _ => keepsQueue_of_trunk rfl

end

/-- A frame, from its end to the conclusion of the event. -/
theorem keepsQueue_frame (s : State) {α : Type} {kind : FrameKind} {informs : Bool} {bodyOf : Body → Option α}
    {take : Bool → Addr → α → State → State} (rx : Rx α)
    (taken : ∀ own a b u, KeepsQueue u (take own a b u)) : KeepsQueue s (s.event (takeFrame kind informs bodyOf take rx)) :=
  keepsQueue_event s fun u => keepsQueue_takeFrame u taken rx

/-- Each command's meaning keeps the queue within its limits. -/
theorem keepsQueue_exec (i : Instr) {s t : State} (h : exec i s = .next t) : KeepsQueue s t := by
  have only : ∀ {u v : State} {c : Bool}, KeepsQueue u v → KeepsQueue u (if c then v else u) :=
    fun k => keepsQueue_ite (fun _ => k) fun _ => .refl _
  cases i <;> obtain rfl := Host.Outcome.next.inj h
  case mark rx => exact keepsQueue_frame s rx fun own a b u => keepsQueue_takeMark u own a b
  case hello rx => exact keepsQueue_frame s rx fun own a b u => keepsQueue_takeHello u own a b
  case present rx => exact keepsQueue_frame s rx fun _ _ _ u => .refl u
  case claim rx => exact keepsQueue_frame s rx fun own a b u => keepsQueue_takeClaim u own a b
  case withdraw rx => exact keepsQueue_frame s rx fun _ a b u => keepsQueue_takeWithdraw u a b
  case done rx => exact keepsQueue_frame s rx fun _ a b u => keepsQueue_takeDone u a b
  case gate rx => exact keepsQueue_frame s rx fun _ a b u => keepsQueue_takeGate u a b
  case stop rx =>
    refine keepsQueue_frame s rx fun own a b u => ?_
    exact keepsQueue_ite (fun _ => (keepsQueue_takeStop u a b).trans (keepsQueue_afterOwnStop _))
      fun _ => keepsQueue_takeStop u a b
  case release rx =>
    refine keepsQueue_frame s rx fun own a b u => ?_
    exact keepsQueue_ite (fun _ => (keepsQueue_takeRelease u a b).trans (keepsQueue_afterOwnStop _))
      fun _ => keepsQueue_takeRelease u a b
  case ask rx => exact keepsQueue_frame s rx fun own _ b u => keepsQueue_takeAsk u own b
  case row rx => exact keepsQueue_frame s rx fun own a b u => keepsQueue_takeRowFrame u own a b
  case corruptFrame =>
    exact keepsQueue_quiet s fun u => keepsQueue_ite (fun listens => keepsQueue_of_listens u listens rfl) fun _ => .refl u
  case listenBackFailure r => exact keepsQueue_event s fun u => keepsQueue_failFrame u r
  case contentionSlot x => exact keepsQueue_quiet s fun u => keepsQueue_enterSlot u x
  case quietCycle => exact keepsQueue_quiet s fun u => only (keepsQueue_of_eq rfl rfl)
  case cyclePositionTaken =>
    refine keepsQueue_quiet s fun u => keepsQueue_ite (fun may => ?_) fun _ => .refl u
    have free : u.trunk.busy = false := by simpa using (Bool.and_eq_true_iff.1 may).2
    exact keepsQueue_of_eq rfl free.symm
  case frameStart =>
    refine keepsQueue_quiet s fun u => only fun hu => ?_
    obtain ⟨length, built, flying, _⟩ := hu
    exact ⟨length, built, flying, fun _ => rfl⟩
  case windowTimerExpiry => exact keepsQueue_event s fun u => only (keepsQueue_expireWindow u)
  case listeningTimerExpiry => exact keepsQueue_event s fun u => only (keepsQueue_declareAlone u)
  case channelAverage ch conv => exact keepsQueue_event s fun u => only (keepsQueue_completeAverage u _ _)
  case vfsAverage conv => exact keepsQueue_event s fun u => only (keepsQueue_judgeSupply u _)
  case encoderEdge => exact keepsQueue_event s fun u => only (keepsQueue_countEdge u)
  case stall =>
    have told : ∀ u : State, KeepsQueue u
        ({ u with measure := { u.measure with stallTimer := some 0 } }.report .stall) := fun _ => keepsQueue_of_trunk rfl
    exact keepsQueue_event s fun u => only ((told u).trans (keepsQueue_onStall _))
  case classCodeChange code =>
    have pins : KeepsQueue s { s with pins := { s.pins with classCode := code } } := keepsQueue_of_trunk rfl
    exact pins.trans (keepsQueue_event _ fun u => only (works_sealOpen u _).keepsQueue)
  case lotEnd => exact keepsQueue_event s fun u => only (works_sealOpen u _).keepsQueue
  case binSwap bin => exact keepsQueue_event s fun u => only (keepsQueue_swapBin u _)
  case jamClear => exact keepsQueue_event s fun u => only (works_clearJam u).keepsQueue
  case shiftChange active =>
    have pins : KeepsQueue s { s with pins := { s.pins with shift := active } } := keepsQueue_of_trunk rfl
    exact pins.trans (keepsQueue_event _ fun u => keepsQueue_onShift u active)
  case indexComplete => exact keepsQueue_event s fun u => keepsQueue_reachRunTime u _
  case flushComplete => exact keepsQueue_event s fun u => keepsQueue_reachRunTime u _
  case reverseComplete => exact keepsQueue_event s fun u => keepsQueue_reachRunTime u _
  case pumpProving => exact keepsQueue_event s fun u => only (keepsQueue_provePump u)
  case recurrenceIntervalExpiry => exact keepsQueue_quiet s fun u => only (keepsQueue_of_trunk rfl)
  case driveCycleStart => exact keepsQueue_quiet s fun u => only (keepsQueue_of_trunk rfl)
  case clockCheck n => exact keepsQueue_event s fun u => only (keepsQueue_checkClock u n)
  case configLoad image => exact keepsQueue_event s fun u => only (keepsQueue_loadImage u image)
  case logicSupplyLow => exact fun _ => queueLawful_start s.cleared s.mode.startCause
  case logicSupplySettled b => exact fun _ => queueLawful_start s.cleared _
  case spiIncomplete => exact keepsQueue_quiet s fun _ => keepsQueue_of_trunk rfl
  case unknownCommand code => exact keepsQueue_quiet s fun u => keepsQueue_transact u _ _ _
  case readStatus => exact keepsQueue_read s _
  case readRoster arg => exact keepsQueue_readAt s _ _ _ _
  case readClaim arg => exact keepsQueue_readAt s _ _ _ _
  case readPlan arg => exact keepsQueue_readAt s _ _ _ _
  case readHallCondition => exact keepsQueue_read s _
  case readLot arg => exact keepsQueue_readAt s _ _ _ _
  case readChannel arg => exact keepsQueue_readAt s _ _ _ _
  case readCounters => exact keepsQueue_read s _
  case readStartCause => exact keepsQueue_read s _
  case peekAttention => exact keepsQueue_read s _
  case takeAttention => exact keepsQueue_quiet s fun _ => keepsQueue_of_trunk rfl
  case attentionCopy => exact keepsQueue_quiet s fun _ => keepsQueue_of_trunk rfl
  case hold => exact keepsQueue_command s _ keepsQueue_doHold
  case releaseHold => exact keepsQueue_command s _ keepsQueue_doReleaseHold
  case lotClose => exact keepsQueue_command s _ keepsQueue_doLotClose
  case flushNow => exact keepsQueue_command s _ keepsQueue_doFlushNow
  case clearFault => exact keepsQueue_command s _ keepsQueue_doClearFault
  case hallStop => exact keepsQueue_command s _ fun u => keepsQueue_hallRequest u _
  case hallRelease => exact keepsQueue_command s _ fun u => keepsQueue_hallRequest u _
  case forceRelease arg =>
    refine keepsQueue_command s _ fun u => ?_
    split
    · exact .refl u
    · exact keepsQueue_hallRequest u _
  case leave => exact keepsQueue_command s _ fun u => keepsQueue_when u _ (keepsQueue_mapMode u _)
  case wake => exact keepsQueue_event s keepsQueue_portWake
  case reset => exact keepsQueue_event s fun u _ => queueLawful_startByPort u _

/-- Settles O57: requests, withdrawals and emptyings keep the limits of the queue, a frame starts on a free line alone,
and its judgement takes it out of flight before the line is free again. -/
theorem queueStaysLawful : Obligations.QueueStaysLawful := by
  intro s t hs h
  unfold step at h
  split at h
  · rename_i c rest _
    have queued : KeepsQueue s { s with pending := rest } := keepsQueue_of_trunk rfl
    exact (queued.trans (keepsQueue_exec c h)) hs
  · obtain rfl := Host.Outcome.next.inj h
    exact keepsQueue_tick s hs

end Sys2Proof.Machine
end


section
/-! O26: a corrupt frame, a quiet cycle, a cycle position taken and a frame start. -/

namespace Sys2Proof.Machine

/-- An event that no standing condition reads, taken by an awake station where its condition holds. -/
theorem quiet_of_guard (c : State → Bool) (f : State → State) {s : State} (awake : s.awake = true)
    (holds : c s.cleared = true) : s.quiet (fun s => if c s then f s else s) = f s.cleared := by
  rw [quiet_of_running _ (notReset_of_awake awake), if_pos holds]

/-- Settles O26: each of the four is one update of the line record, made where its condition holds. -/
theorem lineMoves : Obligations.LineMoves := by
  intro s
  refine ⟨fun listens => ?_, fun awake position free => ?_, fun awake position free => ?_, fun awake => ?_⟩
  · exact congrArg Host.Outcome.next (quiet_of_guard State.listens _ (awake_of_listens listens) listens)
  · have holds : (s.awake && s.trunk.cycle.isSome && !s.trunk.busy) = true := by
      simp [awake, free, Option.isSome_iff_ne_none, position]
    exact congrArg Host.Outcome.next
      (quiet_of_guard (fun s => s.awake && s.trunk.cycle.isSome && !s.trunk.busy) _ awake holds)
  · have holds : (s.awake && s.trunk.cycle.isNone && !s.trunk.busy) = true := by simp [awake, free, position]
    exact congrArg Host.Outcome.next
      (quiet_of_guard (fun s => s.awake && s.trunk.cycle.isNone && !s.trunk.busy) _ awake holds)
  · exact congrArg Host.Outcome.next (quiet_of_guard State.awake _ awake awake)

end Sys2Proof.Machine
end


section
/-! O50: HALL STOP, HALL RELEASE and FORCE RELEASE. -/

namespace Sys2Proof.Machine

/-! ## Requests that the full queue refuses (R86) -/

theorem enter_refused {q : List QFrame} {f : QFrame} {why : RefuseReason} (h : (enter q f).fate = .refused why) :
    enter q f = ⟨q, .refused .full, []⟩ := by
  rcases enter_cases q f with room | ⟨full, i, v, victim⟩ | ⟨full, none_worse⟩
  · rw [enter_of_room room] at h
    cases h
  · rw [enter_of_victim full victim] at h
    cases h
  · exact enter_of_full full none_worse

/-- The body is that of a STOP or a RELEASE. -/
def QBody.hallCall (b : QBody) : Prop := (∃ c, b = .stop c) ∨ ∃ r, b = .release r

theorem settleRequest_hallCall (q : List QFrame) {f : QFrame} (holds : Byte → Bool) (h : f.body.hallCall) :
    settleRequest q f holds = enter q f := by
  rcases h with ⟨c, hc⟩ | ⟨r, hr⟩
  · exact settleRequest_other q holds (by simp [QBody.built, hc]) (by simp [hc]) (by simp [hc])
  · exact settleRequest_other q holds (by simp [QBody.built, hr]) (by simp [hr]) (by simp [hr])

/-! ## The request through the port (R189) -/

section
variable {s : State} {b : QBody}

/-- The station may call the hall: its line is ACTIVE, and it is neither LISTENING nor EXCLUDED (R189). -/
def State.mayCall (s : State) : Prop :=
  s.trunk.line = .active ∧ (s.sync.status = .syncing ∨ s.sync.status = .synced ∨ s.sync.status = .diverged)

/-- The queue does not refuse a request of the port (R86). -/
def State.takesCall (s : State) (b : QBody) : Prop := ∀ why,
  (settleRequest s.trunk.queue (newFrame b .port false) (fun id => (s.ownClaim id).isSome)).fate ≠ .refused why

theorem mayCall_iff : (s.lineActive && s.sync.status.joined) = true ↔ s.mayCall := by
  unfold State.mayCall State.lineActive SyncStatus.joined
  cases s.sync.status <;> simp

/-- A station that may call settles the request against its queue. -/
theorem settleOf_of_mayCall (may : s.mayCall) (who : Block) (u : Bool) : s.settleOf b who u =
    settleRequest s.trunk.queue (newFrame b who u) (fun id => (s.ownClaim id).isSome) := by
  obtain ⟨line, status⟩ := may
  unfold State.settleOf
  rw [if_neg (by rcases status with h | h | h <;> simp [h, SyncStatus.isExcluded]), if_neg (by simp [line])]

theorem refuses_iff (may : s.mayCall) : s.refuses b .port = true ↔ ¬s.takesCall b := by
  unfold State.refuses State.takesCall
  rw [settleOf_of_mayCall may]
  split
  · rename_i why refused
    exact ⟨fun _ takes => takes why refused, fun _ => rfl⟩
  · rename_i other
    exact ⟨nofun, fun refused => absurd other refused⟩

/-- A refused STOP or RELEASE leaves the queue as it is, and the port is told FULL (R88). -/
theorem request_refused (may : s.mayCall) (call : b.hallCall) (refused : ¬s.takesCall b) :
    s.request b .port = s.report (.fate .port b (.refused .full)) := by
  have settled : s.settleOf b .port false = ⟨s.trunk.queue, .refused .full, []⟩ := by
    obtain ⟨why, h⟩ := not_forall.1 refused
    rw [not_not, settleRequest_hallCall _ _ call] at h
    rw [settleOf_of_mayCall may, settleRequest_hallCall _ _ call]
    exact enter_refused h
  unfold State.request
  rw [settled]
  rcases call with ⟨c, rfl⟩ | ⟨r, rfl⟩ <;> rfl

theorem hallRequest_taken (may : s.mayCall) (takes : s.takesCall b) : s.hallRequest b = (s.request b .port, .ok) := by
  have kept : ¬s.refuses b .port = true := fun h => (refuses_iff may).1 h takes
  unfold State.hallRequest
  rw [if_pos (mayCall_iff.2 may), if_neg kept]

theorem hallRequest_refused (may : s.mayCall) (call : b.hallCall) (refused : ¬s.takesCall b) :
    s.hallRequest b = (s.report (.fate .port b (.refused .full)), .refusedState) := by
  unfold State.hallRequest
  rw [if_pos (mayCall_iff.2 may), if_pos ((refuses_iff may).2 refused), request_refused may call refused]

theorem hallRequest_unable (may : ¬s.mayCall) : s.hallRequest b = (s, .refusedState) := by
  unfold State.hallRequest
  rw [if_neg (fun h => may (mayCall_iff.1 h))]

/-- The outcome of a command that requests a STOP or RELEASE, outside START_HOLD and DORMANT. -/
theorem command_hallRequest {args : Nat} {f : State → State × PortResult} (running : s.inReset = false)
    (opened : s.closed = false) (call : b.hallCall) (requests : f s.cleared = s.cleared.hallRequest b) :
    (s.mayCall → s.takesCall b → (Host.Outcome.next (s.command args f) : Result) =
      .next (((s.cleared.request b .port).transact args [] .ok).concluded s.seq)) ∧
    (s.mayCall → ¬s.takesCall b → (Host.Outcome.next (s.command args f) : Result) =
      .next (((s.cleared.report (.fate .port b (.refused .full))).transact args [] .refusedState).concluded s.seq)) ∧
    (¬s.mayCall → (Host.Outcome.next (s.command args f) : Result) =
      .next ((s.cleared.transact args [] .refusedState).concluded s.seq)) := by
  rw [command_of_open args f running opened, requests]
  have may_cleared : s.cleared.mayCall ↔ s.mayCall := Iff.rfl
  have takes_cleared : s.cleared.takesCall b ↔ s.takesCall b := Iff.rfl
  refine ⟨fun may takes => ?_, fun may refused => ?_, fun may => ?_⟩
  · rw [hallRequest_taken (may_cleared.2 may) (takes_cleared.2 takes)]
  · rw [hallRequest_refused (may_cleared.2 may) call (mt takes_cleared.1 refused)]
  · rw [hallRequest_unable (mt may_cleared.1 may)]

end

/-- Settles O50: each of the three commands is one request of the port, judged by line, sync state and queue. -/
theorem hallCommands : Obligations.HallCommands := by
  intro s running opened
  refine ⟨?_, ?_, fun arg => ⟨fun within => ?_, fun beyond => ?_⟩⟩
  · exact command_hallRequest running opened (.inl ⟨_, rfl⟩)
      (f := fun s => s.hallRequest (.stop ⟨byteOf StopCause.operator.code⟩)) rfl
  · exact command_hallRequest running opened (.inr ⟨_, rfl⟩)
      (f := fun s => s.hallRequest (.release ⟨addrByte s.own, false⟩)) rfl
  · exact command_hallRequest running opened (.inr ⟨_, rfl⟩)
      (f := fun s => if 31 < arg.toNat then (s, .badArg) else s.hallRequest (.release ⟨arg, true⟩))
      (if_neg (Nat.not_lt.2 within))
  · refine congrArg Host.Outcome.next ?_
    rw [command_of_open _ _ running opened, if_pos beyond]

end Sys2Proof.Machine
end


section
/-! O25: what a request makes of the outgoing queue, whom it tells, and what a fate settles. -/

namespace Sys2Proof.Machine

/-! ## What a request tells (R88) -/

theorem request_told (s : State) (b : QBody) (who : Block) (u : Bool) : (s.request b who u).reports =
    s.reports ++ (s.settleOf b who u).others.map (fun x => .fate x.1 x.2.1 x.2.2) ++
      [.fate who b (s.settleOf b who u).fate] := by
  unfold State.request
  rw [deliver_reports, deliverAll_reports]
  rfl

theorem fate_told (s : State) (b : QBody) (who : Block) (u : Bool) :
    Report.fate who b (s.settleOf b who u).fate ∈ (s.request b who u).reports := by
  simp [request_told]

theorem others_told {s : State} {b : QBody} {who : Block} {u : Bool} {x : Block × QBody × Fate}
    (h : x ∈ (s.settleOf b who u).others) : Report.fate x.1 x.2.1 x.2.2 ∈ (s.request b who u).reports := by
  rw [request_told]
  exact List.mem_append_left _ (List.mem_append_right _ (List.mem_map.2 ⟨x, h, rfl⟩))

/-! ## The station's answer before the queue's (R80, R95) -/

section
variable (s : State) (b : QBody) (who : Block) (u : Bool)

theorem isExcluded_iff (x : SyncStatus) : x.isExcluded = true ↔ ∃ c, x = .excluded c := by
  cases x <;> simp [SyncStatus.isExcluded]

theorem settleOf_excluded (h : ∃ c, s.sync.status = .excluded c) :
    s.settleOf b who u = ⟨s.trunk.queue, .refused .excluded, []⟩ := if_pos ((isExcluded_iff _).2 h)

theorem settleOf_listenOnly (joined : ∀ c, s.sync.status ≠ .excluded c) (line : s.trunk.line = .listenOnly) :
    s.settleOf b who u = ⟨s.trunk.queue, .refused .listenOnly, []⟩ := by
  unfold State.settleOf
  rw [if_neg (fun h => ((isExcluded_iff _).1 h).elim joined), if_pos line]

theorem settleOf_active (joined : ∀ c, s.sync.status ≠ .excluded c) (line : s.trunk.line = .active) :
    s.settleOf b who u =
      settleRequest s.trunk.queue (newFrame b who u) (fun id => (s.ownClaim id).isSome) := by
  unfold State.settleOf
  rw [if_neg (fun h => ((isExcluded_iff _).1 h).elim joined), if_neg (by simp [line])]

end

/-! ## Entry, as a request tells it (R86) -/

/-- The request's frame `f` enters the queue `r`: last, in place of the frame that R86 displaces, or not at all. -/
def Enters (t : State) (f : QFrame) (r : List QFrame) : Prop :=
  (r.length < 8 → t.trunk.queue = r ++ [f] ∧ Report.fate f.who f.body .queued ∈ t.reports) ∧
  (8 ≤ r.length → (∀ g ∈ r, g.sent = none → g.cls ≤ f.cls) →
    t.trunk.queue = r ∧ Report.fate f.who f.body (.refused .full) ∈ t.reports) ∧
  ∀ (i : Nat) (v : QFrame), 8 ≤ r.length → r[i]? = some v → v.sent = none → f.cls < v.cls →
    (∀ (j : Nat) (g : QFrame), r[j]? = some g → g.sent = none → g.cls < v.cls ∨ (g.cls = v.cls ∧ j ≤ i)) →
    t.trunk.queue = r.eraseIdx i ++ [f] ∧ Report.fate f.who f.body .queued ∈ t.reports ∧
      Report.fate v.who v.body .displaced ∈ t.reports

/-- The answer of the queue is that of entering `f` into `r`, once other frames have left. -/
theorem enters_of_settled {s : State} {b : QBody} {who : Block} {u : Bool} {r : List QFrame}
    (queue : (s.settleOf b who u).queue = (enter r (newFrame b who u)).queue)
    (fate : (s.settleOf b who u).fate = (enter r (newFrame b who u)).fate)
    (others : (enter r (newFrame b who u)).others ⊆ (s.settleOf b who u).others) :
    Enters (s.request b who u) (newFrame b who u) r := by
  have told := fate_told s b who u
  rw [← request_queue s b who u] at queue
  rw [fate] at told
  refine ⟨fun room => ?_, fun full none_worse => ?_, fun i v full here waits worse worst => ?_⟩
  · rw [enter_of_room room] at queue told
    exact ⟨queue, told⟩
  · rw [enter_of_full full none_worse] at queue told
    exact ⟨queue, told⟩
  · have victim : IsVictim (newFrame b who u).cls r i v := ⟨here, waits, worse, worst⟩
    rw [enter_of_victim full victim] at queue told others
    exact ⟨queue, told, others_told (others List.mem_cons_self)⟩

theorem enters_of_eq {s : State} {b : QBody} {who : Block} {u : Bool} {r : List QFrame}
    (settled : s.settleOf b who u = enter r (newFrame b who u)) : Enters (s.request b who u) (newFrame b who u) r :=
  enters_of_settled (by rw [settled]) (by rw [settled]) (by rw [settled]; exact List.Subset.refl _)

/-! ## The request by the kind of its body (R84, R85) -/

section
variable {s : State} {b : QBody} {who : Block} {u : Bool}

theorem request_absorbed (joined : ∀ c, s.sync.status ≠ .excluded c) (line : s.trunk.line = .active) (built : b.built)
    (queued : ∃ g ∈ s.trunk.queue, g.body = b) : Report.fate who b .absorbed ∈ (s.request b who u).reports ∧
      (s.request b who u).trunk.queue = s.trunk.queue.map (fun g =>
        if b = .gate ∧ g.body = .gate ∧ g.sent.isSome = true then { g with followUp := true } else g) := by
  have there : s.trunk.queue.any (fun g => g.body = (newFrame b who u).body) = true := by
    obtain ⟨g, hg, same⟩ := queued
    exact List.any_eq_true.2 ⟨g, hg, decide_eq_true same⟩
  have settled := settleOf_active s b who u joined line
  rw [settleRequest_built _ _ (f := newFrame b who u) built, if_pos there] at settled
  have told := fate_told s b who u
  rw [request_queue]
  rw [settled] at told ⊢
  refine ⟨told, ?_⟩
  by_cases gate : b = .gate
  · subst gate
    exact List.map_congr_left fun g _ => by simp [markFollowUp]
  · simp [newFrame, gate]

theorem request_enters_built (joined : ∀ c, s.sync.status ≠ .excluded c) (line : s.trunk.line = .active)
    (built : b.built) (new : ∀ g ∈ s.trunk.queue, g.body ≠ b) :
    Enters (s.request b who u) (newFrame b who u) s.trunk.queue := by
  have none : ¬s.trunk.queue.any (fun g => g.body = (newFrame b who u).body) = true := by
    intro there
    obtain ⟨g, hg, same⟩ := List.any_eq_true.1 there
    exact new g hg (of_decide_eq_true same)
  have settled := settleOf_active s b who u joined line
  rw [settleRequest_built _ _ (f := newFrame b who u) built, if_neg none] at settled
  exact enters_of_eq settled

theorem request_claim (joined : ∀ c, s.sync.status ≠ .excluded c) (line : s.trunk.line = .active) (c : ClaimBody) :
    ((∃ g ∈ s.trunk.queue, g.waitingClaim c.id = true) →
      Report.fate who (.claim c) .replaced ∈ (s.request (.claim c) who u).reports ∧
      (s.request (.claim c) who u).trunk.queue =
        s.trunk.queue.map (fun g => if g.waitingClaim c.id then { g with body := .claim c } else g)) ∧
    ((∀ g ∈ s.trunk.queue, g.waitingClaim c.id = false) →
      Enters (s.request (.claim c) who u) (newFrame (.claim c) who u) s.trunk.queue) := by
  have settled := settleOf_active s (.claim c) who u joined line
  rw [settleRequest_claim _ _ (f := newFrame (.claim c) who u) rfl] at settled
  refine ⟨fun waiting => ?_, fun none => ?_⟩
  · have told := fate_told s (.claim c) who u
    rw [if_pos (List.any_eq_true.2 waiting)] at settled
    rw [request_queue]
    rw [settled] at told ⊢
    exact ⟨told, rfl⟩
  · rw [if_neg (by simpa using none)] at settled
    exact enters_of_eq settled

theorem request_enters_other (joined : ∀ c, s.sync.status ≠ .excluded c) (line : s.trunk.line = .active)
    (hb : ¬b.built) (hc : ∀ c, b ≠ .claim c) (hw : ∀ w, b ≠ .withdraw w) :
    Enters (s.request b who u) (newFrame b who u) s.trunk.queue := by
  have settled := settleOf_active s b who u joined line
  rw [settleRequest_other _ (f := newFrame b who u) _ hb hc hw] at settled
  exact enters_of_eq settled

/-! ### A WITHDRAW -/

theorem ownClaim_isSome (s : State) (id : Byte) :
    (s.ownClaim id).isSome = true ↔ ∃ c ∈ s.table.claims, c.owner = s.own ∧ c.id = id := by
  simp [State.ownClaim, List.find?_isSome]

theorem withdrawOf_iff (g : QFrame) (w : WithdrawBody) : g.withdrawOf w.id = true ↔ g.body = .withdraw w := by
  unfold QFrame.withdrawOf
  cases g.body with
  | withdraw v =>
    obtain ⟨id⟩ := v
    obtain ⟨id'⟩ := w
    simp
  | _ => simp

theorem cancelledBy_ne_nil {q : List QFrame} {id : Byte} :
    cancelledBy q id ≠ [] ↔ (withoutClaim q id).length < q.length := by
  unfold cancelledBy withoutClaim
  rw [List.length_filter_lt_length_iff_exists]
  simp [List.filter_eq_nil_iff]

theorem request_withdraw (joined : ∀ c, s.sync.status ≠ .excluded c) (line : s.trunk.line = .active)
    (w : WithdrawBody) :
    let t := s.request (.withdraw w) who u
    let rest := withoutClaim s.trunk.queue w.id
    let held := ∃ c ∈ s.table.claims, c.owner = s.own ∧ c.id = w.id
    (∀ g ∈ s.trunk.queue, g.waitingClaim w.id = true → Report.fate g.who g.body .cancelled ∈ t.reports) ∧
    (rest.length < s.trunk.queue.length → ¬held →
      t.trunk.queue = rest ∧ Report.fate who (.withdraw w) .cancelled ∈ t.reports) ∧
    (rest = s.trunk.queue ∨ held → (∃ g ∈ rest, g.body = .withdraw w) →
      t.trunk.queue = rest ∧ Report.fate who (.withdraw w) .absorbed ∈ t.reports) ∧
    (rest = s.trunk.queue ∨ held → (∀ g ∈ rest, g.body ≠ .withdraw w) →
      Enters t (newFrame (.withdraw w) who u) rest) := by
  intro t rest held
  have settled := settleOf_active s (.withdraw w) who u joined line
  rw [settleRequest_withdraw _ _ (f := newFrame (.withdraw w) who u) rfl] at settled
  have told := fate_told s (.withdraw w) who u
  have queue := request_queue s (.withdraw w) who u
  have held_iff : (s.ownClaim w.id).isSome = false ↔ ¬held := by
    rw [← Bool.not_eq_true, ownClaim_isSome]
  have kept : rest = s.trunk.queue ∨ held →
      ¬(cancelledBy s.trunk.queue w.id ≠ [] ∧ (s.ownClaim w.id).isSome = false) := by
    rintro (same | h) ⟨some, lacks⟩
    · exact absurd (congrArg List.length same) (cancelledBy_ne_nil.1 some).ne
    · exact held_iff.1 lacks h
  have any_iff : rest.any (fun g => g.withdrawOf w.id) = true ↔ ∃ g ∈ rest, g.body = .withdraw w := by
    simp [List.any_eq_true, withdrawOf_iff]
  refine ⟨fun g hg waits => ?_, fun fewer lacks => ?_, fun stands there => ?_, fun stands new => ?_⟩
  · have among : (g.who, g.body, Fate.cancelled) ∈ cancelledBy s.trunk.queue w.id :=
      List.mem_map.2 ⟨g, List.mem_filter.2 ⟨hg, waits⟩, rfl⟩
    refine others_told (x := (g.who, g.body, Fate.cancelled)) ?_
    rw [settled]
    split
    · exact among
    · split
      · exact among
      · exact List.mem_append_left _ among
  · rw [if_pos ⟨cancelledBy_ne_nil.2 fewer, held_iff.2 lacks⟩] at settled
    rw [settled] at told queue
    exact ⟨queue, told⟩
  · rw [if_neg (kept stands), if_pos (any_iff.2 there)] at settled
    rw [settled] at told queue
    exact ⟨queue, told⟩
  · have none : ¬rest.any (fun g => g.withdrawOf w.id) = true := fun h => by
      obtain ⟨g, hg, same⟩ := any_iff.1 h
      exact new g hg same
    rw [if_neg (kept stands), if_neg none] at settled
    exact enters_of_settled (by rw [settled]) (by rw [settled]) (by rw [settled]; exact List.subset_append_right _ _)

end

/-! ## What a fate settles (R118, R124, R138, R141) -/

theorem deliver_claim_lots {s : State} (role : s.cfg.role = .discharge) (c : ClaimBody) (x : Fate) :
    (s.deliver .role (.claim c) x).discharge.lots = s.discharge.lots.map (Lot.claimFate c.id x) := by
  simp [State.deliver, State.claimFate, role]

theorem deliver_claim_filter {s : State} (role : s.cfg.role = .filter) (c : ClaimBody) (x : Fate) :
    (s.deliver .role (.claim c) x).filter = s.filter.claimFate c.id x := by
  simp [State.deliver, State.claimFate, role]

theorem deliver_done_lots {s : State} (role : s.cfg.role = .discharge) (d : DoneBody) (x : Fate) :
    (s.deliver .role (.done d) x).discharge.pending = doneFates d x s.discharge.pending := by
  simp [State.deliver, State.doneFate, role]

theorem deliver_done_filter {s : State} (role : s.cfg.role = .filter) (d : DoneBody) (x : Fate) :
    (s.deliver .role (.done d) x).filter.pending = (s.filter.doneFate d x).pending := by
  simp [State.deliver, State.doneFate, role]

/-- Settles O25: a request is settled as the kind of its body says, every fate it settles is reported, and a fate changes
what its requester keeps of the request. -/
theorem requestSettled : Obligations.RequestSettled := by
  refine ⟨fun b => by cases b <;> rfl, ?_, ?_, ?_⟩
  · intro s b who urgent t q f told claims built enters
    have claims_eq : ∀ (id : Byte) (g : QFrame), claims id g = g.waitingClaim id := by
      intro id g
      simp only [claims, QFrame.waitingClaim, QFrame.waiting]
      cases g.body <;> simp
    have told_fate : told (s.settleOf b who urgent).fate := fate_told s b who urgent
    have queue : t.trunk.queue = (s.settleOf b who urgent).queue := request_queue s b who urgent
    refine ⟨untouched_request s b who urgent, fun excluded => ?_, fun joined line => ?_, fun joined line => ?_⟩
    · rw [settleOf_excluded s b who urgent excluded] at told_fate queue
      exact ⟨queue, told_fate⟩
    · rw [settleOf_listenOnly s b who urgent joined line] at told_fate queue
      exact ⟨queue, told_fate⟩
    · refine ⟨request_absorbed joined line, request_enters_built joined line, ?_, ?_,
        request_enters_other joined line⟩
      · rintro c rfl
        obtain ⟨replaced, entered⟩ := request_claim (who := who) (u := urgent) joined line c
        simp only [claims_eq]
        exact ⟨replaced, entered⟩
      · rintro w rfl
        simp only [claims_eq]
        exact request_withdraw joined line w
  · intro s c x failed gone
    refine ⟨fun role => ?_, fun role => ?_⟩
    · rw [deliver_claim_lots role]
      refine List.map_congr_left fun l _ => ?_
      unfold Lot.claimFate
      by_cases sealed : l.claimId = some c.id ∧ l.status = .sealed
      · cases x <;> simp [sealed, failed, gone]
      · rw [if_neg sealed, if_neg fun h => sealed ⟨h.1, h.2.1⟩]
    · rw [deliver_claim_filter role]
      unfold FilterState.claimFate
      by_cases online : s.filter.claimId = some c.id ∧ s.filter.mode = .online
      · cases x <;> simp [online, failed, gone]
      · rw [if_neg online, if_neg fun h => online ⟨h.1, h.2.1⟩]
  · intro s d x after
    have after_eq : ∀ p : PendingDone, (if p.body = d then p.fate x else some p) = after p := by
      intro p
      by_cases same : p.body = d
      · cases x with
        | refused why => cases why <;> simp [after, same, PendingDone.fate]
        | _ => simp [after, same, PendingDone.fate]
      · simp [after, same]
    refine ⟨fun role => ?_, fun role => ?_⟩
    · rw [deliver_done_lots role]
      exact List.filterMap_congr fun p _ => after_eq p
    · rw [deliver_done_filter role]
      unfold FilterState.doneFate
      cases pending : s.filter.pending with
      | none => simp [pending]
      | some p =>
        simp only [Option.bind_some, ← after_eq]
        split
        · rfl
        · exact pending

end Sys2Proof.Machine
end


section
/-! O54: a frame is read back from its bytes, part by part (R73, R190). -/

namespace Sys2Proof

/-! ## Fields -/

theorem halfOf_hiByte_loByte (h : Half) : halfOf (hiByte h) (loByte h) = h := by
  refine BitVec.eq_of_getLsbD_eq fun i hi => ?_
  simp only [halfOf, hiByte, loByte, BitVec.getLsbD_append, BitVec.getLsbD_setWidth, BitVec.getLsbD_ushiftRight]
  by_cases low : i < 8
  · simp [low]
  · have within : i - 8 < 8 := by omega
    have place : 8 + (i - 8) = i := by omega
    simp [low, within, place]

theorem flagOf_flagByte (f : Bool) : flagOf (flagByte f) = f := by
  cases f <;> decide

theorem addrOf_ofNat (a : Addr) : addrOf (BitVec.ofNat 8 a.val) = some a := by
  have within := a.isLt
  have value : (BitVec.ofNat 8 a.val).toNat = a.val := by
    rw [BitVec.toNat_ofNat]
    omega
  simp [addrOf, value]

theorem setWidth_holds (h : BitVec 7) : (h.setWidth 8).setWidth 7 = h := by
  refine BitVec.eq_of_getLsbD_eq fun i hi => ?_
  simp [hi]

theorem stationInfoOf_stationByte (i : StationInfo) : stationInfoOf (stationByte i) i.digest = i := by
  obtain ⟨role, transit, ceiling, digest⟩ := i
  have high : BitVec.extractLsb' 6 2 (role ++ transit ++ ceiling) = role :=
    (BitVec.extractLsb'_append_eq_of_le (by decide)).trans BitVec.extractLsb'_append_eq_left
  have middle : BitVec.extractLsb' 3 3 (role ++ transit ++ ceiling) = transit :=
    (BitVec.extractLsb'_append_eq_of_le (by decide)).trans BitVec.extractLsb'_append_eq_right
  have low : BitVec.extractLsb' 0 3 (role ++ transit ++ ceiling) = ceiling := BitVec.extractLsb'_append_eq_right
  exact congr (congr (congrArg₂ StationInfo.mk high middle) low) rfl

/-! ## ROW records -/

theorem rowRecordOf_bytes (r : RowRecord) : rowRecordOf r.id
    (BitVec.ofBool r.flush ++ r.cls ++ BitVec.ofBool r.committed ++ BitVec.ofBool r.remainder ++ 0#2 : BitVec 8)
    r.volume (r.rank ++ 0#1 ++ r.age : BitVec 8) r.p r.c = r := by
  obtain ⟨id, flush, cls, committed, remainder, volume, rank, age, p, c⟩ := r
  have flags : ∀ b : BitVec 3, BitVec.extractLsb' 4 3
      (BitVec.ofBool flush ++ b ++ BitVec.ofBool committed ++ BitVec.ofBool remainder ++ 0#2) = b := fun b =>
    (BitVec.extractLsb'_append_eq_of_le (by decide)).trans ((BitVec.extractLsb'_append_eq_of_le (by decide)).trans
      ((BitVec.extractLsb'_append_eq_of_le (by decide)).trans BitVec.extractLsb'_append_eq_right))
  have high : BitVec.extractLsb' 5 3 (rank ++ 0#1 ++ age) = rank :=
    (BitVec.extractLsb'_append_eq_of_le (by decide)).trans BitVec.extractLsb'_append_eq_left
  have low : BitVec.extractLsb' 0 4 (rank ++ 0#1 ++ age) = age := BitVec.extractLsb'_append_eq_right
  simp only [rowRecordOf, RowRecord.mk.injEq, true_and, and_true]
  refine ⟨?_, flags cls, ?_, ?_, high, low⟩
  · simp only [BitVec.getLsbD_append]
    simp
  · simp only [BitVec.getLsbD_append]
    simp
  · simp only [BitVec.getLsbD_append]
    simp

theorem rowRecordsOf_bytes (l : List RowRecord) : rowRecordsOf (l.map RowRecord.bytes).flatten = some l := by
  induction l with
  | nil => rfl
  | cons r l ih =>
    have read : rowRecordsOf ((r :: l).map RowRecord.bytes).flatten =
        (rowRecordsOf (l.map RowRecord.bytes).flatten).map (rowRecordOf r.id _ r.volume _ r.p r.c :: ·) := rfl
    rw [read, ih, Option.map_some, rowRecordOf_bytes]

/-! ## Bodies -/

/-- A body that a frame can carry: a ROW holds at most 7 records (R73). -/
def Body.carried (b : Body) : Prop := ∀ r, b = .row r → r.records.length ≤ 7

theorem bodyOf_row (i d1 d0 w1 w0 : Byte) {rest : List Byte} {records : List RowRecord}
    (read : rowRecordsOf rest = some records) (few : records.length ≤ 7) :
    bodyOf 0x0B (i :: d1 :: d0 :: w1 :: w0 :: rest) =
      some (.row ⟨stationInfoOf i (halfOf d1 d0), halfOf w1 w0, records⟩) := by
  have byRecords : bodyOf 0x0B (i :: d1 :: d0 :: w1 :: w0 :: rest) = match rowRecordsOf rest with
      | some l => if l.length ≤ 7 then some (.row ⟨stationInfoOf i (halfOf d1 d0), halfOf w1 w0, l⟩) else none
      | none => none := rfl
  rw [byRecords, read]
  exact if_pos few

theorem bodyOf_bytes {b : Body} (h : b.carried) : bodyOf b.kind.code b.bytes = some b := by
  cases b with
  | mark b =>
    change some (Body.mark ⟨halfOf (hiByte b.window) (loByte b.window),
      halfOf (hiByte b.digest) (loByte b.digest), b.count⟩) = _
    rw [halfOf_hiByte_loByte, halfOf_hiByte_loByte]
  | hello b =>
    change some (Body.hello ⟨stationInfoOf (stationByte b.info) (halfOf (hiByte b.info.digest) (loByte b.info.digest)),
      flagOf (flagByte b.leaving)⟩) = _
    rw [halfOf_hiByte_loByte, stationInfoOf_stationByte, flagOf_flagByte]
  | present b => rfl
  | claim b =>
    change some (Body.claim ⟨b.id, b.kind, b.cls, b.volume, b.rank, flagOf (flagByte b.remainder)⟩) = _
    rw [flagOf_flagByte]
  | withdraw b => rfl
  | done b =>
    change some (Body.done ⟨b.id, b.volume, flagOf (flagByte b.short),
      halfOf (hiByte b.arrival) (loByte b.arrival), b.cls⟩) = _
    rw [flagOf_flagByte, halfOf_hiByte_loByte]
  | gate b =>
    change some (Body.gate ⟨b.state, (b.holds.setWidth 8).setWidth 7, halfOf (hiByte b.resume) (loByte b.resume)⟩) = _
    rw [setWidth_holds, halfOf_hiByte_loByte]
  | stop b => rfl
  | release b =>
    change some (Body.release ⟨b.target, flagOf (flagByte b.force)⟩) = _
    rw [flagOf_flagByte]
  | ask b => rfl
  | row b =>
    have read := bodyOf_row (stationByte b.info) (hiByte b.info.digest) (loByte b.info.digest) (hiByte b.window)
      (loByte b.window) (rowRecordsOf_bytes b.records) (h b rfl)
    rw [halfOf_hiByte_loByte, halfOf_hiByte_loByte, stationInfoOf_stationByte] at read
    exact read

theorem length_bytes_le {b : Body} (h : b.carried) : b.bytes.length ≤ 48 := by
  cases b with
  | row b =>
    have few := h b rfl
    have six : ∀ l : List RowRecord, (l.map RowRecord.bytes).flatten.length = 6 * l.length := by
      intro l
      induction l with
      | nil => rfl
      | cons r l ih => simp [RowRecord.bytes, ih]; omega
    simp [Body.bytes, halfBytes, six]
    omega
  | _ => simp [Body.bytes, halfBytes]

/-! ## Frames -/

/-- Settles O54: the tests of a received frame pass on the bytes of one that is sent, and each part is read back. -/
theorem frameRoundTrip : Obligations.FrameRoundTrip := by
  intro a b carried
  have short : b.bytes.length ≤ 48 := length_bytes_le carried
  have len : (BitVec.ofNat 8 b.bytes.length).toNat = b.bytes.length := by
    rw [BitVec.toNat_ofNat]
    omega
  have whole : ¬54 < (frameBytes a b).length := by
    simp only [frameBytes, checkedBytes, halfBytes, List.length_append, List.length_cons, List.length_nil]
    omega
  unfold frameOf
  rw [Bool.false_or, if_neg (by simpa using whole)]
  have bytes : frameBytes a b = 0xB5#8 :: b.kind.code :: BitVec.ofNat 8 a.val :: BitVec.ofNat 8 b.bytes.length ::
      (b.bytes ++ halfBytes (crc16 (checkedBytes a b))) := rfl
  rw [bytes]
  dsimp only
  rw [len, List.take_left, List.drop_left, if_pos ⟨rfl, short, by simp [halfBytes], rfl⟩, addrOf_ofNat,
    bodyOf_bytes carried]

end Sys2Proof
end


section
/-! O45: the starts of a station. -/

namespace Sys2Proof.Machine

/-- A start through the port, too, leaves nothing for the standing conditions and the tone to do. -/
theorem concluded_startByPort (q : SeqState) (s : State) (c : StartCause) :
    (s.startByPort c).concluded q = s.startByPort c := by
  have asleep : (s.startByPort c).awake = false := rfl
  have silent : (s.startByPort c).toneCond = (s.startByPort c).tone.cond := rfl
  rw [concluded_of_asleep q asleep]
  exact if_pos silent

/-- Outside reset a port command that comes to a start answers with the fresh state. -/
theorem event_startByPort {s : State} {f : State → State} {c : StartCause} (running : s.inReset = false)
    (starts : f s.cleared = s.cleared.startByPort c) : s.event f = s.cleared.startByPort c := by
  rw [event_of_running f running, starts, concluded_startByPort]

theorem portWake_of_dormant {s : State} (h : s.mode.mode = .dormant) : s.portWake = s.startByPort .wake := by
  unfold State.portWake
  rw [h]

/-- Settles O45: every start is `State.start` on the cleared state, or `State.startByPort` where the port answers. -/
theorem startsFresh : Obligations.StartsFresh := by
  intro s news begun answered
  refine ⟨fun running => ?_, rfl, rfl, fun running dormant => ?_, ?_⟩
  · exact congrArg Host.Outcome.next (event_startByPort running rfl)
  · exact congrArg Host.Outcome.next (event_startByPort running (portWake_of_dormant dormant))
  · exact ⟨_, rfl, rfl, fun _ => rfl, rfl, rfl, rfl, rfl, rfl, rfl, rfl, rfl, rfl⟩

end Sys2Proof.Machine
end


section
/-! O42: a change of SHIFT, mode by mode. -/

namespace Sys2Proof.Machine

/-! ## Sealing the OPEN lot (R113) -/

theorem requestCapture_discharge (s : State) (ch : Fin 4) : (s.requestCapture ch).discharge = s.discharge := by
  unfold State.requestCapture
  split <;> rfl

/-- A seal changes the lots alone among what the discharge unit holds, an OPEN one or none. -/
theorem sealOpen_discharge (s : State) (why : SealReason) : (s.sealOpen why).discharge =
    { s.discharge with lots := s.discharge.lots.map (Lot.sealedBy why) } := by
  unfold State.sealOpen
  split
  · exact requestCapture_discharge _ _
  · rename_i none
    have same : s.discharge.lots.map (Lot.sealedBy why) = s.discharge.lots := by
      refine (List.map_congr_left fun l hl => if_neg fun opened => none ?_).trans (List.map_id _)
      exact List.any_eq_true.2 ⟨l, hl, beq_iff_eq.2 opened⟩
    rw [same]

/-! ## The effect of the level (R181, R183) -/

/-- The modes in which a level calls for nothing. -/
def StationMode.idleAt (x : StationMode) (active : Bool) : Prop :=
  x = .startHold ∨ (x = .run ∧ active = true) ∨ ((x = .quiet ∨ x = .leaving ∨ x = .dormant) ∧ active = false)

theorem onShift_idle {s : State} {active : Bool} (h : s.mode.mode.idleAt active) : s.onShift active = s := by
  unfold State.onShift
  obtain hold | ⟨run, rfl⟩ | ⟨quiet | leaving | dormant, rfl⟩ := h
  · rw [hold]
  · rw [run]
  · rw [quiet]
  · rw [leaving]
  · rw [dormant]

theorem onShift_run {s : State} (h : s.mode.mode = .run) :
    s.onShift false = if s.cfg.role = .discharge then s.backToQuiet.sealOpen .shift else s.backToQuiet := by
  have role : s.backToQuiet.cfg = s.cfg := (concluded_backToQuiet s).cfg
  unfold State.onShift
  rw [h, ← role]
  rfl

theorem onShift_quiet {s : State} (h : s.mode.mode = .quiet) :
    s.onShift true = (s.setMode .run).mapMode (fun x => { x with leaveRequest := false }) := by
  unfold State.onShift
  rw [h]

/-- A level that wakes the station does what any wake does (R183). -/
theorem onShift_wakes {s : State} (h : s.mode.mode = .leaving ∨ s.mode.mode = .dormant) :
    s.onShift true = s.wakeUp := by
  unfold State.onShift
  obtain h | h := h <;> rw [h]

/-! ## The modes (R181, R183) -/

theorem backToQuiet_mode (s : State) : s.backToQuiet.mode = { s.mode with mode := .quiet, quietWindows := 0 } :=
  congrArg (fun x : ModeState => { x with quietWindows := 0 }) (setMode_mode s .quiet)

theorem backToQuiet_frame (s : State) : { s.backToQuiet with mode := s.mode, reports := s.reports } = s :=
  setMode_frame s .quiet

theorem backByShift_mode (s : State) : s.backByShift.mode =
    { s.mode with
      mode := if s.pins.shift then .run else .quiet, quietWindows := 0, leaveRequest := false, wakeMark := false } :=
  congrArg (fun x : ModeState => { x with quietWindows := 0, leaveRequest := false, wakeMark := false })
    (setMode_mode s _)

theorem backByShift_trunk (s : State) : s.backByShift.trunk = s.trunk :=
  (congrArg (fun t : State => t.trunk) (setMode_frame s (if s.pins.shift then .run else .quiet))).trans rfl

/-- The mode aside, and what was told, the state is the same. -/
theorem Untouched.of_mode_frame {s t : State} (frame : { t with mode := s.mode, reports := s.reports } = s) :
    Untouched s { t with mode := s.mode } := by
  have told : Untouched { t with mode := s.mode, reports := s.reports } { t with mode := s.mode } :=
    { Untouched.refl _ with }
  rwa [frame] at told

/-- Work that leaves the mode alone leaves another mode alone, too. -/
theorem Untouched.withMode {s t : State} (h : Untouched s t) (x : ModeState) :
    Untouched { s with mode := x } { t with mode := x } := { h with mode := rfl }

/-! ## Out of RUN -/

/-- The shift's end: mode QUIET, and a discharge station's OPEN lot sealed (R113, R132, R181). -/
theorem onShift_run_facts {s : State} (run : s.mode.mode = .run) :
    (s.onShift false).mode = { s.mode with mode := .quiet, quietWindows := 0 } ∧
    Untouched s { s.onShift false with mode := s.mode } ∧
    (s.cfg.role = .discharge → (s.onShift false).discharge.lots = s.discharge.lots.map (Lot.sealedBy .shift)) ∧
    (s.cfg.role ≠ .discharge → (s.onShift false).discharge = s.discharge) := by
  have quiet := Untouched.of_mode_frame (backToQuiet_frame s)
  have discharge : s.backToQuiet.discharge = s.discharge :=
    (congrArg (fun t : State => t.discharge) (backToQuiet_frame s)).trans rfl
  rw [onShift_run run]
  split
  · rename_i role
    have sealing := untouched_sealOpen s.backToQuiet .shift
    refine ⟨sealing.mode.trans (backToQuiet_mode s), quiet.trans (sealing.withMode s.mode), fun _ => ?_,
      fun other => absurd role other⟩
    rw [sealOpen_discharge, discharge]
  · rename_i other
    exact ⟨backToQuiet_mode s, quiet, fun role => absurd role other, fun _ => discharge⟩

/-! ## A wake in LEAVING (R183) -/

theorem helloInFlight_iff (s : State) :
    s.helloInFlight = true ↔ ∃ f ∈ s.trunk.queue, f.leavingHello = true ∧ f.sent.isSome = true := by
  simp [State.helloInFlight, List.any_eq_true]

theorem wakeUp_leaving {s : State} (leaving : s.mode.mode = .leaving) : s.wakeUp =
    if s.helloInFlight then (s.pull QFrame.leavingHello).mapMode (fun x => { x with wakeMark := true })
    else (s.pull QFrame.leavingHello).backByShift := by
  unfold State.wakeUp
  rw [leaving]

/-- With no leaving HELLO in flight, those that wait are all there are, and withdrawing them leaves the others. -/
theorem pull_leavingHello {s : State} (waiting : ¬s.helloInFlight = true) :
    (s.pull QFrame.leavingHello).trunk.queue = s.trunk.queue.filter (fun f => !f.leavingHello) := by
  have waits : ∀ f ∈ s.trunk.queue, (!(f.leavingHello && f.waiting)) = !f.leavingHello := by
    intro f hf
    cases leaving : f.leavingHello with
    | false => rfl
    | true =>
      have still : f.sent.isSome ≠ true := fun sent => waiting ((helloInFlight_iff s).2 ⟨f, hf, leaving, sent⟩)
      simpa [QFrame.waiting] using still
  rw [pull_queue, List.filter_congr waits]
  refine (List.map_congr_left fun f hf => if_neg ?_).trans (List.map_id _)
  simpa using (List.mem_filter.1 hf).2

/-- The shift's start in LEAVING: the wake mark where the HELLO flies, RUN where it does not (R183). -/
theorem onShift_leaving_facts {s : State} (leaving : s.mode.mode = .leaving) (shift : s.pins.shift = true) :
    (s.helloInFlight = true → (s.onShift true).mode = { s.mode with wakeMark := true }) ∧
    (¬s.helloInFlight = true → (s.onShift true).mode =
        { s.mode with mode := .run, quietWindows := 0, leaveRequest := false, wakeMark := false } ∧
      (s.onShift true).trunk.queue = s.trunk.queue.filter (fun f => !f.leavingHello)) := by
  have pulled := untouched_pull s QFrame.leavingHello
  rw [onShift_wakes (.inl leaving), wakeUp_leaving leaving]
  refine ⟨fun flying => ?_, fun waiting => ?_⟩
  · rw [if_pos flying]
    exact congrArg (fun x : ModeState => { x with wakeMark := true }) pulled.mode
  · rw [if_neg waiting, backByShift_mode, backByShift_trunk, pulled.mode, pulled.pins, shift]
    exact ⟨rfl, pull_leavingHello waiting⟩

/-! ## A wake in DORMANT (R183) -/

/-- The shift's start in DORMANT starts the station. -/
theorem onShift_dormant {s : State} (dormant : s.mode.mode = .dormant) : s.onShift true = s.start .wake := by
  rw [onShift_wakes (.inr dormant)]
  unfold State.wakeUp
  rw [dormant]

theorem startReports_dormant {s : State} (dormant : s.mode.mode = .dormant) : s.startReports =
    .modeChanged .startHold :: (if s.mode.supply = .normal then [] else [.supplyNormal]) ++
      if s.sync.status = .listening then [] else [.syncChanged .listening] := by
  unfold State.startReports
  rw [dormant]
  rfl

/-! ## The statement -/

/-- The station as it finds the new level of SHIFT. -/
def State.shifted (s : State) (active : Bool) : State := { s.cleared with pins := { s.pins with shift := active } }

theorem shiftChange_eq {s : State} (running : s.inReset = false) (active : Bool) :
    exec (.shiftChange active) s = .next (((s.shifted active).onShift active).concluded s.seq) :=
  congrArg Host.Outcome.next
    (event_of_running _ (s := { s with pins := { s.pins with shift := active } }) running)

/-- Settles O42: the level as each mode takes it, by `onShift` mode by mode. -/
theorem shiftChanged : Obligations.ShiftChanged := by
  intro s running u flying
  have answer := shiftChange_eq running
  have idle : ∀ active, s.mode.mode.idleAt active →
      exec (.shiftChange active) s = .next ((u active).concluded s.seq) := by
    intro active h
    rw [answer, onShift_idle (s := s.shifted active) h]
    rfl
  refine ⟨fun run => ⟨idle true (.inr (.inl ⟨run, rfl⟩)), _, answer false, onShift_run_facts (s := s.shifted false) run⟩,
    fun quiet => ⟨idle false (.inr (.inr ⟨.inl quiet, rfl⟩)), _, answer true, ?_⟩,
    fun leaving => ⟨idle false (.inr (.inr ⟨.inr (.inl leaving), rfl⟩)), _, answer true, ?_⟩,
    fun dormant => ⟨idle false (.inr (.inr ⟨.inr (.inr dormant), rfl⟩)), ?_⟩,
    fun hold active => idle active (.inl hold)⟩
  · have moved := setMode_frame (s.shifted true) .run
    rw [onShift_quiet (s := s.shifted true) quiet]
    exact ⟨congrArg (fun x : ModeState => { x with leaveRequest := false }) (setMode_mode (s.shifted true) .run), moved⟩
  · have woken := onShift_leaving_facts (s := s.shifted true) leaving rfl
    rw [helloInFlight_iff] at woken
    exact woken
  · rw [answer, onShift_dormant (s := s.shifted true) dormant, concluded_start]
    exact congrArg (fun l => Host.Outcome.next { State.fresh .wake ⟨s.pins.classCode, true⟩ s.pending with reports := l })
      (startReports_dormant (s := s.shifted true) dormant)

end Sys2Proof.Machine
end


section
/-! SUPPORT. Which frames stand in the queue after a request: those that no request of its class displaces, and, where
there is room or a worse frame to displace, the one requested (R84 to R86). -/

namespace Sys2Proof.Machine

/-- A frame with the body `x` is in the outgoing queue. -/
def State.queues (s : State) (x : QBody) : Prop := ∃ f ∈ s.trunk.queue, f.body = x

/-! ## Entry (R86) -/

/-- A frame displaces none of its own class or a better one. -/
theorem mem_enter_of_better {q : List QFrame} {f g : QFrame} (mem : g ∈ q) (better : g.cls ≤ f.cls) :
    g ∈ (enter q f).queue := by
  obtain room | ⟨full, i, v, victim⟩ | ⟨full, none_worse⟩ := enter_cases q f
  · rw [enter_of_room room]
    exact List.mem_append_left _ mem
  · rw [enter_of_victim full victim]
    obtain ⟨j, at_j⟩ := List.getElem?_of_mem mem
    have apart : j ≠ i := by
      rintro rfl
      obtain rfl : g = v := Option.some.inj (at_j.symm.trans victim.here)
      exact absurd victim.worse (Nat.not_lt.2 better)
    exact List.mem_append_left _ (List.mem_eraseIdx_iff_getElem?.2 ⟨j, apart, at_j⟩)
  · rw [enter_of_full full none_worse]
    exact mem

/-- A frame enters where there is room, or a waiting frame of a worse class to give way. -/
theorem mem_enter_self {q : List QFrame} {f : QFrame}
    (place : q.length < 8 ∨ ∃ g ∈ q, g.sent = none ∧ f.cls < g.cls) : f ∈ (enter q f).queue := by
  obtain room | ⟨full, i, v, victim⟩ | ⟨full, none_worse⟩ := enter_cases q f
  · rw [enter_of_room room]
    exact List.mem_append_right _ List.mem_cons_self
  · rw [enter_of_victim full victim]
    exact List.mem_append_right _ List.mem_cons_self
  · obtain room | ⟨g, mem, waits, worse⟩ := place
    · exact absurd room (Nat.not_lt.2 full)
    · exact absurd (none_worse g mem waits) (Nat.not_le.2 worse)

/-! ## Requests (R84, R85) -/

/-- A frame that carries no CLAIM outlives every request of its class or a worse one. -/
theorem settleRequest_keeps {q : List QFrame} {f g : QFrame} (holds : Byte → Bool) (mem : g ∈ q)
    (plain : ∀ c, g.body ≠ .claim c) (better : g.cls ≤ f.cls) :
    ∃ k ∈ (settleRequest q f holds).queue, k.body = g.body := by
  have stays : ∀ id, g.waitingClaim id = false := by
    intro id
    cases waits : g.waitingClaim id with
    | false => rfl
    | true =>
      obtain ⟨_, c, body, _⟩ := waitingClaim_iff.1 waits
      exact absurd body (plain c)
  have left : ∀ id, g ∈ withoutClaim q id := fun id => List.mem_filter.2 ⟨mem, by simp [stays id]⟩
  by_cases built : f.body.built
  · rw [settleRequest_built q holds built]
    split
    · split
      · refine ⟨_, List.mem_map.2 ⟨g, mem, rfl⟩, ?_⟩
        unfold markFollowUp
        split <;> rfl
      · exact ⟨g, mem, rfl⟩
    · exact ⟨g, mem_enter_of_better mem better, rfl⟩
  by_cases claim : ∃ c, f.body = .claim c
  · obtain ⟨c, body⟩ := claim
    rw [settleRequest_claim q holds body]
    split
    · exact ⟨g, List.mem_map.2 ⟨g, mem, by simp [stays c.id]⟩, rfl⟩
    · exact ⟨g, mem_enter_of_better mem better, rfl⟩
  by_cases withdraw : ∃ w, f.body = .withdraw w
  · obtain ⟨w, body⟩ := withdraw
    rw [settleRequest_withdraw q holds body]
    split
    · exact ⟨g, left w.id, rfl⟩
    · split
      · exact ⟨g, left w.id, rfl⟩
      · exact ⟨g, mem_enter_of_better (left w.id) better, rfl⟩
  · rw [settleRequest_other q holds built (not_exists.1 claim) (not_exists.1 withdraw)]
    exact ⟨g, mem_enter_of_better mem better, rfl⟩

section
variable {s : State} {x b : QBody} {who : Block} {u : Bool}

theorem queues_request (here : s.queues x) (plain : ∀ c, x ≠ .claim c) (better : classOf x.kind ≤ classOf b.kind) :
    (s.request b who u).queues x := by
  obtain ⟨g, mem, rfl⟩ := here
  unfold State.queues
  rw [request_queue]
  unfold State.settleOf
  split
  · exact ⟨g, mem, rfl⟩
  · split
    · exact ⟨g, mem, rfl⟩
    · exact settleRequest_keeps _ mem plain better

/-- A frame of a built kind stands in the queue once requested where there is room. -/
theorem queues_request_built (joined : ∀ c, s.sync.status ≠ .excluded c) (line : s.trunk.line = .active) (built : b.built)
    (room : s.trunk.queue.length < 8) : (s.request b who u).queues b := by
  by_cases queued : ∃ g ∈ s.trunk.queue, g.body = b
  · obtain ⟨_, kept⟩ := request_absorbed (who := who) (u := u) joined line built queued
    obtain ⟨g, mem, body⟩ := queued
    refine ⟨_, kept ▸ List.mem_map.2 ⟨g, mem, rfl⟩, ?_⟩
    split <;> exact body
  · have enters := request_enters_built (who := who) (u := u) joined line built (fun g mem body => queued ⟨g, mem, body⟩)
    exact ⟨newFrame b who u, (enters.1 room).1 ▸ List.mem_append_right _ List.mem_cons_self, rfl⟩

/-- Any other frame but a CLAIM or a WITHDRAW stands there, too, where a worse one can give way. -/
theorem queues_request_other (joined : ∀ c, s.sync.status ≠ .excluded c) (line : s.trunk.line = .active)
    (hb : ¬b.built) (hc : ∀ c, b ≠ .claim c) (hw : ∀ w, b ≠ .withdraw w)
    (place : s.trunk.queue.length < 8 ∨ ∃ g ∈ s.trunk.queue, g.sent = none ∧ classOf b.kind < g.cls) :
    (s.request b who u).queues b := by
  refine ⟨newFrame b who u, ?_, rfl⟩
  rw [request_queue, settleOf_active s b who u joined line, settleRequest_other _ (f := newFrame b who u) _ hb hc hw]
  exact mem_enter_self place

/-- A WITHDRAW stands in a queue with room, unless it cancels the CLAIM of which the table has nothing yet (R85). -/
theorem queues_request_withdraw (joined : ∀ c, s.sync.status ≠ .excluded c) (line : s.trunk.line = .active)
    {w : WithdrawBody} (stands : withoutClaim s.trunk.queue w.id = s.trunk.queue ∨
      ∃ c ∈ s.table.claims, c.owner = s.own ∧ c.id = w.id)
    (room : s.trunk.queue.length < 8) : (s.request (.withdraw w) who u).queues (.withdraw w) := by
  obtain ⟨_, _, absorbed, enters⟩ := request_withdraw (who := who) (u := u) joined line w
  have fewer : (withoutClaim s.trunk.queue w.id).length < 8 := (List.length_filter_le _ _).trans_lt room
  by_cases queued : ∃ g ∈ withoutClaim s.trunk.queue w.id, g.body = .withdraw w
  · obtain ⟨g, mem, body⟩ := queued
    exact ⟨g, (absorbed stands ⟨g, mem, body⟩).1 ▸ mem, body⟩
  · have entered := (enters stands (fun g mem body => queued ⟨g, mem, body⟩)).1 fewer
    exact ⟨_, entered.1 ▸ List.mem_append_right _ List.mem_cons_self, rfl⟩

end

end Sys2Proof.Machine
end


section
/-! O30: the listening timer's expiry in LISTENING. -/

namespace Sys2Proof.Machine

/-! ## GATE and STOP by what they read (R155, R156) -/

/-- `s` and `t` agree in what a crusher's GATE and STOP read, and in the queue. -/
structure CallsAlike (s t : State) : Prop where
  queue : t.trunk.queue = s.trunk.queue
  line : t.trunk.line = s.trunk.line
  status : t.sync.status = s.sync.status
  own : t.own = s.own
  stop : t.ownStop = s.ownStop
  crusher : t.crusher = s.crusher

theorem CallsAlike.mayGate_eq {s t : State} (h : CallsAlike s t) : t.mayGate = s.mayGate := by
  unfold State.mayGate State.lineActive
  rw [h.line, h.status]

/-- The table is read for a WITHDRAW alone. -/
theorem CallsAlike.settleOf_eq {s t : State} (h : CallsAlike s t) {b : QBody} (other : ∀ w, b ≠ .withdraw w)
    (who : Block) (u : Bool) : t.settleOf b who u = s.settleOf b who u := by
  unfold State.settleOf
  rw [h.queue, h.line, h.status]
  cases b with
  | withdraw w => exact absurd rfl (other w)
  | _ => rfl

theorem Untouched.ownStop_eq {s t : State} (h : Untouched s t) : t.ownStop = s.ownStop := by
  unfold State.ownStop
  rw [h.hall, h.own_eq]

theorem Untouched.listenTimer_eq {s t : State} (h : Untouched s t) : t.sync.listenTimer = s.sync.listenTimer := by
  rw [← h.sync]

theorem Untouched.round_eq {s t : State} (h : Untouched s t) : t.sync.round = s.sync.round := by
  rw [← h.sync]

theorem Untouched.attempts_eq {s t : State} (h : Untouched s t) : t.sync.attempts = s.sync.attempts := by
  rw [← h.sync]

theorem Clerical.crusher_eq {s t : State} (h : Clerical s t) : t.crusher = s.crusher :=
  (congrArg (fun t : State => t.crusher) h).trans rfl

theorem CallsAlike.after_chores {s t u v : State} (h : CallsAlike s t) (left : Chores s u) (right : Chores t v)
    (queue : v.trunk.queue = u.trunk.queue) : CallsAlike u v where
  queue := queue
  line := right.works.untouched.line_eq.trans (h.line.trans left.works.untouched.line_eq.symm)
  status := right.works.untouched.status_eq.trans (h.status.trans left.works.untouched.status_eq.symm)
  own := right.works.untouched.own_eq.trans (h.own.trans left.works.untouched.own_eq.symm)
  stop := right.works.untouched.ownStop_eq.trans (h.stop.trans left.works.untouched.ownStop_eq.symm)
  crusher := right.clerical.crusher_eq.trans (h.crusher.trans left.clerical.crusher_eq.symm)

theorem CallsAlike.requestGate {s t : State} (h : CallsAlike s t) : CallsAlike s.requestGate t.requestGate := by
  refine h.after_chores (chores_requestGate s) (chores_requestGate t) ?_
  unfold State.requestGate
  rw [h.mayGate_eq]
  split
  · rw [request_queue, request_queue, h.settleOf_eq (by simp)]
  · exact h.queue

theorem CallsAlike.compareStop_queue {s t : State} (h : CallsAlike s t) :
    t.compareStop.trunk.queue = s.compareStop.trunk.queue := by
  have calls : stopCall t.own t.ownStop t.crusher.wantedStop = stopCall s.own s.ownStop s.crusher.wantedStop := by
    rw [h.own, h.stop, h.crusher]
  by_cases may : s.mayGate = true
  · cases call : stopCall s.own s.ownStop s.crusher.wantedStop with
    | none => rw [compareStop_of_none call, compareStop_of_none (calls.trans call), h.queue]
    | some b =>
      have other : ∀ w, b ≠ .withdraw w := by
        rintro w rfl
        exact absurd (stopCall_kind call) (by simp [QBody.kind])
      have pulled : CallsAlike (s.pullWaiting (fun f => f.unitStop && f.body != b))
          (t.pullWaiting (fun f => f.unitStop && f.body != b)) :=
        h.after_chores (chores_pull s _) (chores_pull t _) (by rw [pullWaiting_queue, pullWaiting_queue, h.queue])
      rw [compareStop_of_some may call, compareStop_of_some (h.mayGate_eq.trans may) (calls.trans call)]
      dsimp only
      rw [pulled.queue]
      split
      · exact pulled.queue
      · rw [request_queue, request_queue, pulled.settleOf_eq other]
  · unfold State.compareStop
    rw [h.mayGate_eq, if_neg may, if_neg may, h.queue]

theorem CallsAlike.tellHall_queue {s t : State} (h : CallsAlike s t) :
    t.tellHall.trunk.queue = s.tellHall.trunk.queue := h.requestGate.compareStop_queue

/-! ## GATE and STOP in the queue -/

/-- Where the unit may request nothing, it tells nothing. -/
theorem tellHall_of_silent {s : State} (silent : ¬s.mayGate = true) : s.tellHall = s := by
  have gate : s.requestGate = s := if_neg silent
  unfold State.tellHall
  rw [gate]
  exact if_neg silent

theorem length_requestGate_le (s : State) : s.requestGate.trunk.queue.length ≤ s.trunk.queue.length + 1 := by
  unfold State.requestGate
  split
  · exact length_request_le s _ _ _
  · exact Nat.le_succ _

theorem length_compareStop_le (s : State) : s.compareStop.trunk.queue.length ≤ s.trunk.queue.length + 1 := by
  unfold State.compareStop
  split
  · split
    · rename_i b _
      have pulled := length_pull_le s (fun f => (f.unitStop && f.body != b) && f.waiting)
      dsimp only
      split
      · exact pulled.trans (Nat.le_succ _)
      · exact (length_request_le _ _ _ _).trans (Nat.succ_le_succ pulled)
    · exact Nat.le_succ _
  · exact Nat.le_succ _

theorem length_tellHall_le (s : State) : s.tellHall.trunk.queue.length ≤ s.trunk.queue.length + 2 :=
  (length_compareStop_le _).trans (Nat.succ_le_succ (length_requestGate_le s))

/-- The comparison withdraws and displaces no GATE. -/
theorem queues_compareStop_gate {s : State} (here : s.queues .gate) : s.compareStop.queues .gate := by
  unfold State.compareStop
  split
  · split
    · rename_i b call
      have pulled : (s.pullWaiting (fun f => f.unitStop && f.body != b)).queues .gate := by
        obtain ⟨g, mem, body⟩ := here
        refine ⟨g, ?_, body⟩
        rw [pullWaiting_queue]
        exact List.mem_filter.2 ⟨mem, by simp [QFrame.unitStop, body, QBody.kind]⟩
      dsimp only
      split
      · exact pulled
      · refine queues_request pulled nofun ?_
        obtain kind | kind := stopCall_kind call <;> rw [kind] <;> decide
    · exact here
  · exact here

theorem queues_tellHall_gate {s : State} (may : s.mayGate = true) (room : s.trunk.queue.length < 8) :
    s.tellHall.queues .gate := by
  obtain ⟨line, joined⟩ := (mayGate_iff s).1 may
  have asked : s.requestGate = s.request .gate .role true := if_pos may
  refine queues_compareStop_gate ?_
  rw [asked]
  exact queues_request_built (fun c excluded => by simp [excluded] at joined) line (.inr (.inr (.inl rfl))) room

/-! ## A HELLO -/

theorem queues_requestHello {s : State} (joined : ∀ c, s.sync.status ≠ .excluded c) (line : s.trunk.line = .active)
    (place : s.trunk.queue.length < 8 ∨ ∃ f ∈ s.trunk.queue, f.sent = none ∧ f.body = .present) :
    s.requestHello.queues (.hello (s.helloBody false)) := by
  refine queues_request_other joined line (by simp [QBody.built]) nofun nofun (place.imp_right ?_)
  rintro ⟨f, mem, waits, body⟩
  exact ⟨f, mem, waits, by simp [QFrame.cls, body, QBody.kind, classOf]⟩

/-! ## The station alone on its trunk (R92) -/

theorem setSync_sync (s : State) (x : SyncStatus) : (s.setSync x).sync = { s.sync with status := x } := by
  unfold State.setSync
  dsimp only
  split <;> rfl

/-- The sync controller's own part: SYNCED, the timer stopped, and the marks of R35 no longer kept. -/
def State.alone (s : State) : State :=
  ((s.mapSync (fun x => { x with listenTimer := none })).setSync .synced).markRestated

theorem alone_kept (s : State) : s.alone.cfg = s.cfg ∧ s.alone.trunk = s.trunk ∧ s.alone.window = s.window ∧
    s.alone.roster = s.roster ∧ s.alone.table = s.table ∧ s.alone.plan = s.plan ∧ s.alone.crusher = s.crusher := by
  unfold State.alone State.setSync
  dsimp only
  split <;> exact ⟨rfl, rfl, rfl, rfl, rfl, rfl, rfl⟩

theorem alone_sync (s : State) : s.alone.sync = { s.sync with status := .synced, listenTimer := none } :=
  setSync_sync (s.mapSync (fun x => { x with listenTimer := none })) .synced

/-- The marks of R35 are no part of what the stop set says. -/
theorem markRestated_ownStop (s : State) : s.markRestated.ownStop = s.ownStop := by
  have same : ∀ l : List StopEntry, ((l.map (fun e => { e with restated := true })).find? (fun e => e.addr == s.own)).map
      (fun e => e.cause) = (l.find? (fun e => e.addr == s.own)).map (fun e => e.cause) := by
    intro l
    rw [List.find?_map, Option.map_map]
    rfl
  exact same s.hall.stops

/-! ## SYNC_GAINED at each role -/

/-- A crusher tells the hall, and the other roles nothing, of what it became. -/
def State.told (s : State) : State := if s.cfg.role = .crusher then s.tellHall else s

theorem roleSyncGained_of_crusher {s : State} (role : s.cfg.role = .crusher) :
    s.roleSyncGained = (s.report .syncGained).tellHall := by
  unfold State.roleSyncGained
  dsimp only
  rw [show (s.report .syncGained).cfg.role = .crusher from role]

theorem roleSyncGained_of_other {s : State} (role : s.cfg.role ≠ .crusher) :
    s.roleSyncGained = s.report .syncGained := by
  unfold State.roleSyncGained
  dsimp only
  split
  case h_1 crusher => exact absurd crusher role
  case h_2 => rfl

/-- Of the unit's GATE and STOP, what is asked of the queue does not depend on the reports. -/
theorem roleSyncGained_queue {s t : State} (h : CallsAlike s t) (cfg : t.cfg = s.cfg) :
    t.roleSyncGained.trunk.queue = s.told.trunk.queue := by
  unfold State.told
  by_cases role : s.cfg.role = .crusher
  · have alike : CallsAlike s (t.report .syncGained) := { h with }
    rw [roleSyncGained_of_crusher (cfg ▸ role), if_pos role, alike.tellHall_queue]
  · rw [roleSyncGained_of_other (cfg ▸ role), if_neg role]
    exact h.queue

theorem length_told_le (s : State) :
    s.told.trunk.queue.length ≤ s.trunk.queue.length + if s.cfg.role = .crusher then 2 else 0 := by
  unfold State.told
  split
  · exact length_tellHall_le s
  · exact Nat.le_refl _

/-! ## The expiry -/

theorem alone_ownStop (s : State) : s.alone.ownStop = s.ownStop := by
  refine (markRestated_ownStop _).trans ?_
  unfold State.setSync
  dsimp only
  split <;> rfl

/-- The station as it is once SYNCED: what the unit then asks reads nothing else of `s.alone`. -/
def State.lone (s : State) : State := { s with sync := { s.sync with status := .synced, listenTimer := none } }

theorem callsAlike_alone (s : State) : CallsAlike s.lone s.alone := by
  obtain ⟨cfg, trunk, _, _, _, _, crusher⟩ := alone_kept s
  exact {
    queue := congrArg TrunkState.queue trunk
    line := congrArg TrunkState.line trunk
    status := congrArg SyncState.status (alone_sync s)
    own := by
      unfold State.own
      rw [cfg]
      rfl
    stop := (alone_ownStop s).trans rfl
    crusher := crusher }

/-- What the sync controller and the role unit do at the expiry, before the window timer starts. -/
def State.announced (s : State) : State := s.alone.roleSyncGained.requestHello

theorem declareAlone_eq (s : State) :
    s.declareAlone = { s.announced with window := { s.announced.window with timer := some 0 } } := rfl

theorem untouched_requestHello (s : State) : Untouched s s.requestHello := untouched_request s _ _ _

theorem untouched_announced (s : State) : Untouched s.alone s.announced :=
  (untouched_roleSyncGained _).trans (untouched_requestHello _)

theorem announced_status (s : State) : s.announced.sync.status = .synced :=
  (untouched_announced s).status_eq.trans (congrArg SyncState.status (alone_sync s))

theorem listeningTimerExpiry_eq {s : State} (awake : s.awake = true) (runs : s.sync.listenTimer ≠ none)
    (listening : s.sync.status = .listening) :
    exec .listeningTimerExpiry s = .next (s.cleared.declareAlone.concluded s.seq) := by
  have takes : (s.cleared.awake && s.cleared.sync.listenTimer.isSome && s.cleared.sync.status == .listening) = true := by
    rw [Bool.and_eq_true, Bool.and_eq_true, beq_iff_eq]
    exact ⟨⟨awake, Option.isSome_iff_ne_none.2 runs⟩, listening⟩
  refine congrArg Host.Outcome.next ((event_of_running _ (notReset_of_awake awake)).trans ?_)
  rw [if_pos takes]

/-- The station as its HELLO is requested. -/
theorem gained_facts (s : State) :
    (∀ c, s.alone.roleSyncGained.sync.status ≠ .excluded c) ∧
    s.alone.roleSyncGained.trunk.line = s.trunk.line ∧
    s.alone.roleSyncGained.trunk.queue = s.lone.told.trunk.queue := by
  have gained := untouched_roleSyncGained s.alone
  obtain ⟨cfg, _⟩ := alone_kept s
  refine ⟨fun c excluded => ?_, gained.line_eq.trans (callsAlike_alone s).line,
    roleSyncGained_queue (callsAlike_alone s) cfg⟩
  rw [gained.status_eq, (callsAlike_alone s).status] at excluded
  exact SyncStatus.noConfusion excluded

/-- A listen-only station sends nothing, so that no request enters its queue (R81). -/
theorem announced_of_listenOnly {s : State} (line : s.trunk.line = .listenOnly) : s.announced.trunk = s.trunk := by
  obtain ⟨joined, sameLine, toldQueue⟩ := gained_facts s
  have silent : ¬s.lone.mayGate = true := fun may => by
    have active := ((mayGate_iff s.lone).1 may).1
    exact LineState.noConfusion (active.symm.trans line)
  have untold : s.lone.told = s.lone := by
    unfold State.told
    rw [tellHall_of_silent silent, ite_self]
  have queue : s.announced.trunk.queue = s.trunk.queue := by
    have refused : s.announced.trunk.queue = s.alone.roleSyncGained.trunk.queue := by
      rw [State.announced, State.requestHello, request_queue, settleOf_listenOnly _ _ _ _ joined (sameLine.trans line)]
    rw [refused, toldQueue, untold]
    rfl
  obtain ⟨_, trunk, _⟩ := alone_kept s
  calc s.announced.trunk = { s.announced.trunk with queue := s.announced.trunk.queue } := rfl
    _ = { s.announced.trunk with queue := s.alone.trunk.queue } := by rw [queue, (callsAlike_alone s).queue]; rfl
    _ = s.alone.trunk := (untouched_announced s).trunk
    _ = s.trunk := trunk

/-- The GATE of R155 outlasts the STOP and the HELLO requested after it. -/
theorem announced_gate {s : State} (line : s.trunk.line = .active) (role : s.cfg.role = .crusher)
    (room : s.trunk.queue.length < 8) : s.announced.queues .gate := by
  obtain ⟨_, _, toldQueue⟩ := gained_facts s
  have told : s.lone.told.queues .gate := by
    have calls : s.lone.told = s.lone.tellHall := if_pos role
    rw [calls]
    exact queues_tellHall_gate ((mayGate_iff _).2 ⟨line, .inr (.inl rfl)⟩) room
  have gained : s.alone.roleSyncGained.queues .gate := by
    unfold State.queues
    rw [toldQueue]
    exact told
  exact queues_request gained nofun (by simp [QBody.kind, classOf])

/-- The HELLO enters where the GATE and the STOP before it leave a place. -/
theorem announced_hello {s : State} (line : s.trunk.line = .active)
    (place : s.lone.told.trunk.queue.length < 8 ∨ ∃ f ∈ s.lone.told.trunk.queue, f.sent = none ∧ f.body = .present) :
    s.announced.queues (.hello ⟨s.stationInfo, false⟩) := by
  obtain ⟨joined, sameLine, toldQueue⟩ := gained_facts s
  have enters := queues_requestHello joined (sameLine.trans line) (by rw [toldQueue]; exact place)
  have cfg : s.alone.roleSyncGained.cfg = s.cfg := (untouched_roleSyncGained s.alone).cfg.trans (alone_kept s).1
  have info : s.alone.roleSyncGained.helloBody false = ⟨s.stationInfo, false⟩ := by
    unfold State.helloBody State.stationInfo
    rw [cfg]
  exact info ▸ enters

/-- Settles O30: SYNCED at once, the crusher's GATE and STOP next, the HELLO last. -/
theorem listeningTimerRunsOut : Obligations.ListeningTimerRunsOut := by
  intro s awake runs listening
  have kept := untouched_announced s.cleared
  obtain ⟨_, _, sameWindow, sameRoster, sameTable, samePlan, _⟩ := alone_kept s.cleared
  have sync := alone_sync s.cleared
  have timer := kept.listenTimer_eq.trans (congrArg SyncState.listenTimer sync)
  have round := kept.round_eq.trans (congrArg SyncState.round sync)
  have attempts := kept.attempts_eq.trans (congrArg SyncState.attempts sync)
  refine ⟨s.cleared.declareAlone, listeningTimerExpiry_eq awake runs listening, announced_status s.cleared, timer, round,
    attempts, ?_, kept.roster.trans sameRoster, kept.claims.trans (congrArg TableState.claims sameTable),
    kept.plan.trans samePlan, fun line => announced_of_listenOnly (s := s.cleared) line,
    fun line => ⟨fun role room => ?_, fun place => ?_⟩⟩
  · rw [declareAlone_eq, kept.window.trans sameWindow]
    rfl
  · exact announced_gate (s := s.cleared) line role (Nat.lt_succ_of_lt room)
  · refine announced_hello (s := s.cleared) line ?_
    obtain few | rest := place
    · exact .inl ((length_told_le s.cleared.lone).trans_lt few)
    · exact rest

end Sys2Proof.Machine
end


section
/-! O32: a FLUSH that completes, and a filter's flush at a MARK. -/

namespace Sys2Proof.Machine

/-! ## A FLUSH that completes (R141) -/

/-- What the completion makes of the filter before its DONE. -/
def FilterState.flushed (u : FilterState) : FilterState :=
  ({ u with
    progress := none, claimId := none, discharge := none, mode := .settling, settle := 0
    cleaned := u.cleaned || u.bypassOpen } : FilterState).closeBypass

/-- An open bypass counts as cleaned, and so closes just when the band is NORMAL. -/
theorem flushed_eq (u : FilterState) : u.flushed = { u with
    mode := .settling, settle := 0, claimId := none, discharge := none, progress := none
    bypassOpen := u.bypassOpen && u.band != .normal
    cleaned := if u.bypassOpen then u.band != .normal else u.cleaned } := by
  unfold FilterState.flushed FilterState.closeBypass
  cases bypass : u.bypassOpen
  · simp
  · by_cases band : u.band = .normal <;> simp [band]

/-- The station once the FLUSH has ended, before its DONE is requested. -/
def State.flushOver (s : State) : State := (s.completeOp .flush).mapFilter FilterState.flushed

theorem finishFlush_eq {s : State} {p : Flushing} (progress : s.filter.progress = some p)
    (runs : s.seq.runs .flush = true) :
    s.finishFlush = s.flushOver.requestFlushDone ⟨p.id, byteOf s.cfg.fil.flushVolume, false, p.arrival, 7⟩ := by
  have cfg : (s.completeOp .flush).cfg = s.cfg := (untouched_completeOp s .flush).cfg
  unfold State.finishFlush
  simp only [progress, if_pos runs]
  exact congrArg (fun c : Config => s.flushOver.requestFlushDone ⟨p.id, byteOf c.fil.flushVolume, false, p.arrival, 7⟩) cfg

theorem runs_spendRunning (q : SeqState) (k : OpKind) : q.spendRunning.runs k = q.runs k := by
  unfold SeqState.spendRunning SeqState.runs
  cases q.running <;> rfl

theorem completeOp_of_runs {s : State} {k : OpKind} (runs : s.seq.runs k = true) :
    (s.completeOp k).seq = ({ s.seq with running := none } : SeqState).chooseNext.seq ∧
    { s.completeOp k with seq := s.seq, reports := s.reports } = s := by
  unfold State.completeOp
  rw [if_pos runs]
  refine ⟨?_, rfl⟩
  unfold SeqState.runs at runs
  unfold SeqState.endRunning
  cases running : s.seq.running with
  | none => simp [running] at runs
  | some o => simp [State.takeSeq]

/-- The DONE enters a queue with room, and is pending, whatever the role. -/
theorem requestFlushDone_roomy {s : State} (room : s.roomy) (b : DoneBody) :
    (s.requestFlushDone b).filter.pending = some ⟨b, false⟩ ∧ ∃ f ∈ (s.requestFlushDone b).trunk.queue, f.body = .done b := by
  have room' : (s.mapFilter (fun u => { u with pending := some ⟨b, false⟩ })).roomy := room
  refine ⟨?_, mem_request_done room' b⟩
  unfold State.requestFlushDone
  rw [request_done_roomy room']
  unfold State.doneFate
  split
  · rfl
  · simp [FilterState.doneFate, PendingDone.fate]
  · rfl

/-! ## A WITHDRAW and the filter that holds no claim -/

/-- None of the frames that a WITHDRAW's request settles besides carries a DONE: those are CLAIMs that it cancels,
or of a worse class. -/
theorem others_of_withdraw (s : State) (w : WithdrawBody) (who : Block) (u : Bool) :
    ∀ x ∈ (s.settleOf (.withdraw w) who u).others, ∀ d, x.2.1 ≠ .done d := by
  have cancelled : ∀ x ∈ cancelledBy s.trunk.queue w.id, ∀ d, x.2.1 ≠ .done d := by
    intro x mem d done
    obtain ⟨g, waits, rfl⟩ := List.mem_map.1 mem
    obtain ⟨_, c, body, _⟩ := waitingClaim_iff.1 (List.mem_filter.1 waits).2
    exact QBody.noConfusion (body.symm.trans done)
  have displaced : ∀ q : List QFrame, ∀ x ∈ (enter q (newFrame (.withdraw w) who u)).others, ∀ d, x.2.1 ≠ .done d := by
    intro q x mem d done
    obtain room | ⟨full, i, v, victim⟩ | ⟨full, none_worse⟩ := enter_cases q (newFrame (.withdraw w) who u)
    · simp [enter_of_room room] at mem
    · rw [enter_of_victim full victim, List.mem_singleton] at mem
      have worse := victim.worse
      have body : v.body = .done d := (congrArg (fun y : Block × QBody × Fate => y.2.1) mem).symm.trans done
      simp [QFrame.cls, newFrame, QBody.kind, classOf, body] at worse
    · simp [enter_of_full full none_worse] at mem
  unfold State.settleOf
  split
  · simp
  · split
    · simp
    · rw [settleRequest_withdraw (f := newFrame (.withdraw w) who u) _ _ rfl]
      split
      · exact cancelled
      · split
        · exact cancelled
        · intro x mem
          exact (List.mem_append.1 mem).elim (cancelled x) (displaced _ x)

theorem deliver_filter_of_free {s : State} (role : s.cfg.role = .filter) (free : s.filter.claimId = none) (who : Block)
    {b : QBody} (other : ∀ d, b ≠ .done d) (f : Fate) : (s.deliver who b f).filter = s.filter := by
  unfold State.deliver
  dsimp only
  split
  · rename_i c
    have kept : s.filter.claimFate c.id f = s.filter := if_neg (by simp [free])
    simp only [State.claimFate, report_cfg, role, report_filter, kept]
  · exact absurd rfl (other _)
  · rfl
  · rfl

theorem deliverAll_filter_of_free (l : List (Block × QBody × Fate)) {s : State} (role : s.cfg.role = .filter)
    (free : s.filter.claimId = none) (other : ∀ x ∈ l, ∀ d, x.2.1 ≠ .done d) : (s.deliverAll l).filter = s.filter := by
  induction l generalizing s with
  | nil => rfl
  | cons x l ih =>
    have first := deliver_filter_of_free role free x.1 (other x List.mem_cons_self) x.2.2
    have cfg := (untouched_deliver s x.1 x.2.1 x.2.2).cfg
    exact (ih (cfg ▸ role) (first ▸ free) (fun y mem => other y (List.mem_cons_of_mem x mem))).trans first

theorem request_withdraw_filter {s : State} (role : s.cfg.role = .filter) (free : s.filter.claimId = none)
    (w : WithdrawBody) (who : Block) (u : Bool) : (s.request (.withdraw w) who u).filter = s.filter := by
  have others := deliverAll_filter_of_free (s.settleOf (.withdraw w) who u).others
    (s := s.setQueue (s.settleOf (.withdraw w) who u).queue) role free (others_of_withdraw s w who u)
  have cfg := (untouched_deliverAll (s.setQueue (s.settleOf (.withdraw w) who u).queue)
    (s.settleOf (.withdraw w) who u).others).cfg
  exact (deliver_filter_of_free (cfg ▸ role) (others ▸ free) who (by simp) _).trans others

/-! ## The claims that nothing names (R145) -/

section
variable {s : State} (l : List Byte)

/-- A WITHDRAW for each id, in order. -/
def State.withdrawAll (s : State) : State := l.foldl (fun s id => s.request (.withdraw ⟨id⟩) .role) s

theorem queues_withdrawAll_of_queues {w : WithdrawBody} (here : s.queues (.withdraw w)) :
    (s.withdrawAll l).queues (.withdraw w) := by
  induction l generalizing s with
  | nil => exact here
  | cons id l ih => exact ih (queues_request here nofun (Nat.le_refl _))

/-- Each WITHDRAW stands in the queue in the end, where there is room for all. -/
theorem queues_withdrawAll (joined : ∀ c, s.sync.status ≠ .excluded c) (line : s.trunk.line = .active)
    (held : ∀ id ∈ l, ∃ c ∈ s.table.claims, c.owner = s.own ∧ c.id = id) (room : s.trunk.queue.length + l.length ≤ 8) :
    ∀ id ∈ l, (s.withdrawAll l).queues (.withdraw ⟨id⟩) := by
  induction l generalizing s with
  | nil => nofun
  | cons x l ih =>
    have kept : Untouched s (s.request (.withdraw ⟨x⟩) .role) := untouched_request s _ _ _
    have longer := length_request_le s (.withdraw ⟨x⟩) .role false
    rw [List.length_cons] at room
    intro id mem
    obtain rfl | later := List.mem_cons.1 mem
    · have first := queues_request_withdraw (who := .role) (u := false) joined line (w := ⟨id⟩)
        (.inr (held id List.mem_cons_self)) (by omega)
      exact queues_withdrawAll_of_queues l first
    · refine ih ?_ (kept.line_eq.trans line) ?_ (by omega) id later
      · rw [kept.status_eq]
        exact joined
      · rw [kept.claims, kept.own_eq]
        exact fun id mem => held id (List.mem_cons_of_mem x mem)

end

theorem mem_orphanFlushes {s : State} {c : Claim} (mem : c ∈ s.table.claims) (own : c.owner = s.own)
    (free : s.filter.claimId ≠ some c.id) (unnamed : ∀ p, s.filter.pending = some p → p.body.id ≠ c.id) :
    c.id ∈ s.orphanFlushes := by
  have owned : c ∈ s.ownClaims := List.mem_filter.2 ⟨mem, by simp [own]⟩
  refine List.mem_filter.2 ⟨List.mem_map.2 ⟨c, owned, rfl⟩, ?_⟩
  cases pending : s.filter.pending with
  | none => simp [free]
  | some p => simp [free, unnamed p pending]

theorem own_of_mem_orphanFlushes {s : State} {id : Byte} (mem : id ∈ s.orphanFlushes) :
    ∃ c ∈ s.table.claims, c.owner = s.own ∧ c.id = id := by
  obtain ⟨c, owned, rfl⟩ := List.mem_map.1 (List.mem_filter.1 mem).1
  obtain ⟨held, own⟩ := List.mem_filter.1 owned
  exact ⟨c, held, eq_of_beq own, rfl⟩

theorem length_orphanFlushes_le (s : State) :
    s.orphanFlushes.length ≤ (s.table.claims.filter (fun c => c.owner == s.own)).length := by
  unfold State.orphanFlushes
  exact (List.length_filter_le _ _).trans (Nat.le_of_eq (List.length_map _))

/-! ## The steps of a MARK (R140, R142) -/

/-- The settle count of a filter SETTLING at the MARK. -/
def State.settleFlush (settling : Bool) (s : State) : State :=
  if settling && s.filter.mode == .settling then s.mapFilter FilterState.settleOnce else s

/-- The start of the flush, or the end of a claim not started. -/
def State.turnFlush (m : Window) (s : State) : State :=
  if s.mayFlush m then s.startFlush m
  else if s.filter.mode = .committed ∧ s.filter.discharge.any (fun w => dueBy w m) = true then s.withdrawFlush
  else s

def State.clearRefused (s : State) : State := s.mapFilter (fun u => { u with refused := false })

/-- All of the filter's part in a MARK but the claims that nothing names. -/
def State.flushAtMark (s : State) (settling : Bool) (m : Window) : State :=
  (((s.endFlush .settling 1).settleFlush settling).turnFlush m).clearRefused

theorem markFilter_eq (s : State) (settling : Bool) (m : Window) :
    s.markFilter settling m = (s.flushAtMark settling m).withdrawOrphanFlushes := rfl

theorem endFlush_of_idle {s : State} (idle : s.filter.progress = none) (next : FilterMode) (n : Nat) :
    s.endFlush next n = s := by
  unfold State.endFlush
  rw [idle]

theorem settleFlush_of_other {s : State} {settling : Bool} (h : s.filter.mode ≠ .settling ∨ settling = false) :
    s.settleFlush settling = s := by
  refine if_neg (fun both => ?_)
  rw [Bool.and_eq_true, beq_iff_eq] at both
  exact h.elim (absurd both.2) (fun no => Bool.noConfusion (no.symm.trans both.1))

theorem mayFlush_iff {s : State} {m : Window} : s.mayFlush m = true ↔ s.filter.mode = .committed ∧
    s.filter.discharge = some m ∧ s.sync.status = .synced ∧ s.hall.stops = [] ∧ s.mode.supply = .normal ∧
    (s.mode.mode = .run ∨ s.mode.mode = .quiet) := by
  simp [State.mayFlush, State.working, and_assoc]

/-- A filter that is not COMMITTED, or to a window still to come, waits. -/
theorem turnFlush_of_waiting {s : State} {m : Window} (waits : s.filter.mode ≠ .committed ∨
    ∃ w, s.filter.discharge = some w ∧ 1 ≤ (w - m).toNat ∧ (w - m).toNat ≤ 255) : s.turnFlush m = s := by
  unfold State.turnFlush
  obtain other | ⟨w, window, later⟩ := waits
  · rw [if_neg (fun may => other (mayFlush_iff.1 may).1), if_neg (fun h => other h.1)]
  · have other : ¬s.mayFlush m = true := fun may => by
      obtain rfl : w = m := Option.some.inj (window.symm.trans (mayFlush_iff.1 may).2.1)
      simp at later
    rw [if_neg other, if_neg (fun h => by simp [window, dueBy, earlier_iff.2 later] at h)]

/-- Below an operation of a level under 2 the ladder holds one entry at most. -/
theorem length_stack_of_lawful {q : SeqState} (lawful : q.lawful) {r : Op} (running : q.running = some r)
    (low : r.level < 2) : q.stack.length < 3 := by
  have falling := lawful.1
  rw [SeqState.ladder, running] at falling
  match stack : q.stack with
  | [] => simp
  | [a] => simp
  | a :: b :: rest =>
    simp only [stack, Option.toList_some, List.singleton_append, List.pairwise_cons] at falling
    obtain ⟨under, under', _⟩ := falling
    have first := under a List.mem_cons_self
    have second := under' b List.mem_cons_self
    omega

/-- So the start of a FLUSH, of level 2, abandons nothing. -/
theorem request_flush_abandoned {q : SeqState} (lawful : q.lawful) {o : Op} (kind : o.kind = .flush) :
    (q.request o).abandoned = none := by
  unfold SeqState.request
  split
  · rfl
  · rename_i r running
    split
    · rename_i lower
      have low : r.level < 2 := by
        rwa [show o.level = 2 from congrArg OpKind.level kind] at lower
      have room := length_stack_of_lawful lawful running low
      simp [pushOp, room]
    · split
      · rfl
      · split <;> rfl

theorem requestOp_of_kept {s : State} {o : Op} (kept : (s.seq.request o).abandoned = none) :
    s.requestOp o = s.takeSeq (s.seq.request o) := by
  unfold State.requestOp
  dsimp only
  rw [kept]

theorem startFlush_eq {s : State} (lawful : s.seq.lawful) (m : Window) :
    s.startFlush m = (s.mapFilter (fun u => { u with
      mode := .flushing, progress := some ⟨s.filter.claimId.getD 0, plus m s.cfg.transit, false⟩
      flushRequest := false })).takeSeq (s.seq.request s.flushOp) :=
  requestOp_of_kept (request_flush_abandoned (q := s.seq) lawful rfl)

/-! ## A flush at a MARK, case by case -/

section
variable {s : State} {settling : Bool} {m : Window}

theorem clearRefused_untouched (s : State) : Untouched s s.clearRefused := untouched_mapFilter s _ ⟨rfl, rfl⟩

/-- A flush under way ends, and the filter neither settles nor starts at this MARK. -/
theorem flushAtMark_of_progress (role : s.cfg.role = .filter) {p : Flushing} (progress : s.filter.progress = some p)
    (other : settling = false) : s.flushAtMark settling m = (s.endFlush .settling 1).clearRefused := by
  have ends := flushEnds_endFlush role progress
  have mode : (s.endFlush .settling 1).filter.mode = .settling :=
    (congrArg (fun u : FilterState => u.mode) ends.filter).trans rfl
  unfold State.flushAtMark
  rw [settleFlush_of_other (.inr other), turnFlush_of_waiting (.inl (by rw [mode]; nofun))]

theorem flushAtMark_of_settling (idle : s.filter.progress = none) (mode : s.filter.mode = .settling)
    (counts : settling = true) : s.flushAtMark settling m = { s with filter := { s.filter with
      settle := min (s.filter.settle + 1) 2, mode := if s.filter.settle + 1 < 2 then .settling else .online
      refused := false } } := by
  have settled : s.settleFlush settling = s.mapFilter FilterState.settleOnce := if_pos (by simp [counts, mode])
  have next : (s.filter.settleOnce).mode = if s.filter.settle + 1 < 2 then .settling else .online := by
    unfold FilterState.settleOnce
    by_cases few : s.filter.settle + 1 < 2
    · simp [few, Nat.min_eq_left few.le, few.ne]
    · simp [few, Nat.min_eq_right (Nat.not_lt.1 few)]
  have waits : (s.mapFilter FilterState.settleOnce).filter.mode ≠ .committed := by
    refine next ▸ ?_
    split <;> nofun
  unfold State.flushAtMark
  rw [endFlush_of_idle idle, settled, turnFlush_of_waiting (.inl waits), ← next]
  rfl

theorem flushAtMark_of_start (idle : s.filter.progress = none) (may : s.mayFlush m = true) (lawful : s.seq.lawful) :
    s.flushAtMark settling m = ((s.mapFilter (fun u => { u with
      mode := .flushing, progress := some ⟨s.filter.claimId.getD 0, plus m s.cfg.transit, false⟩
      flushRequest := false })).takeSeq (s.seq.request s.flushOp)).clearRefused := by
  have committed := (mayFlush_iff.1 may).1
  have starts : s.turnFlush m = s.startFlush m := if_pos may
  unfold State.flushAtMark
  rw [endFlush_of_idle idle, settleFlush_of_other (.inl (by rw [committed]; nofun)), starts, startFlush_eq lawful]

theorem flushAtMark_of_overdue (idle : s.filter.progress = none) (committed : s.filter.mode = .committed)
    (stays : ¬s.mayFlush m = true) {w : Window} (window : s.filter.discharge = some w)
    (due : ¬(1 ≤ (w - m).toNat ∧ (w - m).toNat ≤ 255)) {id : Byte} (claim : s.filter.claimId = some id) :
    s.flushAtMark settling m =
      ((s.mapFilter FilterState.unclaim).request (.withdraw ⟨id⟩) .role).clearRefused := by
  have overdue : dueBy w m = true := by
    unfold dueBy
    rw [Bool.not_eq_true', Bool.eq_false_iff]
    exact fun h => due (earlier_iff.1 h)
  have turned : s.turnFlush m = s.withdrawFlush := (if_neg stays).trans (if_pos ⟨committed, by simp [window, overdue]⟩)
  have withdrawn : s.withdrawFlush = (s.mapFilter FilterState.unclaim).request (.withdraw ⟨id⟩) .role := by
    unfold State.withdrawFlush
    simp [claim, committed]
  unfold State.flushAtMark
  rw [endFlush_of_idle idle, settleFlush_of_other (.inl (by rw [committed]; nofun)), turned, withdrawn]

theorem flushAtMark_of_waiting (idle : s.filter.progress = none) (other : s.filter.mode ≠ .settling ∨ settling = false)
    (waits : s.filter.mode ≠ .committed ∨
      ∃ w, s.filter.discharge = some w ∧ 1 ≤ (w - m).toNat ∧ (w - m).toNat ≤ 255) :
    s.flushAtMark settling m = s.clearRefused := by
  unfold State.flushAtMark
  rw [endFlush_of_idle idle, settleFlush_of_other other, turnFlush_of_waiting waits]

end

/-! ## The obligation -/

theorem flushComplete_eq {s : State} {p : Flushing} (awake : s.awake = true) (runs : s.seq.runs .flush = true)
    (progress : s.filter.progress = some p) : exec .flushComplete s =
      .next ((({ s.cleared with seq := s.seq.spendRunning } : State).flushOver.requestFlushDone
        ⟨p.id, byteOf s.cfg.fil.flushVolume, false, p.arrival, 7⟩).concluded s.seq) := by
  have takes : (s.cleared.awake && s.cleared.seq.runs .flush) = true := Bool.and_eq_true_iff.2 ⟨awake, runs⟩
  have spent : ({ s.cleared with seq := s.seq.spendRunning } : State).seq.runs .flush = true :=
    (runs_spendRunning s.seq .flush).trans runs
  refine congrArg Host.Outcome.next ((event_of_running _ (notReset_of_awake awake)).trans ?_)
  exact congrArg (State.concluded s.seq) ((if_pos takes).trans (finishFlush_eq
    (s := { s.cleared with seq := s.seq.spendRunning }) progress spent))

/-- The WITHDRAWs of R145 with their frame. -/
theorem withdrawOrphanFlushes_queues {s : State} (line : s.trunk.line = .active)
    (joined : ∀ c, s.sync.status ≠ .excluded c)
    (room : s.trunk.queue.length + (s.table.claims.filter (fun c => c.owner == s.own)).length ≤ 8) {c : Claim}
    (mem : c ∈ s.table.claims) (own : c.owner = s.own) (free : s.filter.claimId ≠ some c.id)
    (unnamed : ∀ p, s.filter.pending = some p → p.body.id ≠ c.id) :
    s.withdrawOrphanFlushes.queues (.withdraw ⟨c.id⟩) :=
  queues_withdrawAll s.orphanFlushes joined line (fun _ => own_of_mem_orphanFlushes)
    ((Nat.add_le_add_left (length_orphanFlushes_le s) _).trans room) c.id (mem_orphanFlushes mem own free unnamed)

/-- Settles O32, by the case of `flushAtMark` that each clause of the MARK's part names. -/
theorem flushCompletes : Obligations.FlushCompletes := by
  refine ⟨fun s p awake runs progress => ?_, fun s settling m role => ?_, fun s => ⟨untouched_withdrawOrphanFlushes s,
    fun room line joined c mem own free unnamed => withdrawOrphanFlushes_queues line joined room mem own free unnamed⟩⟩
  · have spent : ({ s.cleared with seq := s.seq.spendRunning } : State).seq.runs .flush = true :=
      (runs_spendRunning s.seq .flush).trans runs
    obtain ⟨seq, completed⟩ := completeOp_of_runs spent
    have filter := congrArg (fun t : State => t.filter.flushed) completed
    have frame := congrArg (fun t : State => { t with filter := s.filter, seq := s.seq, reports := [] }) completed
    have trunk := congrArg (fun t : State => t.trunk) completed
    have status := congrArg (fun t : State => t.sync.status) completed
    refine ⟨_, flushComplete_eq awake runs progress, filter.trans (flushed_eq s.filter), seq, frame,
      fun room line joined => requestFlushDone_roomy ⟨?_, ?_, isExcluded_eq_false.2 fun c => ?_⟩ _⟩
    · exact (congrArg (fun t : TrunkState => t.queue.length) trunk).trans_lt room
    · exact (congrArg TrunkState.line trunk).trans line
    · exact fun excluded => joined c (status.symm.trans excluded)
  · refine ⟨s.flushAtMark settling m, markFilter_eq s settling m, fun p progress other => ?_, fun idle mode counts => ?_,
      fun idle committed starts lawful => ?_, fun id idle committed stays early held claim => ?_,
      fun idle other waits => ?_⟩
    · have ends := flushEnds_endFlush role progress
      rw [flushAtMark_of_progress role progress other]
      refine ⟨congrArg (fun u : FilterState => { u with refused := false }) ends.filter, ends.seq, ends.counted,
        (untouched_endFlush s _ _).trans (clearRefused_untouched _), fun room line joined => ?_⟩
      have roomy : s.roomy := ⟨room, line, isExcluded_eq_false.2 joined⟩
      exact ⟨ends.pending roomy, ends.queued roomy⟩
    · exact flushAtMark_of_settling idle mode counts
    · rw [flushAtMark_of_start idle (mayFlush_iff.2 ⟨committed, starts⟩) lawful]
      exact ⟨rfl, rfl, rfl⟩
    · obtain ⟨w, window⟩ := Option.ne_none_iff_exists'.1 held
      have due : ¬(1 ≤ (w - m).toNat ∧ (w - m).toNat ≤ 255) := fun later => early ⟨w, window, later⟩
      rw [flushAtMark_of_overdue idle committed (fun may => stays (mayFlush_iff.1 may).2) window due claim]
      have unclaimed : Untouched s (s.mapFilter FilterState.unclaim) := untouched_mapFilter s _ ⟨rfl, rfl⟩
      have filter := request_withdraw_filter (s := s.mapFilter FilterState.unclaim) role rfl ⟨id⟩ .role false
      refine ⟨congrArg (fun u : FilterState => { u with refused := false }) filter, request_seq _ _ _ _,
        (unclaimed.trans (untouched_request _ _ _ _)).trans (clearRefused_untouched _), fun empty line joined => ?_⟩
      have queue : (s.mapFilter FilterState.unclaim).trunk.queue = [] := empty
      exact queues_request_withdraw (s := s.mapFilter FilterState.unclaim) joined line
        (.inl (by rw [queue]; rfl)) (by rw [queue]; exact Nat.succ_pos 7)
    · rw [flushAtMark_of_waiting idle other waits]
      rfl

end Sys2Proof.Machine
end


section
/-! O11: what a MARK decides for an OPEN row round. -/

namespace Sys2Proof.Machine

/-! ## Parts that leave the sync record alone -/

/-- The sync record stands but for the lost mark of the round's ASK, and so does every attention flag raised. -/
structure SyncStands (s t : State) : Prop where
  sync : { t.sync with askLost := s.sync.askLost } = s.sync
  flags : ∀ i, s.port.flags.getLsbD i = true → t.port.flags.getLsbD i = true

theorem SyncStands.refl (s : State) : SyncStands s s := ⟨rfl, fun _ => id⟩

theorem SyncStands.trans {a b c : State} (h : SyncStands a b) (k : SyncStands b c) : SyncStands a c :=
  ⟨(congrArg (fun x : SyncState => { x with askLost := a.sync.askLost }) k.sync).trans h.sync,
    fun i raised => k.flags i (h.flags i raised)⟩

theorem SyncStands.of_eq {s t : State} (sync : t.sync = s.sync) (port : t.port = s.port) : SyncStands s t :=
  ⟨by rw [sync], fun _ => port ▸ id⟩

theorem Untouched.syncStands {s t : State} (h : Untouched s t) : SyncStands s t := ⟨h.sync, h.raised⟩

theorem Concluded.syncStands {s t : State} (h : Concluded s t) : SyncStands s t := by
  have kept : Untouched s _ := h
  exact ⟨kept.sync, kept.raised⟩

theorem syncStands_foldl {α : Type} (f : State → α → State) (hf : ∀ s x, SyncStands s (f s x)) (l : List α)
    (s : State) : SyncStands s (l.foldl f s) := by
  induction l generalizing s with
  | nil => exact .refl s
  | cons x l ih => exact (hf s x).trans (ih _)

section
variable {s t : State} (h : SyncStands s t)
include h

theorem SyncStands.status_eq : t.sync.status = s.sync.status := by rw [← h.sync]
theorem SyncStands.round_eq : t.sync.round = s.sync.round := by rw [← h.sync]
theorem SyncStands.received_eq : t.sync.received = s.sync.received := by rw [← h.sync]
theorem SyncStands.roundMarks_eq : t.sync.roundMarks = s.sync.roundMarks := by rw [← h.sync]
theorem SyncStands.attempts_eq : t.sync.attempts = s.sync.attempts := by rw [← h.sync]

end

/-! ## Before the comparison -/

theorem syncStands_markWindow (s : State) (m : Window) : SyncStands s (s.markWindow m) := by
  have counted : SyncStands s { s with window := { s.window with number := m, timer := some 0, expiries := 0 } } :=
    .of_eq rfl rfl
  unfold State.markWindow
  dsimp only
  split
  · exact (counted.trans (untouched_pullWaiting _ _).syncStands).trans (.of_eq rfl rfl)
  · exact counted.trans (untouched_pullWaiting _ _).syncStands

theorem syncStands_markPresent (s : State) (own joined : Bool) : SyncStands s (s.markPresent own joined) := by
  unfold State.markPresent
  dsimp only
  split
  · exact (untouched_request s _ _ _).syncStands.trans (.of_eq rfl rfl)
  · exact .of_eq rfl rfl

theorem syncStands_markPlanned (h : State) (own : Bool) (b : MarkBody) : SyncStands h (h.markPlanned own b) :=
  (syncStands_markWindow h b.window).trans ((syncStands_markPresent _ own _).trans (.of_eq rfl rfl))

/-! ## After the comparison -/

theorem syncStands_markTable (s : State) (commits : List (Addr × Byte × Window)) (lost : List Addr) (m : Window) :
    SyncStands s (s.markTable commits lost m) := by
  have marked : SyncStands s (s.tableMarked commits lost m) := .of_eq rfl rfl
  rw [markTable_eq]
  exact marked.trans ((chores_commitAll _ _).works.untouched.syncStands.trans
    (syncStands_foldl _ (fun s (c : Claim) => (untouched_roleRemoved s c.id .stale).syncStands) _ _))

theorem syncStands_markRoster (s : State) (sender : Addr) : SyncStands s (s.markRoster sender) := by
  have frame := (markRoster_facts s sender).1
  have sync := congrArg (fun t : State => t.sync) frame
  have port := congrArg (fun t : State => t.port) frame
  exact .of_eq sync port

theorem syncStands_mapCrusher (s : State) (f : CrusherState → CrusherState) : SyncStands s (s.mapCrusher f) :=
  .of_eq rfl rfl

theorem syncStands_consumeOne (m : Window) (s : State) (e : Inbound) : SyncStands s (s.consumeOne m e) := by
  have judged : ∀ (u : State) (n : Nat), SyncStands u (u.judgeHold n) := by
    intro u n
    unfold State.judgeHold
    split
    · exact (syncStands_mapCrusher u _).trans
        ((untouched_raise _ _).trans (chores_requestGate _).works.untouched).syncStands
    · exact .refl u
  unfold State.consumeOne
  generalize (if e.arrival = m then s.crusher.current else s.crusher.previous) = r
  have mixed : SyncStands s (if e.cls = r.position then s else s.countMixed.raise .mixedArrival) := by
    split
    · exact .refl s
    · have counted : SyncStands s s.countMixed := .of_eq rfl rfl
      exact counted.trans (untouched_raise _ _).syncStands
  dsimp only
  split
  · exact mixed.trans ((syncStands_mapCrusher _ _).trans (judged _ _))
  · exact syncStands_mapCrusher s _

theorem syncStands_markCrusher (s : State) (m : Window) : SyncStands s (s.markCrusher m) := by
  have turned : SyncStands s s.turnDiverter := .of_eq rfl rfl
  have consumed : SyncStands s.turnDiverter (s.turnDiverter.consume m) :=
    (syncStands_mapCrusher _ _).trans (syncStands_foldl _ (syncStands_consumeOne m) _ _)
  exact turned.trans (consumed.trans ((syncStands_mapCrusher _ _).trans (untouched_tellHall _).syncStands))

theorem syncStands_markUnit (s : State) (settling : Bool) (m : Window) : SyncStands s (s.markUnit settling m) := by
  unfold State.markUnit
  split
  · exact (untouched_markDischarge s m).syncStands
  · exact (untouched_markFilter s settling m).syncStands
  · exact syncStands_markCrusher s m

theorem syncStands_markRole (s : State) (settling again : Bool) (l : List DoneBody) (m : Window) :
    SyncStands s (s.markRole settling again l m) := by
  have unit := (chores_requestDones s l).works.untouched.syncStands.trans (syncStands_markUnit _ settling m)
  rw [markRole_eq]
  split
  · exact unit.trans (untouched_withdrawCommitted _).syncStands
  · exact unit

theorem syncStands_markMode (s : State) : SyncStands s s.markMode := by
  unfold State.markMode
  split
  · exact .of_eq rfl rfl
  · split
    · exact (untouched_request s _ _ _).syncStands
    · exact .refl s
  · exact .refl s

/-- What a station on an ACTIVE line has decided at the comparison stands when the MARK has been taken. -/
theorem syncStands_takeMark (q : SeqState) {h : State} (own : Bool) (sender : Addr) (b : MarkBody)
    (heard : h.senderExcluded sender = false) (active : h.trunk.line = .active) :
    SyncStands (h.markCompared own b) ((h.takeMark own sender b).concluded q) := by
  have recorded := recorded_markRecords h own sender b
  have records : SyncStands (h.markCompared own b) (h.markRecords own sender b) := by
    rw [markRecords_eq]
    exact (syncStands_markTable _ _ _ _).trans (syncStands_markRoster _ _)
  generalize hx : h.markRecords own sender b = x at recorded records
  generalize hz : x.markRole (h.filter.mode == .settling) (h.sync.status.mending && x.sync.status.mending)
    h.lostDones b.window = z
  have role : SyncStands x z := hz ▸ syncStands_markRole x _ _ _ _
  have taken : h.takeMark own sender b = z.markMode.markConfined := by
    rw [State.takeMark, if_neg (by simp [heard]), ← hz, ← hx]
  have line : z.markMode.trunk.line = .active := by
    have counted := congrArg TrunkState.line recorded.trunk
    have moded := congrArg TrunkState.line (markMode_facts z).2.1
    have steady : z.trunk.line = x.trunk.line := hz ▸ (steady_markRole x _ _ _ _).line_eq
    exact moded.trans (steady.trans (counted.trans ((counted_line _).trans active)))
  have confined : z.markMode.markConfined = z.markMode := if_neg (fun both => by simp [line] at both)
  rw [taken, confined]
  exact records.trans (role.trans ((syncStands_markMode z).trans (concluded_concluded q _).syncStands))

/-! ## The comparison -/

/-- A new round is asked for. -/
theorem askRows_sync (s : State) (n : Nat) :
    SyncStands { s with sync := { s.sync with round := .asked, attempts := n } } (s.askRows n) := by
  have noted : SyncStands { s with sync := { s.sync with round := .asked, attempts := n } }
      (s.mapSync (fun x => { x with round := .asked, attempts := n, askLost := false })) := ⟨rfl, fun _ => id⟩
  exact noted.trans (untouched_request _ _ _ _).syncStands

/-- Entry into SYNCED moves the state alone. -/
theorem becomeSynced_sync (s : State) :
    SyncStands { s with sync := { s.sync with status := .synced } } s.becomeSynced := by
  have set : SyncStands { s with sync := { s.sync with status := .synced } } (s.setSync .synced).markRestated := by
    refine .of_eq (setSync_sync s .synced) ?_
    unfold State.setSync
    dsimp only
    split <;> rfl
  exact set.trans (untouched_roleSyncGained _).syncStands

theorem agrees_iff {h : State} {b : MarkBody} : h.markView.agrees b = true ↔
    b.digest = crc16 (digestInput h.roster h.table.claims h.hall) ∧ b.count = BitVec.ofNat 8 h.table.claims.length := by
  simp [MarkView.agrees, State.markView, State.digest, State.claimCount, byteOf]

theorem complete_iff {h : State} {x : SyncState} : x.complete h.markView.peers = true ↔
    ∀ e ∈ h.roster, e.addr ≠ h.own → e.status = .present → e.addr ∈ x.received := by
  simp [SyncState.complete, State.markView, presentPeers, or_iff_not_imp_left]

theorem raise_diverged (s : State) : (s.raise .diverged).port.flags.getLsbD 0 = true := by
  rw [raise_flags, BitVec.getLsbD_or, Bool.or_eq_true]
  exact .inr (by decide)

section
variable {s : State} {v : MarkView} {b : MarkBody}

theorem markSync_of_mending (mending : s.sync.status = .syncing ∨ s.sync.status = .diverged) :
    s.markSync v b = s.markRound v b := by
  unfold State.markSync
  obtain syncing | diverged := mending
  · rw [syncing]
  · rw [diverged]

theorem markRound_of_complete (opened : s.sync.round = .opened) (complete : s.sync.complete v.peers = true) :
    s.markRound v b = s.decideRound v b := by
  unfold State.markRound
  rw [opened]
  exact if_pos complete

theorem markRound_of_missing (opened : s.sync.round = .opened) (missing : ¬s.sync.complete v.peers = true) :
    s.markRound v b =
      if 1 ≤ s.sync.roundMarks then
        (s.mapSync (fun x => { x with roundMarks := x.roundMarks + 1 })).askRows s.sync.nextAttempt
      else s.mapSync (fun x => { x with roundMarks := x.roundMarks + 1 }) := by
  have second : 2 ≤ (s.mapSync (fun x => { x with roundMarks := x.roundMarks + 1 })).sync.roundMarks ↔
      1 ≤ s.sync.roundMarks := Nat.succ_le_succ_iff
  unfold State.markRound
  rw [opened]
  dsimp only
  rw [if_neg missing]
  simp only [second]
  rfl

end

/-- Settles O11: the comparison decides, on the sync record as the MARK found it, and nothing after it moves that. -/
theorem roundDecided : Obligations.RoundDecided := by
  intro rx s h own a b arrives heard mending opened active
  have answer : exec (.mark rx) s = .next ((h.takeMark own a b).concluded s.seq) :=
    congrArg Host.Outcome.next (event_of_arrival State.takeMark arrives)
  refine ⟨_, answer, ?_⟩
  have stands := syncStands_takeMark s.seq own a b heard active
  have planned := syncStands_markPlanned h own b
  have compared : h.markCompared own b = (h.markPlanned own b).markSync h.markView b := rfl
  rw [compared, markSync_of_mending (by rw [planned.status_eq]; exact mending)] at stands
  have complete : (h.markPlanned own b).sync.complete h.markView.peers = true ↔
      ∀ e ∈ h.roster, e.addr ≠ h.own → e.status = .present → e.addr ∈ h.sync.received := by
    rw [← planned.received_eq]
    exact complete_iff
  have again : (h.markPlanned own b).sync.nextAttempt = min (h.sync.attempts + 1) 255 := by
    rw [SyncState.nextAttempt, planned.attempts_eq]
  have opened' := planned.round_eq.trans opened
  generalize (h.takeMark own a b).concluded s.seq = t at stands
  generalize h.markPlanned own b = p at stands planned complete again opened'
  by_cases rows : ∀ e ∈ h.roster, e.addr ≠ h.own → e.status = .present → e.addr ∈ h.sync.received
  · rw [if_pos rows]
    rw [markRound_of_complete opened' (complete.2 rows), State.decideRound] at stands
    by_cases agrees : h.markView.agrees b = true
    · rw [if_pos (agrees_iff.1 agrees)]
      rw [if_pos agrees] at stands
      have all := (becomeSynced_sync _).trans stands
      exact ⟨all.status_eq, all.round_eq, all.received_eq, all.roundMarks_eq, all.attempts_eq⟩
    · rw [if_neg (fun both => agrees (agrees_iff.2 both))]
      rw [if_neg agrees] at stands
      have all := (askRows_sync _ _).trans stands
      exact ⟨all.status_eq.trans planned.status_eq, all.round_eq, all.flags 0 (raise_diverged p),
        all.attempts_eq.trans again⟩
  · rw [if_neg rows]
    rw [markRound_of_missing opened' (fun c => rows (complete.1 c))] at stands
    have counted : p.sync.roundMarks + 1 = h.sync.roundMarks + 1 := congrArg (· + 1) planned.roundMarks_eq
    by_cases second : 1 ≤ p.sync.roundMarks
    · rw [if_pos second] at stands
      have all := (askRows_sync _ _).trans stands
      refine ⟨all.status_eq.trans planned.status_eq, all.roundMarks_eq.trans counted, fun first => ?_,
        fun _ => ⟨all.round_eq, all.attempts_eq.trans again⟩⟩
      rw [planned.roundMarks_eq, first] at second
      exact absurd second (by decide)
    · rw [if_neg second] at stands
      refine ⟨stands.status_eq.trans planned.status_eq, stands.roundMarks_eq.trans counted, fun _ =>
        ⟨stands.round_eq.trans opened', stands.attempts_eq.trans planned.attempts_eq⟩, fun later => ?_⟩
      rw [planned.roundMarks_eq] at second
      exact absurd later second

end Sys2Proof.Machine
end


section
/-! SUPPORT. How many DISCHARGEs the sequencer holds, and what leaves the flume flap safe (R108, R120, R122): the discharge
in progress goes on in its window and its conditions, or it ends and takes its DISCHARGE with it. -/

namespace Sys2Proof.Machine

/-! ## The DISCHARGEs that the sequencer holds (R169 to R173) -/

/-- The operation is a DISCHARGE. -/
def Op.discharges (o : Op) : Bool := o.kind == .discharge

theorem dischargesHeld_eq (q : SeqState) : q.dischargesHeld =
    q.running.toList.countP Op.discharges + q.stack.countP Op.discharges + q.deferred.toList.countP Op.discharges := by
  rw [← List.countP_append, ← List.countP_append, List.countP_eq_length_filter]
  rfl

theorem holdsOp_discharge (q : SeqState) : q.holdsOp .discharge = true ↔ 0 < q.dischargesHeld := by
  have running : q.runs .discharge = q.running.toList.any Op.discharges := by
    unfold SeqState.runs
    split <;> rename_i o <;> simp [o, Op.discharges]
  have deferred : q.deferred.any (fun o => o.kind == .discharge) = q.deferred.toList.any Op.discharges := by
    cases q.deferred <;> simp [Op.discharges]
  have stack : q.stack.any (fun o => o.kind == .discharge) = q.stack.any Op.discharges := rfl
  rw [SeqState.holdsOp, running, deferred, stack, dischargesHeld_eq, Nat.add_pos_iff_pos_or_pos,
    Nat.add_pos_iff_pos_or_pos]
  simp only [List.countP_pos_iff, Bool.or_eq_true, List.any_eq_true]

/-- Operations of the same kinds in the same places. -/
theorem dischargesHeld_congr {p q : SeqState} (running : p.running.map Op.discharges = q.running.map Op.discharges)
    (stack : p.stack.map Op.discharges = q.stack.map Op.discharges)
    (deferred : p.deferred.map Op.discharges = q.deferred.map Op.discharges) : p.dischargesHeld = q.dischargesHeld := by
  have counted : ∀ l : List Op, l.countP Op.discharges = (l.map Op.discharges).countP id := fun l => by
    rw [List.countP_map]; rfl
  have listed : ∀ o : Option Op, o.toList.map Op.discharges = (o.map Op.discharges).toList := fun o => by cases o <;> rfl
  rw [dischargesHeld_eq, dischargesHeld_eq, counted, counted p.stack, counted p.deferred.toList, counted q.running.toList,
    counted q.stack, counted q.deferred.toList, listed, listed, listed, listed, running, stack, deferred]

@[simp] theorem dischargesHeld_write (q : SeqState) : q.write.dischargesHeld = q.dischargesHeld := by
  unfold SeqState.write
  split <;> rfl

theorem countP_pushOp (l : List Op) (o : Op) :
    (pushOp l o).1.countP Op.discharges ≤ [o].countP Op.discharges + l.countP Op.discharges := by
  have fewer := l.dropLast_sublist.countP_le (p := Op.discharges)
  unfold pushOp
  split <;> simp only [List.countP_cons, List.countP_nil] <;> omega

/-- A request adds no DISCHARGE but the one requested. -/
theorem dischargesHeld_request (q : SeqState) (o : Op) :
    (q.request o).seq.dischargesHeld ≤ q.dischargesHeld + [o].countP Op.discharges := by
  unfold SeqState.request
  split
  · rename_i idle
    rw [dischargesHeld_write]
    simp only [dischargesHeld_eq, idle, Option.toList_some, Option.toList_none]
    omega
  · rename_i r running
    split
    · have pushed := countP_pushOp q.stack r
      rw [dischargesHeld_write]
      simp only [dischargesHeld_eq, running, Option.toList_some]
      omega
    · split
      · rename_i free
        simp only [dischargesHeld_eq, free, Option.toList_some, Option.toList_none, List.countP_nil]
        omega
      · split
        · simp only [dischargesHeld_eq, Option.toList_some]
          omega
        · exact Nat.le_add_right _ _

theorem dischargesHeld_chooseNext {q : SeqState} (idle : q.running = none) :
    q.chooseNext.seq.dischargesHeld = q.dischargesHeld := by
  have again : ∀ d : Op, [{ d with elapsed := 0 }].countP Op.discharges = [d].countP Op.discharges := fun _ => rfl
  unfold SeqState.chooseNext
  split
  · rw [dischargesHeld_write, dischargesHeld_eq, dischargesHeld_eq, idle]
  · rename_i t r stack _
    rw [dischargesHeld_write]
    simp only [dischargesHeld_eq, idle, stack, Option.toList_some, Option.toList_none, List.countP_cons, List.countP_nil]
    omega
  · rename_i d stack deferred
    rw [dischargesHeld_write]
    simp only [dischargesHeld_eq, idle, stack, deferred, Option.toList_some, Option.toList_none, again, List.countP_nil]
    omega
  · rename_i t r d stack deferred
    dsimp only
    split
    · rw [dischargesHeld_write]
      simp only [dischargesHeld_eq, idle, deferred, Option.toList_some, Option.toList_none, again, List.countP_nil]
      omega
    · rw [dischargesHeld_write]
      simp only [dischargesHeld_eq, idle, stack, Option.toList_some, Option.toList_none, List.countP_cons, List.countP_nil]
      omega

/-- The operation that ends is no longer held, and what runs next was held already. -/
theorem dischargesHeld_endRunning (q : SeqState) (w : OpReport) :
    (q.endRunning w).seq.dischargesHeld + q.running.toList.countP Op.discharges = q.dischargesHeld := by
  unfold SeqState.endRunning
  split
  · rename_i idle
    simp [idle]
  · rename_i o running
    rw [dischargesHeld_chooseNext rfl, dischargesHeld_eq, dischargesHeld_eq, running]
    simp only [Option.toList_some, Option.toList_none, List.countP_nil]
    omega

theorem countP_running_of_runs {q : SeqState} (runs : q.runs .discharge = true) :
    q.running.toList.countP Op.discharges = 1 := by
  unfold SeqState.runs at runs
  split at runs
  · rename_i o running
    simp [running, Op.discharges, runs]
  · cases runs

theorem dischargesHeld_cancel_le (q : SeqState) (k : OpKind) :
    (q.cancel k).seq.dischargesHeld ≤ q.dischargesHeld := by
  have ended := dischargesHeld_endRunning q .cancelled
  unfold SeqState.cancel
  split
  · omega
  · split
    · have fewer := (List.filter_sublist (l := q.stack) (p := fun o => o.kind != k)).countP_le (p := Op.discharges)
      simp only [dischargesHeld_eq]
      omega
    · split
      · rename_i d deferred
        split
        · simp only [dischargesHeld_eq, Option.toList_none, List.countP_nil]
          omega
        · exact le_rfl
      · exact le_rfl

/-- The one DISCHARGE held is found wherever it stands (R173). -/
theorem dischargesHeld_cancel {q : SeqState} (one : q.dischargesHeld ≤ 1) :
    (q.cancel .discharge).seq.dischargesHeld = 0 := by
  have ended := dischargesHeld_endRunning q .cancelled
  unfold SeqState.cancel
  split
  · rename_i runs
    have := countP_running_of_runs runs
    omega
  · rename_i other
    have running : q.running.toList.countP Op.discharges = 0 := by
      unfold SeqState.runs at other
      split at other
      · rename_i o running
        simpa [running, Op.discharges] using other
      · rename_i idle
        simp [idle]
    rw [dischargesHeld_eq] at one
    split
    · rename_i o found
      have suspended : 0 < q.stack.countP Op.discharges :=
        List.countP_pos_iff.2 ⟨o, List.mem_of_find?_eq_some found, by simpa [Op.discharges] using List.find?_some found⟩
      have gone : (q.stack.filter (fun o => o.kind != .discharge)).countP Op.discharges = 0 :=
        List.countP_eq_zero.2 fun x hx => by simpa [Op.discharges] using (List.mem_filter.1 hx).2
      simp only [dischargesHeld_eq, gone]
      omega
    · rename_i none
      have stack : q.stack.countP Op.discharges = 0 :=
        List.countP_eq_zero.2 fun x hx => by simpa [Op.discharges] using List.find?_eq_none.1 none x hx
      split
      · rename_i d deferred
        split
        · simp only [dischargesHeld_eq, running, stack, Option.toList_none, List.countP_nil]
        · rename_i kind
          simp [dischargesHeld_eq, running, stack, deferred, Op.discharges, kind]
      · rename_i deferred
        simp only [dischargesHeld_eq, running, stack, deferred, Option.toList_none, List.countP_nil]

end Sys2Proof.Machine
end


section
/-! SUPPORT. What the role units' operations leave of the discharge in progress (R120 to R125). -/

namespace Sys2Proof.Machine

/-! ## The discharge in progress -/

/-- The discharge in progress is of the head lot at a discharge station, and the sequencer holds no DISCHARGE but one for
it (R120, R125). -/
structure State.FlumeOrderly (s : State) : Prop where
  head : ∀ p, s.discharge.progress = some p →
    s.cfg.role = .discharge ∧ ∃ l r, s.discharge.lots = l :: r ∧ l.status = .discharging
  one : s.seq.dischargesHeld ≤ 1
  idle : s.discharge.progress = none → s.seq.dischargesHeld = 0

/-- The discharge in progress runs in its window, and the station may discharge (R120). -/
def State.flumeTimely (s : State) : Prop :=
  ∀ p, s.discharge.progress = some p → s.flumeClear = true ∧ minus p.arrival s.cfg.transit = s.window.number

/-- The two halves of the flap's safety: one that every operation keeps, one that the window and the conditions bear on. -/
theorem flapSafe_iff {s : State} : s.flapSafe ↔ s.FlumeOrderly ∧ s.flumeTimely := by
  constructor
  · rintro ⟨sound, one, held⟩
    refine ⟨⟨fun p hp => ?_, one, fun idle => ?_⟩, fun p hp => ?_⟩
    · obtain ⟨role, _, _, head⟩ := sound p hp
      exact ⟨role, head⟩
    · refine Nat.eq_zero_of_not_pos fun some => ?_
      have holds := held ((holdsOp_discharge s.seq).2 some)
      rw [idle] at holds
      cases holds
    · obtain ⟨_, clear, window, _⟩ := sound p hp
      exact ⟨clear, window⟩
  · rintro ⟨orderly, timely⟩
    refine ⟨fun p hp => ?_, orderly.one, fun holds => ?_⟩
    · obtain ⟨role, head⟩ := orderly.head p hp
      obtain ⟨clear, window⟩ := timely p hp
      exact ⟨role, clear, window, head⟩
    · have some := (holdsOp_discharge s.seq).1 holds
      cases idle : s.discharge.progress with
      | none =>
        have := orderly.idle idle
        omega
      | some p => rfl

/-- The station is in order and no discharge is in progress. -/
def State.flumeIdle (s : State) : Prop := s.FlumeOrderly ∧ s.discharge.progress = none

theorem flumeIdle_of_held {s : State} (idle : s.discharge.progress = none) (held : s.seq.dischargesHeld = 0) :
    s.flumeIdle :=
  ⟨⟨fun p hp => (by rw [idle] at hp; cases hp), by omega, fun _ => held⟩, idle⟩

theorem flumeIdle_of_role {s : State} (h : s.FlumeOrderly) (role : s.cfg.role ≠ .discharge) : s.flumeIdle := by
  refine ⟨h, ?_⟩
  cases hp : s.discharge.progress with
  | none => rfl
  | some p => exact absurd (h.head p hp).1 role

theorem flapSafe_of_idle {s : State} (h : s.flumeIdle) : s.flapSafe :=
  flapSafe_iff.2 ⟨h.1, fun p hp => by rw [h.2] at hp; cases hp⟩

/-- Order is a matter of the role, the discharge, the lots and the sequencer alone. -/
theorem State.FlumeOrderly.of_eq {s t : State} (h : s.FlumeOrderly) (cfg : t.cfg = s.cfg) (discharge : t.discharge = s.discharge)
    (seq : t.seq = s.seq) : t.FlumeOrderly :=
  ⟨cfg ▸ discharge ▸ h.head, seq ▸ h.one, discharge ▸ seq ▸ h.idle⟩

/-! ## What keeps it -/

/-- The discharge in progress in `t` is the one in progress in `s`, in the same window and with its conditions kept. -/
def SameDischarge (s t : State) (p : Discharging) : Prop :=
  ∃ q, s.discharge.progress = some q ∧ q.arrival = p.arrival ∧ (s.flumeClear = true → t.flumeClear = true) ∧
    t.cfg = s.cfg ∧ t.window.number = s.window.number

/-- From a station in order `t` is in order too, and the discharge in progress, where it does not end, goes on. -/
def KeepsFlap (s t : State) : Prop :=
  s.FlumeOrderly → t.FlumeOrderly ∧ ∀ p, t.discharge.progress = some p → SameDischarge s t p

theorem KeepsFlap.refl (s : State) : KeepsFlap s s := fun h => ⟨h, fun p hp => ⟨p, hp, rfl, id, rfl, rfl⟩⟩

theorem KeepsFlap.trans {a b c : State} (h : KeepsFlap a b) (k : KeepsFlap b c) : KeepsFlap a c := by
  intro ha
  obtain ⟨hb, fromA⟩ := h ha
  obtain ⟨hc, fromB⟩ := k hb
  refine ⟨hc, fun p hp => ?_⟩
  obtain ⟨q, hq, arrival, clear, cfg, window⟩ := fromB p hp
  obtain ⟨x, hx, arrival', clear', cfg', window'⟩ := fromA q hq
  exact ⟨x, hx, arrival'.trans arrival, clear ∘ clear', cfg.trans cfg', window.trans window'⟩

theorem KeepsFlap.after {a b c : State} (k : KeepsFlap b c) (h : KeepsFlap a b) : KeepsFlap a c := h.trans k

theorem KeepsFlap.safe {s t : State} (h : KeepsFlap s t) (safe : s.flapSafe) : t.flapSafe := by
  obtain ⟨orderly, timely⟩ := flapSafe_iff.1 safe
  obtain ⟨orderly', same⟩ := h orderly
  refine flapSafe_iff.2 ⟨orderly', fun p hp => ?_⟩
  obtain ⟨q, hq, arrival, clear, cfg, window⟩ := same p hp
  obtain ⟨clear', window'⟩ := timely q hq
  exact ⟨clear clear', by rw [cfg, window, ← arrival, window']⟩

/-- What ends in order with no discharge in progress. -/
theorem keepsFlap_of_idle {s t : State} (h : s.FlumeOrderly → t.flumeIdle) : KeepsFlap s t := by
  intro hs
  obtain ⟨orderly, idle⟩ := h hs
  exact ⟨orderly, fun p hp => by rw [idle] at hp; cases hp⟩

/-- Where no discharge is in progress none begins. -/
theorem KeepsFlap.idle {s t : State} (h : KeepsFlap s t) (hs : s.flumeIdle) : t.flumeIdle := by
  obtain ⟨orderly, same⟩ := h hs.1
  refine ⟨orderly, ?_⟩
  cases hp : t.discharge.progress with
  | none => rfl
  | some p =>
    obtain ⟨q, hq, _⟩ := same p hp
    rw [hs.2] at hq
    cases hq

/-- What moves the conditions alone, and none of them against a discharge. -/
theorem keepsFlap_of_clear {s t : State} (clear : s.flumeClear = true → t.flumeClear = true) (cfg : t.cfg = s.cfg)
    (window : t.window.number = s.window.number) (discharge : t.discharge = s.discharge)
    (held : t.seq.dischargesHeld ≤ s.seq.dischargesHeld) : KeepsFlap s t := by
  intro h
  refine ⟨⟨?_, held.trans h.one, fun idle => ?_⟩, fun p hp => ?_⟩
  · rw [cfg, discharge]
    exact h.head
  · have := h.idle (discharge ▸ idle)
    omega
  · exact ⟨p, discharge ▸ hp, rfl, clear, cfg, window⟩

/-- What the flap's conditions read of a state besides the discharge unit and the sequencer. -/
def State.flumeView (s : State) : Config × Window × SyncStatus × StationMode × Supply × Bool :=
  (s.cfg, s.window.number, s.sync.status, s.mode.mode, s.mode.supply, s.hall.stops.isEmpty)

theorem flumeClear_of_view {s t : State} (view : t.flumeView = s.flumeView) : t.flumeClear = s.flumeClear := by
  obtain ⟨_, _, status, mode, supply, stops⟩ : t.cfg = s.cfg ∧ t.window.number = s.window.number ∧
      t.sync.status = s.sync.status ∧ t.mode.mode = s.mode.mode ∧ t.mode.supply = s.mode.supply ∧
      t.hall.stops.isEmpty = s.hall.stops.isEmpty := by simpa [State.flumeView] using view
  simp only [State.flumeClear, State.working, status, mode, supply, stops]

/-- What leaves the conditions, the discharge in progress and a DISCHARGING head, and adds no DISCHARGE. -/
theorem keepsFlap_of_view {s t : State} (view : t.flumeView = s.flumeView)
    (progress : t.discharge.progress.map (fun p => p.arrival) = s.discharge.progress.map (fun p => p.arrival))
    (head : ∀ l r, s.discharge.lots = l :: r → l.status = .discharging →
      ∃ k j, t.discharge.lots = k :: j ∧ k.status = .discharging)
    (held : t.seq.dischargesHeld ≤ s.seq.dischargesHeld) : KeepsFlap s t := by
  have cfg : t.cfg = s.cfg := congrArg (fun v => v.1) view
  have window : t.window.number = s.window.number := congrArg (fun v => v.2.1) view
  have found : ∀ p, t.discharge.progress = some p → ∃ q, s.discharge.progress = some q ∧ q.arrival = p.arrival := by
    intro p hp
    rw [hp] at progress
    simpa using progress.symm
  intro h
  refine ⟨⟨fun p hp => ?_, held.trans h.one, fun idle => ?_⟩, fun p hp => ?_⟩
  · obtain ⟨q, hq, _⟩ := found p hp
    obtain ⟨role, l, r, lots, status⟩ := h.head q hq
    exact ⟨cfg ▸ role, head l r lots status⟩
  · have idle' : s.discharge.progress = none := by
      rw [idle] at progress
      simpa using progress.symm
    have := h.idle idle'
    omega
  · obtain ⟨q, hq, arrival⟩ := found p hp
    exact ⟨q, hq, arrival, fun clear => (flumeClear_of_view view).trans clear, cfg, window⟩

/-- What leaves the conditions, the discharge unit's lots and discharge, and the sequencer. -/
theorem keepsFlap_of_eq {s t : State} (view : t.flumeView = s.flumeView)
    (progress : t.discharge.progress = s.discharge.progress) (lots : t.discharge.lots = s.discharge.lots)
    (seq : t.seq = s.seq) : KeepsFlap s t :=
  keepsFlap_of_view view (by rw [progress]) (fun l r hl hs => ⟨l, r, lots.trans hl, hs⟩) (by rw [seq])

theorem keepsFlap_foldl {α : Type} {f : State → α → State} (hf : ∀ s x, KeepsFlap s (f s x)) (l : List α) (s : State) :
    KeepsFlap s (l.foldl f s) := by
  induction l generalizing s with
  | nil => exact .refl s
  | cons x l ih => exact (hf s x).trans (ih _)

theorem keepsFlap_ite {s t u : State} {c : Prop} [Decidable c] (ht : c → KeepsFlap s t) (hu : ¬c → KeepsFlap s u) :
    KeepsFlap s (if c then t else u) := by
  split
  · exact ht ‹_›
  · exact hu ‹_›

/-! ## Primitive changes -/

section
variable (s : State)

theorem keepsFlap_report (r : Report) : KeepsFlap s (s.report r) := keepsFlap_of_eq rfl rfl rfl rfl

theorem keepsFlap_raise (f : Attn) : KeepsFlap s (s.raise f) := keepsFlap_of_eq rfl rfl rfl rfl

theorem keepsFlap_mapFilter (f : FilterState → FilterState) : KeepsFlap s (s.mapFilter f) :=
  keepsFlap_of_eq rfl rfl rfl rfl

theorem keepsFlap_mapCrusher (f : CrusherState → CrusherState) : KeepsFlap s (s.mapCrusher f) :=
  keepsFlap_of_eq rfl rfl rfl rfl

theorem keepsFlap_setLots {l : List Lot} (head : ∀ x r, s.discharge.lots = x :: r → x.status = .discharging →
    ∃ k j, l = k :: j ∧ k.status = .discharging) : KeepsFlap s (s.setLots l) :=
  keepsFlap_of_view rfl rfl head le_rfl

/-- A change of the lots that leaves a DISCHARGING one DISCHARGING. -/
theorem keepsFlap_mapLots {f : Lot → Lot} (hf : ∀ l, l.status = .discharging → (f l).status = .discharging) :
    KeepsFlap s (s.mapLots f) :=
  keepsFlap_setLots s fun x r lots status => ⟨f x, r.map f, by rw [lots, List.map_cons], hf x status⟩

theorem keepsFlap_takeSeq {r : SeqResult} (held : r.seq.dischargesHeld ≤ s.seq.dischargesHeld) :
    KeepsFlap s (s.takeSeq r) := keepsFlap_of_view rfl rfl (fun l r hl hs => ⟨l, r, hl, hs⟩) held

theorem keepsFlap_cancelOp (k : OpKind) : KeepsFlap s (s.cancelOp k) := keepsFlap_takeSeq s (dischargesHeld_cancel_le _ k)

theorem keepsFlap_completeOp (k : OpKind) : KeepsFlap s (s.completeOp k) :=
  keepsFlap_ite (fun _ => keepsFlap_takeSeq s (by have := dischargesHeld_endRunning s.seq .completed; omega))
    fun _ => .refl s

theorem keepsFlap_requestCapture (ch : Fin 4) : KeepsFlap s (s.requestCapture ch) := by
  unfold State.requestCapture
  split <;> exact keepsFlap_of_eq rfl rfl rfl rfl

/-! ## Fates and requests -/

theorem keepsFlap_deliver (who : Block) (b : QBody) (f : Fate) : KeepsFlap s (s.deliver who b f) := by
  have claim : ∀ (u : State) (id : Byte), KeepsFlap u (u.claimFate id f) := by
    intro u id
    unfold State.claimFate
    split
    · exact keepsFlap_mapLots u fun l hl => by simp [Lot.claimFate, hl]
    · exact keepsFlap_mapFilter u _
    · exact .refl u
  have done : ∀ (u : State) (d : DoneBody), KeepsFlap u (u.doneFate d f) := by
    intro u d
    unfold State.doneFate
    split
    · exact keepsFlap_of_eq rfl rfl rfl rfl
    · exact keepsFlap_mapFilter u _
    · exact .refl u
  unfold State.deliver
  refine (keepsFlap_report s (.fate who b f)).trans ?_
  dsimp only
  split
  · exact claim _ _
  · exact done _ _
  · exact keepsFlap_of_eq rfl rfl rfl rfl
  · exact .refl _

theorem keepsFlap_deliverAll (l : List (Block × QBody × Fate)) : KeepsFlap s (s.deliverAll l) :=
  keepsFlap_foldl (fun s _ => keepsFlap_deliver s _ _ _) l s

theorem keepsFlap_setQueue (q : List QFrame) : KeepsFlap s (s.setQueue q) := keepsFlap_of_eq rfl rfl rfl rfl

theorem keepsFlap_request (b : QBody) (who : Block) (u : Bool) : KeepsFlap s (s.request b who u) :=
  (keepsFlap_setQueue s _).trans ((keepsFlap_deliverAll _ _).trans (keepsFlap_deliver _ _ _ _))

theorem keepsFlap_pull (p : QFrame → Bool) : KeepsFlap s (s.pull p) :=
  (keepsFlap_setQueue s _).trans (keepsFlap_deliverAll _ _)

theorem keepsFlap_dropAll (why : DropReason) : KeepsFlap s (s.dropAll why) :=
  (keepsFlap_setQueue s _).trans (keepsFlap_deliverAll _ _)

/-! ## The end of a discharge -/

theorem keepsFlap_requestDone (b : DoneBody) : KeepsFlap s (s.requestDone b) :=
  (keepsFlap_of_eq (s := s)
    (t := { s with discharge := { s.discharge with pending := s.discharge.pending ++ [⟨b, false⟩] } })
    rfl rfl rfl rfl).trans (keepsFlap_request _ _ _ _)

/-- What a discharge that has ended short brings (R122, R124). -/
theorem keepsFlap_shortDone (b : DoneBody) : KeepsFlap s ((s.countShort.raise .lotShort).requestDone b) :=
  (keepsFlap_of_eq (s := s) (t := s.countShort) rfl rfl rfl rfl).trans
    ((keepsFlap_raise _ _).trans (keepsFlap_requestDone _ _))

/-- The discharge in progress ends with its DISCHARGE, wherever the sequencer holds it (R122, R125). -/
theorem idle_endDischarge {s : State} (h : s.FlumeOrderly) : s.endDischarge.flumeIdle := by
  cases hp : s.discharge.progress with
  | none =>
    have same : s.endDischarge = s := by simp [State.endDischarge, hp]
    rw [same]
    exact ⟨h, hp⟩
  | some p =>
    obtain ⟨_, l, r, lots, _⟩ := h.head p hp
    simp only [State.endDischarge, hp, lots]
    exact (keepsFlap_shortDone _ _).idle (flumeIdle_of_held rfl (dischargesHeld_cancel h.one))

theorem keepsFlap_endDischarge : KeepsFlap s s.endDischarge := keepsFlap_of_idle idle_endDischarge


theorem keepsFlap_withdrawLot (id : Byte) : KeepsFlap s (s.withdrawLot id) := by
  refine (keepsFlap_mapLots s fun l hl => ?_).trans (keepsFlap_request _ _ _ _)
  rw [if_neg (fun c => c.2 hl), hl]

theorem keepsFlap_withdrawLots (l : List Byte) : KeepsFlap s (s.withdrawLots l) :=
  keepsFlap_foldl keepsFlap_withdrawLot l s

theorem keepsFlap_lotRemoved (id : Byte) (why : RemovalReason) : KeepsFlap s (s.lotRemoved id why) := by
  refine keepsFlap_ite (fun _ => ?_) fun _ => ?_
  · exact keepsFlap_ite (fun _ => .refl s) fun _ => keepsFlap_endDischarge s
  · refine keepsFlap_ite (fun _ => .refl s) fun _ => keepsFlap_mapLots s fun l hl => ?_
    rw [if_neg (by simp [hl]), hl]

/-- The discharge in progress completes with its DISCHARGE, which runs (R121). -/
theorem keepsFlap_completeDischarge (runs : s.seq.runs .discharge = true) : KeepsFlap s s.completeDischarge := by
  refine keepsFlap_of_idle fun h => ?_
  cases hp : s.discharge.progress with
  | none =>
    have same : s.completeDischarge = s := by simp [State.completeDischarge, hp]
    rw [same]
    exact ⟨h, hp⟩
  | some p =>
    obtain ⟨_, l, r, lots, _⟩ := h.head p hp
    have gone : (s.completeOp .discharge).seq.dischargesHeld = 0 := by
      have ended := dischargesHeld_endRunning s.seq .completed
      have one := h.one
      rw [countP_running_of_runs runs] at ended
      rw [State.completeOp, if_pos runs, takeSeq_seq]
      omega
    simp only [State.completeDischarge, hp, lots]
    exact (keepsFlap_requestDone _ _).idle (flumeIdle_of_held rfl gone)

theorem keepsFlap_countTravel : KeepsFlap s s.countTravel := by
  unfold State.countTravel
  refine keepsFlap_ite (fun _ => ?_) fun _ => keepsFlap_ite (fun runs => ?_) fun _ => .refl s
  · refine keepsFlap_mapLots s fun l hl => ?_
    split <;> exact hl
  · split
    · rename_i p l r progress lots
      have counted : KeepsFlap s { s with discharge := { s.discharge with
          progress := some { p with travel := p.travel + 1 } } } :=
        keepsFlap_of_view rfl (by rw [progress]; rfl) (fun l r hl hs => ⟨l, r, hl, hs⟩) le_rfl
      exact counted.trans (keepsFlap_ite (fun _ => keepsFlap_completeDischarge _ runs) fun _ => .refl _)
    · exact .refl s

theorem keepsFlap_finishIndex : KeepsFlap s s.finishIndex := by
  refine keepsFlap_ite (fun _ => ?_) fun _ => .refl s
  refine (keepsFlap_completeOp s _).trans (keepsFlap_mapLots _ fun l hl => ?_)
  rw [if_neg (by simp [hl]), Lot.indexed]
  split <;> exact hl

/-! ## The filter and the crusher -/

theorem keepsFlap_withdrawFlush : KeepsFlap s s.withdrawFlush := by
  unfold State.withdrawFlush
  split
  · exact keepsFlap_ite (fun _ => .refl s) fun _ => (keepsFlap_mapFilter s _).trans (keepsFlap_request _ _ _ _)
  · exact .refl s

theorem keepsFlap_requestFlushDone (b : DoneBody) : KeepsFlap s (s.requestFlushDone b) :=
  (keepsFlap_mapFilter s _).trans (keepsFlap_request _ _ _ _)

theorem keepsFlap_endFlush (next : FilterMode) (n : Nat) : KeepsFlap s (s.endFlush next n) := by
  have counted : ∀ u : State, KeepsFlap u u.countShort := fun _ => keepsFlap_of_eq rfl rfl rfl rfl
  unfold State.endFlush
  split
  · exact (keepsFlap_cancelOp s _).trans ((keepsFlap_mapFilter _ _).trans
      ((counted _).trans (keepsFlap_requestFlushDone _ _)))
  · exact .refl s

theorem keepsFlap_withdrawOrphanFlushes : KeepsFlap s s.withdrawOrphanFlushes :=
  keepsFlap_foldl (fun s _ => keepsFlap_request s _ _ _) _ s

theorem keepsFlap_flushRemoved (id : Byte) (why : RemovalReason) : KeepsFlap s (s.flushRemoved id why) :=
  keepsFlap_ite (fun _ => keepsFlap_ite (fun _ => keepsFlap_endFlush s _ _) fun _ => keepsFlap_mapFilter s _)
    fun _ => .refl s

theorem keepsFlap_rerank (n : Nat) : KeepsFlap s (s.rerank n) := by
  unfold State.rerank
  split
  · exact keepsFlap_ite (fun _ => (keepsFlap_mapFilter s _).trans (keepsFlap_request _ _ _ _)) fun _ => .refl s
  · exact .refl s

theorem keepsFlap_pumpFault : KeepsFlap s s.pumpFault := by
  have withdrawn : ∀ (u : State) (l : List Byte), KeepsFlap u (l.foldl (fun s id => s.request (.withdraw ⟨id⟩) .role) u) :=
    fun u l => keepsFlap_foldl (fun s _ => keepsFlap_request s _ _ _) l u
  exact (keepsFlap_endFlush s _ _).trans ((keepsFlap_mapFilter _ _).trans
    ((keepsFlap_withdrawOrphanFlushes _).trans ((withdrawn _ _).trans (keepsFlap_raise _ _))))

theorem keepsFlap_finishFlush : KeepsFlap s s.finishFlush := by
  unfold State.finishFlush
  split
  · exact keepsFlap_ite (fun _ => (keepsFlap_completeOp s _).trans ((keepsFlap_mapFilter _ _).trans
      (keepsFlap_requestFlushDone _ _))) fun _ => .refl s
  · exact .refl s

theorem keepsFlap_requestGate : KeepsFlap s s.requestGate :=
  keepsFlap_ite (fun _ => keepsFlap_request s _ _ _) fun _ => .refl s

theorem keepsFlap_compareStop : KeepsFlap s s.compareStop := by
  unfold State.compareStop
  refine keepsFlap_ite (fun _ => ?_) fun _ => .refl s
  split
  · exact (keepsFlap_pull s _).trans (keepsFlap_ite (fun _ => .refl _) fun _ => keepsFlap_request _ _ _ _)
  · exact .refl s

theorem keepsFlap_tellHall : KeepsFlap s s.tellHall := (keepsFlap_requestGate s).trans (keepsFlap_compareStop _)

theorem keepsFlap_reverseEnded : KeepsFlap s s.reverseEnded := (keepsFlap_mapCrusher s _).trans (keepsFlap_tellHall _)

theorem keepsFlap_finishReverse : KeepsFlap s s.finishReverse :=
  keepsFlap_ite (fun _ => (keepsFlap_completeOp s _).trans (keepsFlap_reverseEnded _)) fun _ => .refl s

theorem keepsFlap_clearJam : KeepsFlap s s.clearJam := by
  unfold State.clearJam
  dsimp only
  split
  · exact (keepsFlap_mapCrusher s _).trans (keepsFlap_tellHall _)
  · exact (keepsFlap_cancelOp s _).trans ((keepsFlap_mapCrusher _ _).trans (keepsFlap_tellHall _))
  · exact keepsFlap_mapCrusher s _

/-! ## Operations requested -/

/-- An operation requested other than a DISCHARGE; a DISCHARGE abandoned for it ends its discharge (R125, R171). -/
theorem keepsFlap_requestOp {o : Op} (other : o.kind ≠ .discharge) : KeepsFlap s (s.requestOp o) := by
  have taken : KeepsFlap s (s.takeSeq (s.seq.request o)) := by
    refine keepsFlap_takeSeq s ((dischargesHeld_request _ o).trans ?_)
    simp [Op.discharges, other]
  unfold State.requestOp
  refine taken.trans ?_
  dsimp only
  split
  · exact keepsFlap_endDischarge _
  · exact keepsFlap_reverseEnded _
  · exact keepsFlap_endFlush _ _ _
  · exact .refl _

theorem keepsFlap_jam : KeepsFlap s s.jam := by
  refine keepsFlap_ite (fun _ => ?_) fun _ => .refl s
  dsimp only
  refine keepsFlap_ite (fun _ => ?_) fun _ => ?_
  · exact (keepsFlap_mapCrusher s _).trans ((keepsFlap_mapCrusher _ _).trans
      ((keepsFlap_requestOp _ (o := State.reverseOp _) nofun).trans (keepsFlap_tellHall _)))
  · exact (keepsFlap_mapCrusher s _).trans ((keepsFlap_cancelOp _ _).trans ((keepsFlap_mapCrusher _ _).trans
      ((keepsFlap_raise _ _).trans (keepsFlap_tellHall _))))

theorem keepsFlap_finishOp (k : OpKind) : KeepsFlap s (s.finishOp k) := by
  unfold State.finishOp
  split
  · exact keepsFlap_finishIndex s
  · exact keepsFlap_finishFlush s
  · exact keepsFlap_finishReverse s
  · exact .refl s

theorem keepsFlap_completeSpent (n : Nat) (k : Option OpKind) : KeepsFlap s (s.completeSpent n k) := by
  induction n generalizing s k with
  | zero => exact .refl s
  | succ n ih =>
    unfold State.completeSpent
    split
    · exact keepsFlap_ite (fun _ => (keepsFlap_finishOp s _).trans (ih _ _)) fun _ => .refl s
    · exact .refl s

/-! ## Seals and faults -/

theorem keepsFlap_sealOpen (why : SealReason) : KeepsFlap s (s.sealOpen why) := by
  refine keepsFlap_ite (fun _ => ?_) fun _ => .refl s
  refine (keepsFlap_mapLots s fun l hl => ?_).trans (keepsFlap_requestCapture _ _)
  rw [Lot.sealedBy, if_neg (by simp [hl]), hl]

theorem keepsFlap_sealAged : KeepsFlap s s.sealAged :=
  keepsFlap_ite (fun _ => keepsFlap_sealOpen s _) fun _ => .refl s

theorem keepsFlap_enterBeltFault : KeepsFlap s s.enterBeltFault := by
  have faulted : KeepsFlap s { s with discharge := { s.discharge with beltFault := true } } :=
    keepsFlap_of_eq rfl rfl rfl rfl
  refine keepsFlap_ite (fun _ => .refl s) fun _ => faulted.trans ?_
  exact (keepsFlap_endDischarge _).trans ((keepsFlap_cancelOp _ _).trans
    ((keepsFlap_withdrawLots _ _).trans (keepsFlap_raise _ _)))

/-! ## Posts and standing conditions -/

theorem keepsFlap_issued (id : Byte) : KeepsFlap s (s.issued id) := keepsFlap_of_eq rfl rfl rfl rfl

theorem keepsFlap_postLot : KeepsFlap s s.postLot := by
  have marked : ∀ (u : State) (id : Byte), KeepsFlap u (u.setLots (markPosted id u.discharge.lots)) := by
    refine fun u id => keepsFlap_setLots u fun l r lots status => ⟨l, markPosted id r, ?_, status⟩
    rw [lots, markPosted, if_pos (.inr (.inr status))]
  unfold State.postLot
  split
  · exact keepsFlap_ite (fun _ => (keepsFlap_issued s _).trans ((marked _ _).trans (keepsFlap_request _ _ _ _)))
      fun _ => .refl s
  · exact .refl s

theorem keepsFlap_postFlush : KeepsFlap s s.postFlush :=
  keepsFlap_ite (fun _ => (keepsFlap_issued s _).trans ((keepsFlap_mapFilter _ _).trans (keepsFlap_request _ _ _ _)))
    fun _ => .refl s

theorem keepsFlap_keepSealOrder (n : Nat) : KeepsFlap s (s.keepSealOrder n) := by
  induction n generalizing s with
  | zero => exact .refl s
  | succ n ih =>
    unfold State.keepSealOrder
    split
    · exact (keepsFlap_withdrawLot s _).trans (ih _)
    · exact .refl s

theorem keepsFlap_openLot : KeepsFlap s s.openLot := by
  have opened : ∀ (n : BitVec 16) (x : Lot), KeepsFlap s { s with discharge := { s.discharge with
      lotCounter := n, lots := s.discharge.lots ++ [x] } } := fun n x =>
    keepsFlap_of_view rfl rfl (fun l r lots status => ⟨l, r ++ [x], by rw [lots, List.cons_append], status⟩) le_rfl
  exact keepsFlap_ite (fun _ => (opened _ _).trans (keepsFlap_requestCapture _ _)) fun _ => .refl s

theorem keepsFlap_settleRole (ran : Bool) : KeepsFlap s (s.settleRole ran) := by
  have indexed : ∀ u : State, KeepsFlap u u.requestIndex := fun u =>
    keepsFlap_ite (fun _ => keepsFlap_requestOp u nofun) fun _ => .refl u
  unfold State.settleRole
  split
  · exact (keepsFlap_keepSealOrder s 6).trans ((keepsFlap_openLot _).trans
      ((indexed _).trans (keepsFlap_postLot _)))
  · exact (keepsFlap_mapFilter s _).trans (keepsFlap_postFlush _)
  · exact (keepsFlap_ite (fun _ => keepsFlap_requestOp s (o := feedOp _) nofun) fun _ => .refl s).trans
      (keepsFlap_ite (fun _ => keepsFlap_jam _) fun _ => .refl _)

/-! ## Reports to the role unit -/

theorem keepsFlap_roleRemoved (id : Byte) (why : RemovalReason) : KeepsFlap s (s.roleRemoved id why) := by
  unfold State.roleRemoved
  refine (keepsFlap_report s (.removed id why)).trans ?_
  dsimp only
  split
  · exact keepsFlap_lotRemoved _ _ _
  · exact keepsFlap_flushRemoved _ _ _
  · exact .refl _

theorem keepsFlap_roleAdmitted (id : Byte) : KeepsFlap s (s.roleAdmitted id) := by
  unfold State.roleAdmitted
  refine (keepsFlap_report s (.admitted id)).trans ?_
  dsimp only
  split
  · exact keepsFlap_mapLots _ fun l hl => by rw [if_neg (by simp [hl]), hl]
  · exact keepsFlap_mapFilter _ _
  · exact .refl _

theorem keepsFlap_roleRefused (id : Byte) (c : RefusalCause) : KeepsFlap s (s.roleRefused id c) := by
  unfold State.roleRefused
  refine (keepsFlap_report s (.refused id c)).trans ?_
  dsimp only
  split
  · exact keepsFlap_mapLots _ fun l hl => by rw [if_neg (by simp [hl]), hl]
  · exact keepsFlap_mapFilter _ _
  · exact .refl _

theorem keepsFlap_roleCommitted (id : Byte) (w : Window) : KeepsFlap s (s.roleCommitted id w) := by
  unfold State.roleCommitted
  refine (keepsFlap_report s (.committed id w)).trans ?_
  dsimp only
  split
  · exact keepsFlap_mapLots _ fun l hl => by rw [if_neg (by simp [hl]), hl]
  · exact keepsFlap_mapFilter _ _
  · exact .refl _

theorem keepsFlap_roleExcluded : KeepsFlap s s.roleExcluded := by
  unfold State.roleExcluded
  refine (keepsFlap_report s .excluded).trans ?_
  dsimp only
  split
  · exact keepsFlap_mapLots _ fun l hl => by rw [if_pos (.inl hl), hl]
  · exact keepsFlap_mapFilter _ _
  · exact .refl _

theorem keepsFlap_withdrawCommitted : KeepsFlap s s.withdrawCommitted := by
  unfold State.withdrawCommitted
  split
  · exact keepsFlap_withdrawLots s _
  · exact (keepsFlap_ite (fun _ => keepsFlap_withdrawFlush s) fun _ => .refl s).trans
      (keepsFlap_foldl (fun u _ => keepsFlap_ite (fun _ => .refl u) fun _ => keepsFlap_request u _ _ _) _ _)
  · exact .refl s

theorem keepsFlap_roleSyncGained : KeepsFlap s s.roleSyncGained := by
  unfold State.roleSyncGained
  refine (keepsFlap_report s .syncGained).trans ?_
  dsimp only
  split
  · exact keepsFlap_tellHall _
  · exact .refl _

theorem keepsFlap_roleLineActive : KeepsFlap s s.roleLineActive := by
  unfold State.roleLineActive
  refine (keepsFlap_report s .lineActive).trans ?_
  dsimp only
  split
  · exact keepsFlap_tellHall _
  · exact .refl _

end

/-! ## Reports that end the discharge in progress (R125 to R127) -/

theorem idle_roleSyncLost {s : State} (h : s.FlumeOrderly) : s.roleSyncLost.flumeIdle := by
  have told : (s.report .syncLost).FlumeOrderly := (keepsFlap_report s _ h).1
  unfold State.roleSyncLost
  dsimp only
  split
  · exact (keepsFlap_withdrawCommitted _).idle (idle_endDischarge told)
  · rename_i role
    exact (keepsFlap_withdrawCommitted _).idle (flumeIdle_of_role told (by rw [role]; nofun))
  · rename_i role
    exact flumeIdle_of_role told (by rw [role]; nofun)

theorem idle_roleStopTaken {s : State} (a : Addr) (c : StopCause) (h : s.FlumeOrderly) :
    (s.roleStopTaken a c).flumeIdle := by
  have told : (s.report (.stopTaken a c)).FlumeOrderly := (keepsFlap_report s _ h).1
  unfold State.roleStopTaken
  dsimp only
  split
  · exact (keepsFlap_withdrawCommitted _).idle (idle_endDischarge told)
  · rename_i role
    exact ((keepsFlap_endFlush _ _ _).trans (keepsFlap_withdrawCommitted _)).idle
      (flumeIdle_of_role told (by rw [role]; nofun))
  · rename_i role
    exact flumeIdle_of_role told (by rw [role]; nofun)

theorem idle_roleSupplyLow {s : State} (h : s.FlumeOrderly) : s.roleSupplyLow.flumeIdle := by
  have told : (s.report .supplyLow).FlumeOrderly := (keepsFlap_report s _ h).1
  unfold State.roleSupplyLow
  dsimp only
  split
  · exact (keepsFlap_withdrawLots _ _).idle (idle_endDischarge told)
  · rename_i role
    exact ((keepsFlap_endFlush _ _ _).trans (keepsFlap_withdrawFlush _)).idle
      (flumeIdle_of_role told (by rw [role]; nofun))
  · rename_i role
    exact flumeIdle_of_role told (by rw [role]; nofun)

end Sys2Proof.Machine
end


section
/-! SUPPORT. What each block leaves of the discharge in progress, whatever it takes: where the station may discharge no
more, the block ends it (R102, R104, R125 to R127). -/

namespace Sys2Proof.Machine

/-! ## The conditions of a discharge -/

theorem flumeClear_iff {s : State} : s.flumeClear = true ↔ s.sync.status = .synced ∧ s.working = true ∧
    s.mode.supply = .normal ∧ s.hall.stops = [] := by
  simp [State.flumeClear, and_assoc]

theorem not_clear_of_status {s : State} (h : s.sync.status ≠ .synced) : ¬s.flumeClear = true :=
  fun clear => h (flumeClear_iff.1 clear).1

theorem not_clear_of_mode {s : State} (h : s.working = false) : ¬s.flumeClear = true := fun clear => by
  obtain ⟨_, working, _⟩ := flumeClear_iff.1 clear
  rw [h] at working
  cases working

section
variable (s : State)

/-! ## The claim table (chapter 1) -/

theorem keepsFlap_setClaims (l : List Claim) : KeepsFlap s (s.setClaims l) := keepsFlap_of_eq rfl rfl rfl rfl

theorem keepsFlap_removeClaims (p : Claim → Bool) (why : RemovalReason) : KeepsFlap s (s.removeClaims p why) :=
  (keepsFlap_setClaims s _).trans (keepsFlap_foldl (fun s (c : Claim) => keepsFlap_roleRemoved s c.id why) _ _)

theorem keepsFlap_takeClaim (own : Bool) (a : Addr) (b : ClaimBody) : KeepsFlap s (s.takeClaim own a b) := by
  unfold State.takeClaim
  split
  · exact (keepsFlap_setClaims s _).trans (keepsFlap_ite (fun _ => keepsFlap_roleAdmitted _ _) fun _ => .refl _)
  · exact (keepsFlap_setClaims s _).trans (keepsFlap_ite (fun _ => keepsFlap_report _ _) fun _ => .refl _)
  · refine keepsFlap_ite (fun _ => ?_) fun _ => .refl s
    exact (keepsFlap_of_eq (s := s) (t := (s.countRefused 1).raise .claimRefused) rfl rfl rfl rfl).trans
      (keepsFlap_roleRefused _ _ _)

theorem keepsFlap_takeRow (a : Addr) (b : RowBody) : KeepsFlap s (s.takeRow a b) := by
  have entered : KeepsFlap s (s.rowTable a b) := keepsFlap_setClaims s _
  by_cases own : a = s.own
  · subst own
    have counted : ∀ (u : State) (n : Nat), KeepsFlap u (u.countDropped n) := fun u n =>
      keepsFlap_ite (fun _ => .refl u) fun _ => keepsFlap_of_eq rfl rfl rfl rfl
    rw [takeRow_own]
    exact (entered.trans (counted _ _)).trans
      ((keepsFlap_foldl (fun t (c : Claim) => keepsFlap_roleRemoved t c.id _) _ _).trans
        (keepsFlap_foldl (fun t (c : Claim) => keepsFlap_roleAdmitted t c.id) _ _))
  · rw [takeRow_foreign s b own]
    exact entered

theorem keepsFlap_markTable (commits : List (Addr × Byte × Window)) (lost : List Addr) (m : Window) :
    KeepsFlap s (s.markTable commits lost m) := by
  have marked : ∀ (l : List Claim) (n : Nat), KeepsFlap s ((s.setClaims l).countStale n) :=
    fun _ _ => keepsFlap_of_eq rfl rfl rfl rfl
  exact (marked _ _).trans ((keepsFlap_foldl (fun t (x : Addr × Byte × Window) =>
    keepsFlap_roleCommitted t x.2.1 x.2.2) _ _).trans
      (keepsFlap_foldl (fun t (c : Claim) => keepsFlap_roleRemoved t c.id _) _ _))

/-! ## The hall condition (chapter 2) -/

/-- A hall condition record in which no stop is new. -/
theorem keepsFlap_setHall {h : HallState} (stops : s.hall.stops = [] → h.stops = []) : KeepsFlap s (s.setHall h) := by
  refine keepsFlap_of_clear (fun clear => ?_) rfl rfl rfl le_rfl
  obtain ⟨status, working, supply, none⟩ := flumeClear_iff.1 clear
  exact flumeClear_iff.2 ⟨status, working, supply, stops none⟩

theorem keepsFlap_recomputePresence : KeepsFlap s s.recomputePresence := by
  have hall : s.hall.stops = [] → (if servesCrusher s.roster then s.hall else s.hall.resetGate).stops = [] := by
    split <;> exact id
  unfold State.recomputePresence
  have taken : ∀ p : Bool, KeepsFlap s (s.setHall
      { (if servesCrusher s.roster then s.hall else s.hall.resetGate) with presence := p }) :=
    fun _ => keepsFlap_setHall s hall
  exact keepsFlap_ite (fun _ => taken _) fun _ => (taken _).trans (keepsFlap_report _ _)

theorem keepsFlap_takeGate (a : Addr) (b : GateBody) : KeepsFlap s (s.takeGate a b) := by
  unfold State.takeGate
  split
  · refine keepsFlap_ite (fun _ => ?_) fun _ => .refl s
    have taken : ∀ v, KeepsFlap s (s.setHall { s.hall with gate := v, holds := b.holds, resume := b.resume }) :=
      fun _ => keepsFlap_setHall s id
    exact keepsFlap_ite (fun _ => taken _) fun _ => (taken _).trans (keepsFlap_report _ _)
  · exact .refl s

/-- The first stop of an originator ends the discharge in progress; one repeated finds none (R126). -/
theorem keepsFlap_takeStop (a : Addr) (b : StopBody) : KeepsFlap s (s.takeStop a b) := by
  have raised : ∀ u : State, u.FlumeOrderly → (if s.hall.stops.isEmpty then u.raise .stopActive else u).FlumeOrderly :=
    fun u h => (keepsFlap_ite (fun _ => keepsFlap_raise u _) fun _ => .refl u) h |>.1
  unfold State.takeStop
  split
  · rename_i c _
    refine keepsFlap_ite (fun _ => .refl s) fun _ => keepsFlap_ite (fun stopped => ?_) fun _ => ?_
    · refine keepsFlap_setHall s fun none => ?_
      simp [HallState.stopped, none] at stopped
    · exact keepsFlap_of_idle fun h => idle_roleStopTaken a c (raised _ (h.of_eq rfl rfl rfl))
  · exact .refl s

theorem keepsFlap_removeStop (a : Addr) : KeepsFlap s (s.removeStop a) := by
  have dropped : KeepsFlap s (s.setHall (s.hall.dropStop a)) :=
    keepsFlap_setHall s fun none => by simp [HallState.dropStop, none]
  refine keepsFlap_ite (fun _ => ?_) fun _ => .refl s
  exact keepsFlap_ite (fun _ => dropped.trans (keepsFlap_report _ _)) fun _ => dropped

theorem keepsFlap_takeRelease (a : Addr) (b : ReleaseBody) : KeepsFlap s (s.takeRelease a b) := by
  unfold State.takeRelease
  split
  · exact keepsFlap_ite (fun _ => .refl s) fun _ => keepsFlap_ite (fun _ => keepsFlap_removeStop s _) fun _ => .refl s
  · exact .refl s

theorem keepsFlap_mendStop (a : Addr) : KeepsFlap s (s.mendStop a) :=
  keepsFlap_ite (fun _ => keepsFlap_removeStop s a) fun _ => .refl s

theorem keepsFlap_restateStop : KeepsFlap s s.restateStop := by
  unfold State.restateStop
  split
  · exact keepsFlap_ite (fun _ => .refl s) fun _ => keepsFlap_request s _ _ _
  · exact .refl s

theorem keepsFlap_markRestated : KeepsFlap s s.markRestated :=
  keepsFlap_setHall s fun none => by simp [none]

theorem keepsFlap_clearRestated : KeepsFlap s s.clearRestated :=
  keepsFlap_setHall s fun none => by simp [none]

/-! ## The sync controller (chapter 5) -/

/-- A sync state in which a discharge in progress could not be, or SYNCED. -/
theorem keepsFlap_setSync {x : SyncStatus} (h : s.flumeClear = true → x = .synced) : KeepsFlap s (s.setSync x) := by
  have moved : KeepsFlap s (s.mapSync (fun y => { y with status := x })) := by
    refine keepsFlap_of_clear (fun clear => ?_) rfl rfl rfl le_rfl
    obtain ⟨_, working, supply, stops⟩ := flumeClear_iff.1 clear
    exact flumeClear_iff.2 ⟨h clear, working, supply, stops⟩
  exact keepsFlap_ite (fun _ => moved) fun _ => moved.trans (keepsFlap_report _ _)

theorem flumeOrderly_setSync {s : State} (h : s.FlumeOrderly) (x : SyncStatus) : (s.setSync x).FlumeOrderly := by
  unfold State.setSync
  dsimp only
  split <;> exact h.of_eq rfl rfl rfl

theorem keepsFlap_requestHello : KeepsFlap s s.requestHello := keepsFlap_request s _ _ _

theorem keepsFlap_askRows (n : Nat) : KeepsFlap s (s.askRows n) :=
  (keepsFlap_of_eq (s := s) (t := s.mapSync _) rfl rfl rfl rfl).trans (keepsFlap_request _ _ _ _)

/-- The sync controller excludes the station only where no discharge can be in progress (R93 to R95). -/
theorem keepsFlap_enterExcluded (c : ExclusionCause) (h : s.sync.status ≠ .synced) : KeepsFlap s (s.enterExcluded c) := by
  have reset : ∀ u : State, KeepsFlap u (u.mapSync (fun x =>
      { x with listenTimer := none, round := .idle, received := [] })) := fun _ => keepsFlap_of_eq rfl rfl rfl rfl
  exact (keepsFlap_setSync s fun clear => absurd clear (not_clear_of_status h)).trans ((reset _).trans
    ((keepsFlap_dropAll _ _).trans ((keepsFlap_removeClaims _ _ _).trans
      ((keepsFlap_roleExcluded _).trans (keepsFlap_raise _ _)))))

theorem keepsFlap_onConflict : KeepsFlap s s.onConflict := by
  unfold State.onConflict
  refine (keepsFlap_report s .addressConflict).trans ?_
  dsimp only
  split
  · rename_i status
    exact keepsFlap_enterExcluded _ _ (by rw [status]; nofun)
  · rename_i status
    exact keepsFlap_enterExcluded _ _ (by rw [status]; nofun)
  · rename_i status
    exact keepsFlap_enterExcluded _ _ (by rw [status]; nofun)
  · exact .refl _

theorem keepsFlap_onRoleConflict (a : Addr) : KeepsFlap s (s.onRoleConflict a) := by
  unfold State.onRoleConflict
  refine (keepsFlap_report s (.roleConflict a)).trans ?_
  dsimp only
  split
  · rename_i status
    exact keepsFlap_enterExcluded _ _ (by rw [status]; nofun)
  · rename_i status
    exact keepsFlap_enterExcluded _ _ (by rw [status]; nofun)
  · exact .refl _

theorem keepsFlap_onParameters (i : StationInfo) : KeepsFlap s (s.onParameters i) :=
  keepsFlap_ite (fun both => keepsFlap_enterExcluded s _ (by rw [both.1]; nofun)) fun _ => .refl s

theorem keepsFlap_becomeSynced : KeepsFlap s s.becomeSynced :=
  (keepsFlap_setSync s fun _ => rfl).trans ((keepsFlap_markRestated _).trans (keepsFlap_roleSyncGained _))

/-- The sync loss at a MARK ends the discharge in progress (R102, R125; log 25). -/
theorem keepsFlap_enterDiverged : KeepsFlap s s.enterDiverged := by
  refine keepsFlap_of_idle fun h => (keepsFlap_askRows _ _).idle (idle_roleSyncLost ?_)
  exact (keepsFlap_raise _ _ (flumeOrderly_setSync h _)).1

theorem keepsFlap_markRound (v : MarkView) (b : MarkBody) : KeepsFlap s (s.markRound v b) := by
  have closed : ∀ f : SyncState → SyncState, (f s.sync).status = s.sync.status → KeepsFlap s (s.mapSync f) :=
    fun f status => keepsFlap_of_eq (by simp [State.flumeView, State.mapSync, status]) rfl rfl rfl
  unfold State.markRound
  split
  · refine keepsFlap_ite (fun _ => ?_) fun _ => ?_
    · refine keepsFlap_ite (fun _ => (closed _ (by rfl)).trans (keepsFlap_becomeSynced _)) fun _ => ?_
      exact (keepsFlap_raise s _).trans (keepsFlap_askRows _ _)
    · exact (closed _ (by rfl)).trans (keepsFlap_ite (fun _ => keepsFlap_askRows _ _) fun _ => .refl _)
  · exact keepsFlap_ite (fun _ => keepsFlap_askRows s _) fun _ => .refl s
  · exact .refl s

theorem keepsFlap_markSync (v : MarkView) (b : MarkBody) : KeepsFlap s (s.markSync v b) := by
  unfold State.markSync
  split
  · rename_i status
    have stopped : KeepsFlap s (s.mapSync (fun x => { x with listenTimer := none })) := keepsFlap_of_eq rfl rfl rfl rfl
    have listening : ¬(s.mapSync (fun x => { x with listenTimer := none })).flumeClear = true :=
      not_clear_of_status (by rw [mapSync_sync, status]; nofun)
    exact stopped.trans ((keepsFlap_setSync _ fun clear => absurd clear listening).trans
      ((keepsFlap_requestHello _).trans (keepsFlap_askRows _ _)))
  · exact keepsFlap_markRound s v b
  · exact keepsFlap_markRound s v b
  · exact keepsFlap_ite (fun _ => .refl s) fun _ => keepsFlap_enterDiverged s
  · exact .refl s

/-- Confinement ends the discharge in progress (R104, R125). -/
theorem keepsFlap_onConfined : KeepsFlap s s.onConfined := by
  unfold State.onConfined
  split
  · exact .refl s
  · exact .refl s
  · refine keepsFlap_of_idle fun h => idle_roleSyncLost ((keepsFlap_markRestated _ ?_).1)
    exact (flumeOrderly_setSync h .syncing).of_eq rfl rfl rfl

theorem keepsFlap_onLineActive : KeepsFlap s s.onLineActive :=
  keepsFlap_ite (fun _ => (keepsFlap_requestHello s).trans (keepsFlap_askRows _ _)) fun _ => .refl s

theorem keepsFlap_mapTrunk (f : TrunkState → TrunkState) : KeepsFlap s (s.mapTrunk f) := keepsFlap_of_eq rfl rfl rfl rfl

theorem keepsFlap_endConfinement : KeepsFlap s s.endConfinement := by
  have opened : KeepsFlap s { s with trunk := { s.trunk with
      line := .active, failCount := 0, failHold := false, confMarks := 0, confExpiries := 0 } } :=
    keepsFlap_of_eq rfl rfl rfl rfl
  exact opened.trans ((keepsFlap_onLineActive _).trans (keepsFlap_roleLineActive _))

theorem keepsFlap_enterListenOnly : KeepsFlap s s.enterListenOnly := by
  have confined : KeepsFlap s { s with trunk := { s.trunk with
      line := .listenOnly, failHold := false, confMarks := 0, confExpiries := 0 } } := keepsFlap_of_eq rfl rfl rfl rfl
  exact confined.trans ((keepsFlap_dropAll _ _).trans ((keepsFlap_raise _ _).trans
    ((keepsFlap_report _ _).trans ((keepsFlap_removeClaims _ _ _).trans (keepsFlap_onConfined _)))))

theorem keepsFlap_answerRow (t : AskTarget) : KeepsFlap s (s.answerRow t) :=
  keepsFlap_ite (fun _ => (keepsFlap_request s _ _ _).trans (keepsFlap_restateStop _)) fun _ => .refl s

/-! ## The roster (chapter 3) -/

theorem keepsFlap_setRoster (l : List RosterEntry) : KeepsFlap s (s.setRoster l) := keepsFlap_of_eq rfl rfl rfl rfl

theorem keepsFlap_hear (a : Addr) : KeepsFlap s (s.hear a) :=
  keepsFlap_ite (fun _ => .refl s) fun _ => keepsFlap_setRoster s _

theorem keepsFlap_askUnknown (a : Addr) : KeepsFlap s (s.askUnknown a) := by
  have noted : KeepsFlap s { s with window := { s.window with asked := s.window.asked ++ [a] } } :=
    keepsFlap_of_eq rfl rfl rfl rfl
  exact keepsFlap_ite (fun _ => noted.trans (keepsFlap_request _ _ _ _)) fun _ => .refl s

theorem keepsFlap_applyInfo (a : Addr) (role : Role) (i : StationInfo) : KeepsFlap s (s.applyInfo a role i) := by
  unfold State.applyInfo
  dsimp only
  generalize s.entryAfter a role i = e
  have told : KeepsFlap s (if entryOf s.roster a = some e then s.setRoster (putEntry e s.roster)
      else (s.setRoster (putEntry e s.roster)).report (.rosterChanged a)) :=
    keepsFlap_ite (fun _ => keepsFlap_setRoster s _) fun _ => (keepsFlap_setRoster s _).trans (keepsFlap_report _ _)
  exact (told.trans (keepsFlap_setClaims _ _)).trans
    ((keepsFlap_ite (fun _ => keepsFlap_removeClaims _ _ _) fun _ => .refl _).trans
      (keepsFlap_ite (fun _ => keepsFlap_recomputePresence _) fun _ => .refl _))

theorem keepsFlap_takeInfo (a : Addr) (i : StationInfo) : KeepsFlap s (s.takeInfo a i) := by
  unfold State.takeInfo
  refine keepsFlap_ite (fun _ => .refl s) fun _ => ?_
  split
  · exact ((keepsFlap_pull s _).trans (keepsFlap_applyInfo _ _ _ _)).trans
      (keepsFlap_ite (fun _ => keepsFlap_onRoleConflict _ _) fun _ => .refl _)
  · exact .refl s

theorem keepsFlap_removeLeaver (a : Addr) : KeepsFlap s (s.removeLeaver a) :=
  (keepsFlap_removeClaims s _ _).trans (keepsFlap_ite (fun _ => (keepsFlap_setRoster _ _).trans
    ((keepsFlap_report _ _).trans (keepsFlap_recomputePresence _))) fun _ => .refl _)

theorem keepsFlap_answerHello (peer : Bool) (t : AskTarget) : KeepsFlap s (s.answerHello peer t) := by
  have dropped : KeepsFlap s (match peer, t with
      | true, .station a => s.dropAsk a
      | _, _ => s) := by
    split
    · exact keepsFlap_pull s _
    · exact .refl s
  exact dropped.trans (keepsFlap_ite (fun _ => keepsFlap_request _ _ _ _) fun _ => .refl _)

theorem keepsFlap_markRoster (sender : Addr) : KeepsFlap s (s.markRoster sender) := by
  have cleared : ∀ u : State, KeepsFlap u { u with window := { u.window with asked := [] } } :=
    fun _ => keepsFlap_of_eq rfl rfl rfl rfl
  exact (keepsFlap_setRoster s _).trans ((keepsFlap_foldl (fun s a => keepsFlap_report s (.rosterChanged a)) _ _).trans
    ((cleared _).trans (keepsFlap_recomputePresence _)))

/-! ## Modes and starts (chapter 10) -/

/-- A mode in which a discharge may go on, or any from one in which none can. -/
theorem keepsFlap_setMode {x : StationMode} (h : s.working = true → x = .run ∨ x = .quiet) : KeepsFlap s (s.setMode x) := by
  have moved : KeepsFlap s (s.mapMode (fun y => { y with mode := x })) := by
    refine keepsFlap_of_clear (fun clear => ?_) rfl rfl rfl le_rfl
    obtain ⟨status, working, supply, stops⟩ := flumeClear_iff.1 clear
    refine flumeClear_iff.2 ⟨status, ?_, supply, stops⟩
    rcases h working with rfl | rfl <;> rfl
  exact keepsFlap_ite (fun _ => moved) fun _ => moved.trans (keepsFlap_report _ _)

/-- A change of the mode record that leaves mode and supply alone. -/
theorem keepsFlap_mapMode {f : ModeState → ModeState} (mode : (f s.mode).mode = s.mode.mode)
    (supply : (f s.mode).supply = s.mode.supply) : KeepsFlap s (s.mapMode f) :=
  keepsFlap_of_eq (by simp [State.flumeView, State.mapMode, mode, supply]) rfl rfl rfl

theorem keepsFlap_backToQuiet : KeepsFlap s s.backToQuiet :=
  (keepsFlap_setMode s fun _ => .inr rfl).trans (keepsFlap_mapMode _ rfl rfl)

theorem keepsFlap_backByShift : KeepsFlap s s.backByShift :=
  (keepsFlap_setMode s fun _ => by split <;> simp).trans (keepsFlap_mapMode _ rfl rfl)

/-- A station that may leave has discharged every lot (R182). -/
theorem idle_of_mayLeave {s : State} (h : s.FlumeOrderly) (may : s.mayLeave = true) : s.flumeIdle := by
  refine ⟨h, ?_⟩
  cases hp : s.discharge.progress with
  | none => rfl
  | some p =>
    obtain ⟨role, l, r, lots, _⟩ := h.head p hp
    simp [State.mayLeave, State.roleReady, role, lots] at may

theorem flumeIdle_setMode {s : State} (h : s.flumeIdle) (x : StationMode) : (s.setMode x).flumeIdle := by
  obtain ⟨orderly, idle⟩ := h
  unfold State.setMode
  dsimp only
  split <;> exact ⟨orderly.of_eq rfl rfl rfl, idle⟩

theorem keepsFlap_settleMode : KeepsFlap s s.settleMode := by
  unfold State.settleMode
  split
  · refine keepsFlap_ite (fun may => keepsFlap_of_idle fun h => ?_) fun _ => .refl s
    exact ((keepsFlap_request _ _ _ _).trans (keepsFlap_ite (fun _ => keepsFlap_cancelOp _ _) fun _ => .refl _)).idle
      (flumeIdle_setMode (idle_of_mayLeave h may) .leaving)
  · refine keepsFlap_ite (fun _ => .refl s) fun _ => ?_
    exact (keepsFlap_pull s _).trans (keepsFlap_ite (fun _ => .refl _) fun _ => keepsFlap_backToQuiet _)
  · exact .refl s

/-- A start begins without lots and operations (R178). -/
theorem keepsFlap_start (c : StartCause) : KeepsFlap s (s.start c) :=
  keepsFlap_of_idle fun _ => flumeIdle_of_held rfl rfl

theorem keepsFlap_startByPort (c : StartCause) : KeepsFlap s (s.startByPort c) :=
  keepsFlap_of_idle fun _ => flumeIdle_of_held rfl rfl

theorem keepsFlap_enterDormant (leaving : s.mode.mode = .leaving) : KeepsFlap s s.enterDormant := by
  have stopped : ∀ u : State, KeepsFlap u { u with
      window := { u.window with timer := none }, sync := { u.sync with listenTimer := none }, seq := u.seq.off } :=
    fun u => keepsFlap_of_view rfl rfl (fun l r hl hs => ⟨l, r, hl, hs⟩) (Nat.zero_le _)
  have idle : s.working = false := by simp [State.working, leaving]
  exact (keepsFlap_setMode s fun working => by rw [idle] at working; cases working).trans
    ((keepsFlap_dropAll _ _).trans (stopped _))

theorem keepsFlap_helloLeft (leaving : s.mode.mode = .leaving) : KeepsFlap s s.helloLeft :=
  (keepsFlap_enterDormant s leaving).trans (keepsFlap_ite (fun _ => keepsFlap_start _ _) fun _ => .refl _)

theorem keepsFlap_wakeUp : KeepsFlap s s.wakeUp := by
  unfold State.wakeUp
  split
  · exact keepsFlap_start s _
  · exact (keepsFlap_pull s _).trans
      (keepsFlap_ite (fun _ => keepsFlap_mapMode _ rfl rfl) fun _ => keepsFlap_backByShift _)
  · exact .refl s

/-! ## The frames but the MARK -/

theorem keepsFlap_takeHello (own : Bool) (a : Addr) (b : HelloBody) : KeepsFlap s (s.takeHello own a b) := by
  unfold State.takeHello
  split
  · exact keepsFlap_takeInfo s a _
  · exact (keepsFlap_pull s _).trans (keepsFlap_removeLeaver _ a)
  · exact .refl s
  · exact (keepsFlap_removeClaims s _ _).trans
      (keepsFlap_ite (fun leaving => keepsFlap_helloLeft _ leaving) fun _ => .refl _)

theorem keepsFlap_takeWithdraw (a : Addr) (b : WithdrawBody) : KeepsFlap s (s.takeWithdraw a b) :=
  keepsFlap_ite (fun _ => keepsFlap_removeClaims s _ _) fun _ => .refl s

theorem keepsFlap_addInbound (a : Addr) (b : DoneBody) : KeepsFlap s (s.addInbound a b) := by
  refine keepsFlap_ite (fun _ => .refl s) fun _ => keepsFlap_ite (fun _ => .refl s) fun _ => ?_
  exact keepsFlap_ite (fun _ => keepsFlap_mapCrusher s _) fun _ => keepsFlap_of_eq rfl rfl rfl rfl

theorem keepsFlap_takeDone (a : Addr) (b : DoneBody) : KeepsFlap s (s.takeDone a b) :=
  (keepsFlap_removeClaims s _ _).trans (keepsFlap_ite (fun _ => keepsFlap_addInbound _ _ _) fun _ => .refl _)

theorem keepsFlap_afterOwnStop : KeepsFlap s s.afterOwnStop :=
  keepsFlap_ite (fun _ => keepsFlap_compareStop s) fun _ => .refl s

theorem keepsFlap_openRound : KeepsFlap s s.openRound :=
  (keepsFlap_of_eq (s := s) (t := s.mapSync _) rfl rfl rfl rfl).trans (keepsFlap_clearRestated _)

theorem keepsFlap_takeAsk (own : Bool) (b : AskBody) : KeepsFlap s (s.takeAsk own b) := by
  unfold State.takeAsk
  split
  · exact keepsFlap_answerHello s _ _
  · exact (keepsFlap_ite (fun _ => keepsFlap_openRound s) fun _ => .refl s).trans (keepsFlap_answerRow _ _)
  · exact .refl s

theorem keepsFlap_recordRow (a : Addr) : KeepsFlap s (s.recordRow a) :=
  keepsFlap_ite (fun _ => keepsFlap_of_eq rfl rfl rfl rfl) fun _ => .refl s

theorem keepsFlap_takeRowFrame (own : Bool) (a : Addr) (b : RowBody) : KeepsFlap s (s.takeRowFrame own a b) := by
  refine keepsFlap_ite (fun _ => (keepsFlap_takeRow s a b).trans (keepsFlap_mendStop _ a)) fun _ => ?_
  unfold State.takePeerRow
  split
  · exact (((keepsFlap_takeInfo s _ _).trans (keepsFlap_takeRow _ a b)).trans (keepsFlap_mendStop _ a)).trans
      ((keepsFlap_recordRow _ a).trans (keepsFlap_onParameters _ _))
  · exact keepsFlap_mendStop s a

/-! ## Ends and starts of frames -/

theorem keepsFlap_hearFrame (a : Addr) (informs : Bool) : KeepsFlap s (s.hearFrame a informs) := by
  have ended : KeepsFlap s
      (s.countValid.mapTrunk (fun t => { t.frameEnd (t.lastHeard a) with failHold := false })) :=
    keepsFlap_of_eq rfl rfl rfl rfl
  exact ended.trans ((keepsFlap_hear _ a).trans
    ((keepsFlap_ite (fun _ => .refl _) fun _ => keepsFlap_askUnknown _ a).trans
      (keepsFlap_ite (fun _ => keepsFlap_onConflict _) fun _ => .refl _)))

theorem keepsFlap_ownGood (f : QFrame) : KeepsFlap s (s.ownGood f) := by
  have sent : ∀ u : State, KeepsFlap u { u with window := { u.window with sent := true } } :=
    fun _ => keepsFlap_of_eq rfl rfl rfl rfl
  exact ((keepsFlap_mapTrunk s _).trans ((keepsFlap_deliver _ _ _ _).trans ((sent _).trans (keepsFlap_pull _ _)))).trans
    (keepsFlap_ite (fun _ => keepsFlap_requestGate _) fun _ => .refl _)

theorem keepsFlap_failFrame (received : Option Addr) : KeepsFlap s (s.failFrame received) := by
  have failed : ∀ f : TrunkState → TrunkState, KeepsFlap s (s.countOwnFailure.mapTrunk f) :=
    fun _ => keepsFlap_of_eq rfl rfl rfl rfl
  have left : ∀ u : State, KeepsFlap u u.helloFailed := fun u =>
    keepsFlap_ite (fun _ => keepsFlap_backByShift u) fun _ => keepsFlap_backToQuiet u
  have pulled : ∀ u : State, KeepsFlap u u.applyPulled := fun u =>
    (keepsFlap_setQueue u _).trans ((keepsFlap_deliverAll _ _).trans (keepsFlap_ite (fun _ => left _) fun _ => .refl _))
  refine keepsFlap_ite (fun _ => ?_) fun _ => .refl s
  exact (failed _).trans ((pulled _).trans (keepsFlap_ite (fun _ => keepsFlap_enterListenOnly _) fun _ => .refl _))

theorem keepsFlap_enterSlot (x : Slot) : KeepsFlap s (s.enterSlot x) := by
  unfold State.enterSlot
  refine keepsFlap_ite (fun _ => ?_) fun _ => .refl s
  dsimp only
  split
  · exact (keepsFlap_mapTrunk s _).trans (keepsFlap_mapTrunk _ _)
  · exact keepsFlap_mapTrunk s _

/-! ## The two trunk timers (R52, R92) -/

theorem keepsFlap_expireWindow : KeepsFlap s s.expireWindow := by
  have again : KeepsFlap s { s with window := { s.window with
      timer := some 0, expiries := min (s.window.expiries + 1) 2 } } := keepsFlap_of_eq rfl rfl rfl rfl
  have confined : ∀ u : State, KeepsFlap u u.confinedExpiry := fun u => keepsFlap_ite
    (fun _ => (keepsFlap_mapTrunk u _).trans (keepsFlap_ite (fun _ => keepsFlap_endConfinement _) fun _ => .refl _))
    fun _ => .refl u
  exact again.trans ((keepsFlap_ite (fun _ => keepsFlap_request _ _ _ _) fun _ => .refl _).trans (confined _))

theorem keepsFlap_declareAlone : KeepsFlap s s.declareAlone := by
  have timed : ∀ u : State, KeepsFlap u { u with window := { u.window with timer := some 0 } } :=
    fun _ => keepsFlap_of_eq rfl rfl rfl rfl
  exact (keepsFlap_of_eq (s := s) (t := s.mapSync _) rfl rfl rfl rfl).trans
    ((keepsFlap_becomeSynced _).trans ((keepsFlap_requestHello _).trans (timed _)))

end

end Sys2Proof.Machine
end


section
/-! O59: the flume flap stays safe. -/

namespace Sys2Proof.Machine

/-! ## A MARK (R54) -/

section
variable {s : State}

/-- A discharge begins only where the station may discharge, and in the window that the MARK opens (R120). -/
theorem flapSafe_startDischarge {m : Window} (h : s.flumeIdle) (role : s.cfg.role = .discharge)
    (window : s.window.number = m) (may : s.mayDischarge m = true) : (s.startDischarge m).flapSafe := by
  have none : s.seq.dischargesHeld = 0 := h.1.idle h.2
  have clear : s.flumeClear = true := by
    simp only [State.mayDischarge, Bool.and_eq_true, beq_iff_eq, List.isEmpty_iff] at may
    obtain ⟨⟨⟨⟨⟨⟨⟨status, stops⟩, supply⟩, working⟩, _⟩, _⟩, _⟩, _⟩ := may
    exact flumeClear_iff.2 ⟨status, working, supply, stops⟩
  unfold State.startDischarge
  split
  · rename_i l r lots
    have begun : ∀ (p : Discharging) (q : SeqResult), p.arrival = plus m s.cfg.transit → q.seq.dischargesHeld ≤ 1 →
        (State.takeSeq { s with discharge := { s.discharge with
          progress := some p, lots := { l with status := .discharging } :: r } } q).flapSafe := by
      intro p q arrival held
      refine flapSafe_iff.2 ⟨⟨fun _ _ => ⟨role, _, _, rfl, rfl⟩, held, nofun⟩, fun p' hp => ?_⟩
      obtain rfl : p = p' := Option.some.inj hp
      refine ⟨clear, ?_⟩
      change minus p.arrival s.cfg.transit = s.window.number
      rw [arrival, window, minus, plus]
      exact add_sub_cancel_right _ _
    have requested := dischargesHeld_request s.seq s.dischargeOp
    rw [none] at requested
    have taken := fun p arrival => begun p (s.seq.request s.dischargeOp) arrival requested
    unfold State.requestOp
    dsimp only
    split
    · exact (keepsFlap_endDischarge _).safe (taken _ (by rfl))
    · exact (keepsFlap_reverseEnded _).safe (taken _ (by rfl))
    · exact (keepsFlap_endFlush _ _ _).safe (taken _ (by rfl))
    · exact taken _ (by rfl)
  · exact flapSafe_of_idle h

/-- The discharge in progress ends at a MARK, and the head lot's may begin (R120, R122). -/
theorem flapSafe_markDischarge {m : Window} (h : s.FlumeOrderly) (role : s.cfg.role = .discharge)
    (window : s.window.number = m) : (s.markDischarge m).flapSafe := by
  have ended := untouched_endDischarge s
  have started : (if s.endDischarge.mayDischarge m then s.endDischarge.startDischarge m
      else s.endDischarge).flapSafe := by
    split
    · rename_i may
      exact flapSafe_startDischarge (idle_endDischarge h) (by rw [ended.cfg, role]) (by rw [ended.window, window]) may
    · exact flapSafe_of_idle (idle_endDischarge h)
  have marked : ∀ u : State, KeepsFlap u (u.mapLots Lot.atMark) := fun u => keepsFlap_mapLots u fun _ => id
  exact ((keepsFlap_withdrawLots _ _).trans ((marked _).trans ((keepsFlap_sealAged _).trans
    (keepsFlap_withdrawLots _ _)))).safe started

/-- The records' part of a MARK keeps the order, whatever its window. -/
theorem flumeOrderly_markRecords (own : Bool) (sender : Addr) (b : MarkBody) (h : s.FlumeOrderly) :
    (s.markRecords own sender b).FlumeOrderly := by
  have windowed : (s.markWindow b.window).FlumeOrderly := by
    have moved : State.FlumeOrderly { s with window :=
        { s.window with number := b.window, timer := some 0, expiries := 0 } } := h.of_eq rfl rfl rfl
    exact ((keepsFlap_pull _ _).trans (keepsFlap_ite (fun _ => keepsFlap_mapTrunk _ _) fun _ => .refl _) moved).1
  have unsent : ∀ u : State, KeepsFlap u { u with window := { u.window with sent := false } } :=
    fun _ => keepsFlap_of_eq rfl rfl rfl rfl
  have present : ∀ (u : State) (j : Bool), KeepsFlap u (u.markPresent own j) := fun u _ =>
    (keepsFlap_ite (fun _ => keepsFlap_request u _ _ _) fun _ => .refl u).trans (unsent _)
  have planned : ∀ u : State, KeepsFlap u (u.rebuildPlan b.window) := fun _ => keepsFlap_of_eq rfl rfl rfl rfl
  exact ((present _ _).trans ((planned _).trans ((keepsFlap_markSync _ _ _).trans
    ((keepsFlap_markTable _ _ _ _).trans (keepsFlap_markRoster _ _)))) windowed).1

theorem keepsFlap_markFilter (s : State) (settling : Bool) (m : Window) : KeepsFlap s (s.markFilter settling m) := by
  have settled : ∀ u : State, KeepsFlap u (if settling && u.filter.mode == .settling then
      u.mapFilter FilterState.settleOnce else u) := fun u =>
    keepsFlap_ite (fun _ => keepsFlap_mapFilter u _) fun _ => .refl u
  have started : ∀ u : State, KeepsFlap u (if u.mayFlush m then u.startFlush m
      else if u.filter.mode = .committed ∧ u.filter.discharge.any (fun w => dueBy w m) = true then u.withdrawFlush
      else u) := fun u =>
    keepsFlap_ite (fun _ => (keepsFlap_mapFilter u _).trans (keepsFlap_requestOp _ (o := State.flushOp _) nofun))
      fun _ => keepsFlap_ite (fun _ => keepsFlap_withdrawFlush u) fun _ => .refl u
  exact (keepsFlap_endFlush s _ _).trans ((settled _).trans ((started _).trans
    ((keepsFlap_mapFilter _ _).trans (keepsFlap_withdrawOrphanFlushes _))))

theorem keepsFlap_consumeOne (m : Window) (s : State) (e : Inbound) : KeepsFlap s (s.consumeOne m e) := by
  have judged : ∀ (u : State) (n : Nat), KeepsFlap u (u.judgeHold n) := fun u n => keepsFlap_ite
    (fun _ => (keepsFlap_mapCrusher u _).trans ((keepsFlap_raise _ _).trans (keepsFlap_requestGate _))) fun _ => .refl u
  unfold State.consumeOne
  generalize (if e.arrival = m then s.crusher.current else s.crusher.previous) = r
  have mixed : KeepsFlap s (if e.cls = r.position then s else s.countMixed.raise .mixedArrival) :=
    keepsFlap_ite (fun _ => .refl s) fun _ => keepsFlap_of_eq rfl rfl rfl rfl
  dsimp only
  split
  · exact mixed.trans ((keepsFlap_mapCrusher _ _).trans (judged _ _))
  · exact keepsFlap_mapCrusher s _

theorem keepsFlap_markCrusher (s : State) (m : Window) : KeepsFlap s (s.markCrusher m) := by
  have turned : KeepsFlap s s.turnDiverter := keepsFlap_of_eq rfl rfl rfl rfl
  have consumed : ∀ u : State, KeepsFlap u (u.consume m) := fun u =>
    (keepsFlap_mapCrusher u _).trans (keepsFlap_foldl (keepsFlap_consumeOne m) _ _)
  exact turned.trans ((consumed _).trans ((keepsFlap_mapCrusher _ _).trans (keepsFlap_tellHall _)))

/-- The role unit's part: what the MARK finds in order is safe behind it. -/
theorem flapSafe_markRole (settling again : Bool) (l : List DoneBody) {m : Window} (h : s.FlumeOrderly)
    (window : s.window.number = m) : (s.markRole settling again l m).flapSafe := by
  have asked := (chores_requestDones s l).works.untouched
  have requested : (s.requestDones l).FlumeOrderly := (keepsFlap_foldl (fun s _ => keepsFlap_request s _ _ _) l s h).1
  have unit : ((s.requestDones l).markUnit settling m).flapSafe := by
    unfold State.markUnit
    split
    · rename_i role
      exact flapSafe_markDischarge requested role (by rw [asked.window, window])
    · rename_i role
      exact (keepsFlap_markFilter _ settling m).safe (flapSafe_of_idle (flumeIdle_of_role requested (by rw [role]; nofun)))
    · rename_i role
      exact (keepsFlap_markCrusher _ m).safe (flapSafe_of_idle (flumeIdle_of_role requested (by rw [role]; nofun)))
  rw [markRole_eq]
  split
  · exact (keepsFlap_withdrawCommitted _).safe unit
  · exact unit

theorem flapSafe_takeMark (own : Bool) (sender : Addr) (b : MarkBody) (safe : s.flapSafe) :
    (s.takeMark own sender b).flapSafe := by
  have moded : ∀ u : State, KeepsFlap u u.markMode := by
    intro u
    unfold State.markMode
    split
    · exact keepsFlap_mapMode u rfl rfl
    · exact keepsFlap_ite (fun _ => keepsFlap_request u _ _ _) fun _ => .refl u
    · exact .refl u
  have confined : ∀ u : State, KeepsFlap u u.markConfined := fun u =>
    keepsFlap_ite (fun _ => keepsFlap_endConfinement u) fun _ => .refl u
  unfold State.takeMark
  split
  · exact safe
  · have window : (s.markRecords own sender b).window.number = b.window := by
      rw [(recorded_markRecords s own sender b).window]
    exact ((moded _).trans (confined _)).safe (flapSafe_markRole _ _ _
      (flumeOrderly_markRecords own sender b (flapSafe_iff.1 safe).1) window)

end

/-! ## Measurement, the supply and the field lines -/

section
variable (s : State)

/-- The sequencer's operations in their places, with other running times or levels. -/
theorem keepsFlap_seq {q : SeqState} (held : q.dischargesHeld = s.seq.dischargesHeld) :
    KeepsFlap s { s with seq := q } :=
  keepsFlap_of_view rfl rfl (fun l r hl hs => ⟨l, r, hl, hs⟩) held.le

theorem dischargesHeld_setFeedLevel (q : SeqState) (n : Nat) : (q.setFeedLevel n).dischargesHeld = q.dischargesHeld := by
  have kept : ∀ o : Op, (if o.kind = .feed then { o with drv0 := n } else o).discharges = o.discharges := by
    intro o
    split <;> rfl
  unfold SeqState.setFeedLevel
  dsimp only
  rw [dischargesHeld_write]
  refine dischargesHeld_congr ?_ ?_ ?_ <;> simp [Function.comp_def, kept]

theorem dischargesHeld_spendRunning (q : SeqState) : q.spendRunning.dischargesHeld = q.dischargesHeld :=
  dischargesHeld_congr (by simp [SeqState.spendRunning, Function.comp_def, Op.discharges]; rfl) rfl rfl

theorem keepsFlap_setBand (b : Band) : KeepsFlap s (s.setBand b) := by
  have opened : ∀ u : State, KeepsFlap u (if u.filter.bypassOpen then u else u.raise .bypassOpen) := fun u =>
    keepsFlap_ite (fun _ => .refl u) fun _ => keepsFlap_raise u _
  have bypassed : ∀ u : State, KeepsFlap u (if b = .bypass then
      (if u.filter.bypassOpen then u else u.raise .bypassOpen).mapFilter
        (fun u => { u with bypassOpen := true, cleaned := false })
      else u.mapFilter FilterState.closeBypass) := fun u =>
    keepsFlap_ite (fun _ => (opened u).trans (keepsFlap_mapFilter _ _)) fun _ => keepsFlap_mapFilter u _
  have reranked : ∀ u : State, KeepsFlap u (match u.bandRank with
      | some r => u.rerank r
      | none => u) := by
    intro u
    split
    · exact keepsFlap_rerank u _
    · exact .refl u
  refine keepsFlap_ite (fun _ => .refl s) fun _ => ?_
  exact (keepsFlap_mapFilter s (fun u => { u with band := b })).trans ((bypassed _).trans
    (keepsFlap_ite (fun _ => reranked _) fun _ => .refl _))

/-- A capture reaches no lot that is DISCHARGING (R112, R114). -/
theorem keepsFlap_takeCapture (avg : Nat) : KeepsFlap s (s.takeCapture avg) := by
  have weighed : ∀ l : Lot, l.status = .discharging → l.unweighed = false := fun l hl => by simp [Lot.unweighed, hl]
  refine keepsFlap_ite (fun _ => ?_) fun _ => keepsFlap_ite (fun _ => ?_) fun _ => .refl s
  · refine keepsFlap_ite (fun _ => keepsFlap_setLots s fun l r lots status => ?_) fun _ =>
      keepsFlap_mapLots s fun l hl => by rw [if_neg (by simp [weighed l hl]), hl]
    exact ⟨l, _, by rw [lots, List.filter_cons_of_pos (by simp [weighed l status])], status⟩
  · refine (keepsFlap_mapLots s fun l hl => ?_).trans ((keepsFlap_sealAged _).trans
      (keepsFlap_ite (fun _ => keepsFlap_requestCapture _ _) fun _ => .refl _))
    rw [State.runningLot, if_neg (by simp [hl]), hl]

theorem keepsFlap_onEntered (ch : Fin 4) (was now : ChannelStatus) (avg : Nat) :
    KeepsFlap s (s.onEntered ch was now avg) := by
  unfold State.onEntered
  split
  · exact keepsFlap_ite (fun _ => keepsFlap_enterBeltFault s) fun _ => .refl s
  · exact keepsFlap_ite (fun _ => keepsFlap_setBand s _) fun _ =>
      keepsFlap_ite (fun _ => keepsFlap_setBand s _) fun _ => .refl s
  · exact keepsFlap_ite (fun _ => keepsFlap_pumpFault s) fun _ => .refl s
  · exact keepsFlap_ite (fun _ => keepsFlap_jam s) fun _ => .refl s
  · exact keepsFlap_ite (fun _ => keepsFlap_seq s (dischargesHeld_setFeedLevel _ _)) fun _ => .refl s
  · exact .refl s

theorem keepsFlap_completeAverage (ch : Fin 4) (avg : Nat) : KeepsFlap s (s.completeAverage ch avg) := by
  have measured : ∀ (u : State) (m : MeasureState), KeepsFlap u { u with measure := m } :=
    fun _ _ => keepsFlap_of_eq rfl rfl rfl rfl
  have entered : ∀ (u : State) (was now : ChannelStatus), KeepsFlap u
      (if now = was then u else (u.report (.entered ch now)).onEntered ch was now avg) := fun u was now =>
    keepsFlap_ite (fun _ => .refl u) fun _ => (keepsFlap_report u _).trans (keepsFlap_onEntered _ _ _ _ _)
  have averaged : ∀ u : State, KeepsFlap u (u.onAverage ch avg) := by
    intro u
    unfold State.onAverage
    split
    · exact keepsFlap_ite (fun _ => .refl u) fun _ => keepsFlap_setBand u _
    · exact .refl u
  have captured : ∀ u : State, KeepsFlap u u.captureReady := by
    intro u
    unfold State.captureReady
    split
    · exact (measured u _).trans ((keepsFlap_report _ _).trans (keepsFlap_takeCapture _ _))
    · exact .refl u
  exact (measured s _).trans ((entered _ _ _).trans ((keepsFlap_report _ (.average ch avg _)).trans
    ((averaged _).trans (captured _))))

/-- A falling supply ends the discharge in progress (R127). -/
theorem keepsFlap_judgeSupply (avg : Nat) : KeepsFlap s (s.judgeSupply avg) := by
  unfold State.judgeSupply
  split
  · refine keepsFlap_ite (fun _ => keepsFlap_of_idle fun h => ?_) fun _ => .refl s
    have low : (s.mapMode (fun x => { x with supply := .low, returnRun := 0 })).FlumeOrderly := h.of_eq rfl rfl rfl
    exact idle_roleSupplyLow ((keepsFlap_requestOp _ (o := safeStopOp) nofun).trans (keepsFlap_raise _ _) low).1
  · rename_i low
    have closed : ¬s.flumeClear = true := fun clear => by
      obtain ⟨_, _, normal, _⟩ := flumeClear_iff.1 clear
      rw [low] at normal
      cases normal
    have returned : KeepsFlap s (s.mapMode (fun x => { x with supply := .normal, returnRun := 2 })) :=
      keepsFlap_of_clear (fun clear => absurd clear closed) rfl rfl rfl le_rfl
    exact keepsFlap_ite (fun _ => keepsFlap_mapMode s rfl rfl) fun _ =>
      keepsFlap_ite (fun _ => returned.trans ((keepsFlap_completeOp _ _).trans (keepsFlap_report _ _)))
        fun _ => keepsFlap_mapMode s rfl rfl

theorem keepsFlap_countEdge : KeepsFlap s s.countEdge := by
  have measured : ∀ m : MeasureState, KeepsFlap s ({ s with measure := m }.report .travel) :=
    fun _ => keepsFlap_of_eq rfl rfl rfl rfl
  refine keepsFlap_ite (fun _ => ?_) fun _ => keepsFlap_of_eq rfl rfl rfl rfl
  exact (measured _).trans (keepsFlap_ite (fun _ => keepsFlap_countTravel _) fun _ => .refl _)

theorem keepsFlap_onStall : KeepsFlap s s.onStall := by
  unfold State.onStall
  split
  · exact keepsFlap_ite (fun _ => keepsFlap_enterBeltFault s) fun _ => .refl s
  · exact .refl s
  · exact keepsFlap_jam s

theorem keepsFlap_provePump : KeepsFlap s s.provePump := by
  have proving : ∀ n : Nat, KeepsFlap s { s with seq := { s.seq with
      running := s.seq.running.map (fun (o : Op) => { o with elapsed := n }) } } := fun n =>
    keepsFlap_seq s (dischargesHeld_congr (by simp [Function.comp_def, Op.discharges]; rfl) rfl rfl)
  exact (proving _).trans (keepsFlap_ite (fun _ => keepsFlap_mapFilter _ _) fun _ => keepsFlap_pumpFault _)

theorem keepsFlap_reachRunTime (k : OpKind) : KeepsFlap s (s.reachRunTime k) :=
  keepsFlap_ite (fun _ => (keepsFlap_seq s (dischargesHeld_spendRunning _)).trans (keepsFlap_finishOp _ k))
    fun _ => .refl s

theorem keepsFlap_onShift (active : Bool) : KeepsFlap s (s.onShift active) := by
  unfold State.onShift
  split
  · exact ((keepsFlap_setMode s fun _ => .inr rfl).trans (keepsFlap_mapMode _ rfl rfl)).trans
      (keepsFlap_ite (fun _ => keepsFlap_sealOpen _ _) fun _ => .refl _)
  · exact (keepsFlap_setMode s fun _ => .inl rfl).trans (keepsFlap_mapMode _ rfl rfl)
  · exact keepsFlap_wakeUp s
  · exact keepsFlap_wakeUp s
  · exact .refl s

theorem keepsFlap_checkClock (n : Nat) : KeepsFlap s (s.checkClock n) := by
  have listens : ∀ u : State, KeepsFlap u (u.mapSync (fun x => { x with listenTimer := some 0 })) :=
    fun _ => keepsFlap_of_eq rfl rfl rfl rfl
  have left : ∀ u : State, KeepsFlap u u.leaveStartHold := fun u =>
    (keepsFlap_mapMode u (f := fun x => { x with clock := .qualified }) rfl rfl).trans
      ((listens _).trans (keepsFlap_setMode _ fun _ => by split <;> simp))
  refine keepsFlap_ite (fun _ => ?_) fun _ => ?_
  · exact (keepsFlap_mapMode s (f := fun x => { x with clockRun := x.clockRun + 1 }) rfl rfl).trans
      (keepsFlap_ite (fun _ => left _) fun _ => .refl _)
  · exact (keepsFlap_mapMode s (f := fun x => { x with clockRun := 0, clock := .fault }) rfl rfl).trans
      (keepsFlap_ite (fun _ => .refl _) fun _ => keepsFlap_raise _ _)

/-- The image is read before any discharge (R179). -/
theorem flapSafe_loadImage {s : State} (image : Option (List Byte)) (hold : s.mode.mode = .startHold)
    (safe : s.flapSafe) : (s.loadImage image).flapSafe := by
  have closed : ¬s.flumeClear = true := not_clear_of_mode (by simp [State.working, hold])
  have idle : s.discharge.progress = none := by
    cases hp : s.discharge.progress with
    | none => rfl
    | some p => exact absurd ((flapSafe_iff.1 safe).2 p hp).1 closed
  have held := (flapSafe_iff.1 safe).1.idle idle
  unfold State.loadImage
  split <;> exact flapSafe_of_idle (flumeIdle_of_held idle held)

/-! ## Control commands -/

theorem keepsFlap_when (c : Bool) {f : State → State} (h : KeepsFlap s (f s)) : KeepsFlap s (s.when c f).1 := by
  unfold State.when
  split
  · exact h
  · exact .refl s

theorem keepsFlap_doHold : KeepsFlap s s.doHold.1 := by
  have held : KeepsFlap s { s with discharge := { s.discharge with held := true } } := keepsFlap_of_eq rfl rfl rfl rfl
  unfold State.doHold
  split
  · exact held.trans (keepsFlap_withdrawLots _ _)
  · exact (keepsFlap_mapFilter s _).trans (keepsFlap_ite (fun _ => .refl _) fun _ => keepsFlap_withdrawFlush _)
  · exact .refl s

theorem keepsFlap_doReleaseHold : KeepsFlap s s.doReleaseHold.1 := by
  unfold State.doReleaseHold
  split <;> exact keepsFlap_of_eq rfl rfl rfl rfl

theorem keepsFlap_doLotClose : KeepsFlap s s.doLotClose.1 := by
  unfold State.doLotClose
  split
  · exact keepsFlap_when s _ (keepsFlap_sealOpen s _)
  · exact .refl s

theorem keepsFlap_doFlushNow : KeepsFlap s s.doFlushNow.1 := by
  unfold State.doFlushNow
  split
  · exact keepsFlap_when s _ ((keepsFlap_mapFilter s _).trans (keepsFlap_rerank _ _))
  · exact .refl s

theorem keepsFlap_doClearFault : KeepsFlap s s.doClearFault.1 := by
  unfold State.doClearFault
  split
  · exact keepsFlap_when s _ (keepsFlap_of_eq rfl rfl rfl rfl)
  · exact keepsFlap_when s _ (keepsFlap_mapFilter s _)
  · exact keepsFlap_when s _ (keepsFlap_clearJam s)

theorem keepsFlap_hallRequest (b : QBody) : KeepsFlap s (s.hallRequest b).1 := by
  unfold State.hallRequest
  split
  · exact keepsFlap_request s b .port false
  · exact .refl s

theorem keepsFlap_transact (args : Nat) (l : List Byte) (r : PortResult) : KeepsFlap s (s.transact args l r) :=
  keepsFlap_of_eq rfl rfl rfl rfl

theorem keepsFlap_portWake : KeepsFlap s s.portWake := by
  unfold State.portWake
  split
  · exact keepsFlap_startByPort s _
  · exact (keepsFlap_wakeUp s).trans (keepsFlap_transact _ _ _ _)
  · exact keepsFlap_transact s _ _ _

/-! ## Events -/

theorem keepsFlap_concluded (q : SeqState) : KeepsFlap s (s.concluded q) := by
  have settled : KeepsFlap s (s.settle q) := by
    cases awake : s.awake
    · rw [settle_of_asleep q awake]
      exact .refl s
    · rw [settle_of_awake q awake]
      exact ((keepsFlap_completeSpent s _ _).trans (keepsFlap_settleRole _ _)).trans
        ((keepsFlap_settleMode _).trans (keepsFlap_settleRole _ _))
  exact settled.trans (keepsFlap_ite (fun _ => .refl _) fun _ => keepsFlap_of_eq rfl rfl rfl rfl)

theorem keepsFlap_cleared : KeepsFlap s s.cleared := keepsFlap_of_eq rfl rfl rfl rfl

/-- An event whose own effect keeps the flap safe. -/
theorem flapSafe_event {s : State} {f : State → State} (h : ∀ u : State, u.flapSafe → (f u).flapSafe)
    (safe : s.flapSafe) : (s.event f).flapSafe := by
  have cleared := (keepsFlap_cleared s).safe safe
  cases reset : s.inReset
  · rw [event_of_running f reset]
    exact (keepsFlap_concluded _ _).safe (h _ cleared)
  · rwa [event_in_reset f reset]

theorem KeepsFlap.event {f : State → State} (h : ∀ u, KeepsFlap u (f u)) : s.flapSafe → (s.event f).flapSafe :=
  flapSafe_event fun u => (h u).safe

theorem KeepsFlap.quiet {f : State → State} (h : ∀ u, KeepsFlap u (f u)) (safe : s.flapSafe) :
    (s.quiet f).flapSafe := by
  have cleared := (keepsFlap_cleared s).safe safe
  cases reset : s.inReset
  · rw [quiet_of_running f reset]
    exact (h _).safe cleared
  · rwa [quiet_in_reset f reset]

theorem KeepsFlap.command (args : Nat) {f : State → State × PortResult} (h : ∀ u, KeepsFlap u (f u).1) :
    s.flapSafe → (s.command args f).flapSafe := by
  refine KeepsFlap.event s fun u => KeepsFlap.trans (b := (if u.closed then (u, .refusedState) else f u).1) ?_
    (keepsFlap_transact _ _ _ _)
  split
  · exact .refl u
  · exact h u

theorem flapSafe_read (f : State → List Byte) : s.flapSafe → (s.read f).flapSafe :=
  KeepsFlap.quiet s fun u => keepsFlap_transact u _ _ _

theorem flapSafe_readAt (limit size : Nat) (arg : Byte) (f : State → Nat → List Byte) :
    s.flapSafe → (s.readAt limit size arg f).flapSafe :=
  KeepsFlap.quiet s fun u => keepsFlap_ite (fun _ => keepsFlap_transact u _ _ _) fun _ => keepsFlap_transact u _ _ _

/-- A frame, from its end to the conclusion of the event. -/
theorem flapSafe_frame {α : Type} {kind : FrameKind} {informs : Bool} {bodyOf : Body → Option α}
    {take : Bool → Addr → α → State → State} (rx : Rx α)
    (taken : ∀ (own : Bool) (a : Addr) (b : α) (u : State), u.flapSafe → (take own a b u).flapSafe) :
    s.flapSafe → (s.event (takeFrame kind informs bodyOf take rx)).flapSafe := by
  refine flapSafe_event fun u safe => ?_
  unfold takeFrame
  split
  · unfold State.fromPeer
    split
    · exact taken _ _ _ _ ((keepsFlap_hearFrame u _ _).safe safe)
    · exact safe
  · unfold State.fromOwn
    split
    · rename_i g _ _
      split
      · have good := (keepsFlap_ownGood u g).safe safe
        dsimp only
        split
        · exact taken _ _ _ _ good
        · exact good
      · exact safe
    · exact safe

theorem keepsFlap_tick : KeepsFlap s s.tick := by
  have ticked : s.seq.tick.dischargesHeld = s.seq.dischargesHeld :=
    dischargesHeld_congr (by simp [SeqState.tick, Function.comp_def, Op.discharges]; rfl) rfl rfl
  refine keepsFlap_ite (fun _ => ?_) fun _ => keepsFlap_of_eq rfl rfl rfl rfl
  exact keepsFlap_of_view rfl rfl (fun l r hl hs => ⟨l, r, hl, hs⟩) ticked.le

end

/-- Each command's meaning keeps the flap safe. -/
theorem flapSafe_exec (i : Instr) {s t : State} (h : exec i s = .next t) (safe : s.flapSafe) : t.flapSafe := by
  have only : ∀ {u v : State} {c : Bool}, KeepsFlap u v → KeepsFlap u (if c then v else u) :=
    fun k => keepsFlap_ite (fun _ => k) fun _ => .refl _
  cases i <;> obtain rfl := Host.Outcome.next.inj h
  case mark rx => exact flapSafe_frame s rx (fun own a b _ => flapSafe_takeMark own a b) safe
  case hello rx => exact flapSafe_frame s rx (fun own a b u => (keepsFlap_takeHello u own a b).safe) safe
  case present rx => exact flapSafe_frame s rx (fun _ _ _ _ => id) safe
  case claim rx => exact flapSafe_frame s rx (fun own a b u => (keepsFlap_takeClaim u own a b).safe) safe
  case withdraw rx => exact flapSafe_frame s rx (fun _ a b u => (keepsFlap_takeWithdraw u a b).safe) safe
  case done rx => exact flapSafe_frame s rx (fun _ a b u => (keepsFlap_takeDone u a b).safe) safe
  case gate rx => exact flapSafe_frame s rx (fun _ a b u => (keepsFlap_takeGate u a b).safe) safe
  case stop rx =>
    refine flapSafe_frame s rx (fun own a b u => KeepsFlap.safe ?_) safe
    exact keepsFlap_ite (fun _ => (keepsFlap_takeStop u a b).trans (keepsFlap_afterOwnStop _))
      fun _ => keepsFlap_takeStop u a b
  case release rx =>
    refine flapSafe_frame s rx (fun own a b u => KeepsFlap.safe ?_) safe
    exact keepsFlap_ite (fun _ => (keepsFlap_takeRelease u a b).trans (keepsFlap_afterOwnStop _))
      fun _ => keepsFlap_takeRelease u a b
  case ask rx => exact flapSafe_frame s rx (fun own _ b u => (keepsFlap_takeAsk u own b).safe) safe
  case row rx => exact flapSafe_frame s rx (fun own a b u => (keepsFlap_takeRowFrame u own a b).safe) safe
  case corruptFrame => exact KeepsFlap.quiet s (fun u => only (keepsFlap_of_eq rfl rfl rfl rfl)) safe
  case listenBackFailure r => exact KeepsFlap.event s (fun u => keepsFlap_failFrame u r) safe
  case contentionSlot x => exact KeepsFlap.quiet s (fun u => keepsFlap_enterSlot u x) safe
  case quietCycle => exact KeepsFlap.quiet s (fun u => only (keepsFlap_mapTrunk u _)) safe
  case cyclePositionTaken => exact KeepsFlap.quiet s (fun u => only (keepsFlap_mapTrunk u _)) safe
  case frameStart => exact KeepsFlap.quiet s (fun u => only (keepsFlap_mapTrunk u _)) safe
  case windowTimerExpiry => exact KeepsFlap.event s (fun u => only (keepsFlap_expireWindow u)) safe
  case listeningTimerExpiry => exact KeepsFlap.event s (fun u => only (keepsFlap_declareAlone u)) safe
  case channelAverage ch conv => exact KeepsFlap.event s (fun u => only (keepsFlap_completeAverage u _ _)) safe
  case vfsAverage conv => exact KeepsFlap.event s (fun u => only (keepsFlap_judgeSupply u _)) safe
  case encoderEdge => exact KeepsFlap.event s (fun u => only (keepsFlap_countEdge u)) safe
  case stall =>
    have told : ∀ u : State, KeepsFlap u
        ({ u with measure := { u.measure with stallTimer := some 0 } }.report .stall) :=
      fun _ => keepsFlap_of_eq rfl rfl rfl rfl
    exact KeepsFlap.event s (fun u => only ((told u).trans (keepsFlap_onStall _))) safe
  case classCodeChange code =>
    have pins : KeepsFlap s { s with pins := { s.pins with classCode := code } } := keepsFlap_of_eq rfl rfl rfl rfl
    exact KeepsFlap.event _ (fun u => only (keepsFlap_sealOpen u _)) (pins.safe safe)
  case lotEnd => exact KeepsFlap.event s (fun u => only (keepsFlap_sealOpen u _)) safe
  case binSwap bin =>
    refine KeepsFlap.event s (fun u => only (keepsFlap_ite (fun _ => ?_) fun _ => .refl u)) safe
    exact (keepsFlap_mapCrusher u _).trans (keepsFlap_requestGate _)
  case jamClear => exact KeepsFlap.event s (fun u => only (keepsFlap_clearJam u)) safe
  case shiftChange active =>
    have pins : KeepsFlap s { s with pins := { s.pins with shift := active } } := keepsFlap_of_eq rfl rfl rfl rfl
    exact KeepsFlap.event _ (fun u => keepsFlap_onShift u active) (pins.safe safe)
  case indexComplete => exact KeepsFlap.event s (fun u => keepsFlap_reachRunTime u _) safe
  case flushComplete => exact KeepsFlap.event s (fun u => keepsFlap_reachRunTime u _) safe
  case reverseComplete => exact KeepsFlap.event s (fun u => keepsFlap_reachRunTime u _) safe
  case pumpProving => exact KeepsFlap.event s (fun u => only (keepsFlap_provePump u)) safe
  case recurrenceIntervalExpiry => exact KeepsFlap.quiet s (fun u => only (keepsFlap_mapCrusher u _)) safe
  case driveCycleStart =>
    have cycled : ∀ u : State, KeepsFlap u ({ u with seq := u.seq.cycle }.watchDrive) := fun _ =>
      keepsFlap_of_view rfl rfl (fun l r hl hs => ⟨l, r, hl, hs⟩) le_rfl
    exact KeepsFlap.quiet s (fun u => only (cycled u)) safe
  case clockCheck n => exact KeepsFlap.event s (fun u => only (keepsFlap_checkClock u n)) safe
  case configLoad image =>
    refine flapSafe_event (fun u safe => ?_) safe
    split
    · rename_i may
      rw [Bool.and_eq_true, beq_iff_eq] at may
      exact flapSafe_loadImage image may.1 safe
    · exact safe
  case logicSupplyLow => exact flapSafe_of_idle (flumeIdle_of_held rfl rfl)
  case logicSupplySettled b => exact flapSafe_of_idle (flumeIdle_of_held rfl rfl)
  case spiIncomplete => exact KeepsFlap.quiet s (fun u => keepsFlap_of_eq rfl rfl rfl rfl) safe
  case unknownCommand code => exact KeepsFlap.quiet s (fun u => keepsFlap_transact u _ _ _) safe
  case readStatus => exact flapSafe_read s _ safe
  case readRoster arg => exact flapSafe_readAt s _ _ _ _ safe
  case readClaim arg => exact flapSafe_readAt s _ _ _ _ safe
  case readPlan arg => exact flapSafe_readAt s _ _ _ _ safe
  case readHallCondition => exact flapSafe_read s _ safe
  case readLot arg => exact flapSafe_readAt s _ _ _ _ safe
  case readChannel arg => exact flapSafe_readAt s _ _ _ _ safe
  case readCounters => exact flapSafe_read s _ safe
  case readStartCause => exact flapSafe_read s _ safe
  case peekAttention => exact flapSafe_read s _ safe
  case takeAttention => exact KeepsFlap.quiet s (fun u => keepsFlap_of_eq rfl rfl rfl rfl) safe
  case attentionCopy => exact KeepsFlap.quiet s (fun u => keepsFlap_of_eq rfl rfl rfl rfl) safe
  case hold => exact KeepsFlap.command s _ keepsFlap_doHold safe
  case releaseHold => exact KeepsFlap.command s _ keepsFlap_doReleaseHold safe
  case lotClose => exact KeepsFlap.command s _ keepsFlap_doLotClose safe
  case flushNow => exact KeepsFlap.command s _ keepsFlap_doFlushNow safe
  case clearFault => exact KeepsFlap.command s _ keepsFlap_doClearFault safe
  case hallStop => exact KeepsFlap.command s _ (fun u => keepsFlap_hallRequest u _) safe
  case hallRelease => exact KeepsFlap.command s _ (fun u => keepsFlap_hallRequest u _) safe
  case forceRelease arg =>
    refine KeepsFlap.command s _ (fun u => ?_) safe
    split
    · exact .refl u
    · exact keepsFlap_hallRequest u _
  case leave => exact KeepsFlap.command s _ (fun u => keepsFlap_when u _ (keepsFlap_mapMode u rfl rfl)) safe
  case wake => exact KeepsFlap.event s keepsFlap_portWake safe
  case reset => exact KeepsFlap.event s (fun u => keepsFlap_startByPort u _) safe

/-- Settles O59: an operation of any block keeps the discharge in progress in its window and under its conditions or ends
it, a MARK ends it before the next begins, and the flap is open only while its DISCHARGE runs. -/
theorem flapStaysSafe : Obligations.FlapStaysSafe := by
  refine ⟨fun s t safe h => ?_, fun s safe flap => ?_⟩
  · unfold step at h
    split at h
    · rename_i c rest _
      have queued : KeepsFlap s { s with pending := rest } := keepsFlap_of_eq rfl rfl rfl rfl
      exact flapSafe_exec c h (queued.safe safe)
    · obtain rfl := Host.Outcome.next.inj h
      exact (keepsFlap_tick s).safe safe
  · obtain ⟨sound, _, held⟩ := safe
    have runs : s.seq.runs .discharge = true := by
      simp only [State.flapOpen, State.discreteOut, Bool.and_eq_true, beq_iff_eq] at flap
      obtain ⟨role, _, out⟩ := flap
      rw [role] at out
      exact out
    obtain ⟨p, progress⟩ := Option.isSome_iff_exists.1 (held (by simp [SeqState.holdsOp, runs]))
    obtain ⟨_, clear, window, _⟩ := sound p progress
    obtain ⟨status, working, supply, stops⟩ := flumeClear_iff.1 clear
    exact ⟨status, by simpa [State.working] using working, supply, stops, p, progress, window⟩

end Sys2Proof.Machine
end


section
/-! O31: an INDEX that completes. -/

namespace Sys2Proof.Machine

/-- What the end of its INDEX makes of a lot (R115). -/
theorem indexed_eq (l : Lot) : (if l.status = .opened then l else l.indexed) =
    if l.status = .opened ∨ l.onTrack = true then l
    else { l with onTrack := true, length := some (max 1 (min l.travel 65535)) } := by
  unfold Lot.indexed
  by_cases opened : l.status = .opened
  · rw [if_pos opened, if_pos (.inl opened)]
  · by_cases track : l.onTrack = true
    · rw [if_neg opened, if_pos track, if_pos (.inr track)]
    · rw [if_neg opened, if_neg track, if_neg (not_or.2 ⟨opened, track⟩)]

/-- The event reaches the end of the INDEX that runs, its time used up (R115, R172). -/
theorem exec_indexComplete {s : State} (awake : s.awake = true) (runs : s.seq.runs .index = true) :
    exec .indexComplete s =
      .next ((({ s.cleared with seq := s.seq.spendRunning } : State).finishIndex).concluded s.seq) := by
  have takes : (s.cleared.awake && s.cleared.seq.runs .index) = true := Bool.and_eq_true_iff.2 ⟨awake, runs⟩
  refine congrArg Host.Outcome.next ((event_of_running _ (notReset_of_awake awake)).trans ?_)
  exact congrArg (State.concluded s.seq) (if_pos takes)

/-- Settles O31: the INDEX ends as any running operation, and `indexed_eq` says what that makes of each lot. -/
theorem indexCompletes : Obligations.IndexCompletes := by
  intro s awake runs
  have spent : ({ s.cleared with seq := s.seq.spendRunning } : State).seq.runs .index = true :=
    (runs_spendRunning s.seq .index).trans runs
  obtain ⟨seq, completed⟩ := completeOp_of_runs spent
  have discharge := congrArg (fun t : State => t.discharge) completed
  have finished : ({ s.cleared with seq := s.seq.spendRunning } : State).finishIndex =
      (({ s.cleared with seq := s.seq.spendRunning } : State).completeOp .index).mapLots
        (fun l => if l.status = .opened then l else l.indexed) := if_pos spent
  refine ⟨_, exec_indexComplete awake runs, ?_, ?_, ?_⟩
  · have lots := funext indexed_eq
    rw [finished, lots]
    exact congrArg (fun d : DischargeState => { d with lots := d.lots.map (fun l : Lot =>
      if l.status = LotStatus.opened ∨ l.onTrack = true then l
      else { l with onTrack := true, length := some (max 1 (min l.travel 65535)) }) }) discharge
  · rw [finished]
    exact seq
  · rw [finished]
    exact congrArg (fun t : State => { t with discharge := s.discharge, seq := s.seq, reports := [] }) completed

end Sys2Proof.Machine
end


section
/-! O40: the strobes of the field lines. -/

namespace Sys2Proof.Machine

/-! ## The OPEN lot sealed (R113, R166) -/

theorem requestCapture_eq (s : State) (ch : Fin 4) : s.requestCapture ch = { s with
    measure := { s.measure with capture := if s.measure.capture = .empty then .pending ch else s.measure.capture }
    reports := s.reports ++ [if s.measure.capture = .empty then .captureAccepted else .captureBusy] } := by
  unfold State.requestCapture
  split
  · rename_i empty
    rw [if_pos empty, if_pos empty]
    rfl
  · rename_i other
    rw [if_neg other, if_neg other]
    rfl

theorem hasOpen_iff {lots : List Lot} : hasOpen lots = true ↔ ∃ l ∈ lots, l.status = .opened := by
  simp [hasOpen]

/-- What a seal makes of the station: the OPEN lot's state, reason and running volume, and the capture for its volume. -/
theorem sealOpen_eq (s : State) (why : SealReason) : s.sealOpen why =
    if ∃ l ∈ s.discharge.lots, l.status = .opened then
      { s with
        discharge := { s.discharge with lots := s.discharge.lots.map (fun l =>
          if l.status = .opened then { l with status := .sealed, sealReason := some why, running := none } else l) }
        measure := { s.measure with
          capture := if s.measure.capture = .empty then .pending 0 else s.measure.capture }
        reports := s.reports ++ [if s.measure.capture = .empty then .captureAccepted else .captureBusy] }
    else s := by
  unfold State.sealOpen
  by_cases opened : ∃ l ∈ s.discharge.lots, l.status = .opened
  · rw [if_pos (hasOpen_iff.2 opened), if_pos opened, requestCapture_eq]
    rfl
  · rw [if_neg (fun h => opened (hasOpen_iff.1 h)), if_neg opened]

/-! ## The strobes -/

section
variable {s : State}

/-- A strobe at an awake station of its role applies its effect. -/
theorem event_of_role (awake : s.awake = true) {r : Role} (role : s.cfg.role = r) (f : State → State) :
    s.event (fun s => if s.actsAs r then f s else s) = (f s.cleared).concluded s.seq := by
  have acts : s.cleared.actsAs r = true := Bool.and_eq_true_iff.2 ⟨awake, beq_iff_eq.2 role⟩
  exact (event_of_running _ (notReset_of_awake awake)).trans (congrArg (State.concluded s.seq) (if_pos acts))

/-- At a station asleep or of another role it does nothing. -/
theorem event_of_other (awake : s.inReset = false) {r : Role} (other : s.awake = false ∨ s.cfg.role ≠ r)
    (f : State → State) : s.event (fun s => if s.actsAs r then f s else s) = s.cleared.concluded s.seq := by
  have still : ¬s.cleared.actsAs r = true := fun acts => by
    obtain ⟨up, role⟩ := Bool.and_eq_true_iff.1 acts
    rcases other with asleep | other
    · exact Bool.noConfusion (asleep.symm.trans up)
    · exact other (beq_iff_eq.1 role)
  exact (event_of_running _ awake).trans (congrArg (State.concluded s.seq) (if_neg still))

/-- The class code lines with a new code (R111). -/
def State.withCode (s : State) (code : BitVec 3) : State := { s with pins := { s.pins with classCode := code } }

/-- A class code is taken at once, and then judged as a strobe where it is a change. -/
theorem exec_classCodeChange (code : BitVec 3) : exec (.classCodeChange code) s =
    .next ((s.withCode code).event (fun x =>
      if x.actsAs .discharge then (if s.pins.classCode = code then x else x.sealOpen .classChange) else x)) := by
  refine congrArg (fun f => Host.Outcome.next ((s.withCode code).event f)) (funext fun x => ?_)
  by_cases same : s.pins.classCode = code
  · simp [same]
  · simp [same]

theorem withCode_same {code : BitVec 3} (same : s.pins.classCode = code) : s.withCode code = s := by
  subst same
  rfl

/-- The GATE of a bin exchanged goes out where the station may send one (R152, R155). -/
theorem requestGate_eq (x : State) : x.requestGate = if x.trunk.line = .active ∧
    (x.sync.status = .syncing ∨ x.sync.status = .synced ∨ x.sync.status = .diverged)
    then x.request .gate .role true else x := by
  unfold State.requestGate
  by_cases sends : x.mayGate = true
  · rw [if_pos sends, if_pos ((mayGate_iff x).1 sends)]
  · rw [if_neg sends, if_neg (fun h => sends ((mayGate_iff x).2 h))]

end

/-- Settles O40: `sealOpen_eq` says what a seal is, and each strobe is one event of a station of its role. -/
theorem fieldStrobes : Obligations.FieldStrobes := by
  refine ⟨fun s => ⟨sealOpen_eq s, fun awake role => ⟨?_, fun code => ?_⟩, fun reset other => ⟨?_, fun code => ?_⟩,
    fun awake role bin real => ?_, fun reset => ?_, fun bin reset other => ?_⟩,
    fun s ch => ⟨fun empty => ?_, fun busy => ?_⟩⟩
  · refine congrArg Host.Outcome.next ((event_of_role awake role _).trans ?_)
    exact congrArg (State.concluded s.seq) (sealOpen_eq s.cleared .lotEnd)
  · rw [exec_classCodeChange, event_of_role (s := s.withCode code) awake role]
    by_cases same : s.pins.classCode = code
    · rw [if_pos same, if_pos same, withCode_same same]
    · rw [if_neg same, if_neg same, sealOpen_eq]
      rfl
  · exact congrArg Host.Outcome.next (event_of_other reset other _)
  · rw [exec_classCodeChange, event_of_other (s := s.withCode code) reset other]
    rfl
  · have swapped : s.cleared.swapBin bin.toNat = (s.cleared.mapCrusher (fun c => { c with
        fills := c.fills.set (bin.toNat - 1) 0
        holds := c.holds &&& ~~~(BitVec.twoPow 7 (bin.toNat - 1)) })).requestGate :=
      if_pos ⟨real, by have := bin.isLt; omega⟩
    refine congrArg Host.Outcome.next ((event_of_role awake role _).trans ?_)
    rw [swapped, requestGate_eq]
    rfl
  · have none : ∀ x : State, x.swapBin (0 : BitVec 3).toNat = x := fun x => if_neg (by decide)
    have idle : ∀ x : State, (if x.actsAs .crusher then x.swapBin (0 : BitVec 3).toNat else x) = x := by
      intro x
      rw [none, ite_self]
    exact congrArg Host.Outcome.next ((event_of_running _ reset).trans (congrArg (State.concluded s.seq) (idle _)))
  · exact congrArg Host.Outcome.next (event_of_other reset other _)
  · simp [State.requestCapture, empty]
    rfl
  · rw [requestCapture_eq, if_neg busy, if_neg busy]

end Sys2Proof.Machine
end


section
/-! O41: JAM_CLEAR and CLEAR FAULT. -/

namespace Sys2Proof.Machine

/-- A crusher RUNNING with its attempts and their interval forgotten (R161). -/
def CrusherState.calmed (c : CrusherState) : CrusherState :=
  { c with mode := .running, attempts := 0, recurrence := none }

section
variable {s : State}

/-! ## A jam cleared (R161) -/

theorem clearJam_running (running : s.crusher.mode = .running) :
    s.clearJam = { s with crusher := s.crusher.calmed } := by
  have calm : { s.crusher with attempts := 0, recurrence := none } = s.crusher.calmed := by
    rw [CrusherState.calmed, ← running]
  unfold State.clearJam State.mapCrusher
  rw [running]
  exact congrArg (fun c => ({ s with crusher := c } : State)) calm

/-- Out of JAMMED and REVERSING the REVERSE is withdrawn where there is one, and the hall told. -/
theorem clearJam_stopped (stopped : s.crusher.mode ≠ .running) : s.clearJam =
    ((if s.crusher.mode = .reversing then s.cancelOp .reverse else s).mapCrusher CrusherState.calmed).tellHall := by
  cases mode : s.crusher.mode with
  | running => exact absurd mode stopped
  | reversing => simp only [State.clearJam, mode]; rfl
  | jammed => simp only [State.clearJam, mode]; rfl

theorem crusher_clearJam (stopped : s.crusher.mode ≠ .running) : s.clearJam.crusher = s.crusher.calmed := by
  rw [clearJam_stopped stopped, (chores_tellHall _).clerical.crusher_eq]
  split <;> rfl

theorem seq_clearJam (role : s.cfg.role = .crusher) (stopped : s.crusher.mode ≠ .running) : s.clearJam.seq =
    if s.crusher.mode = .reversing then (s.seq.cancel .reverse).seq else s.seq := by
  rw [clearJam_stopped stopped, (spares_tellHall _).seq]
  · split <;> rfl
  · split <;> exact role

/-! ## CLEAR FAULT (R129, R143, R161, R189) -/

/-- CLEAR FAULT at a station that answers it, and one that refuses it. -/
theorem exec_clearFault (awake : s.awake = true) : exec .clearFault s =
    .next ((s.cleared.doClearFault.1.transact 0 [] s.cleared.doClearFault.2).concluded s.seq) :=
  congrArg Host.Outcome.next (command_of_open 0 _ (notReset_of_awake awake) (open_of_awake awake))

theorem doClearFault_discharge (role : s.cfg.role = .discharge) : s.doClearFault =
    s.when (s.discharge.beltFault && !s.channelIs 1 .above)
      (fun s => { s with discharge := { s.discharge with beltFault := false } }) := by
  unfold State.doClearFault
  rw [role]

theorem doClearFault_filter (role : s.cfg.role = .filter) : s.doClearFault =
    s.when (s.filter.mode == .fault) (fun s => s.mapFilter (fun u => { u with mode := .online })) := by
  unfold State.doClearFault
  rw [role]

theorem doClearFault_crusher (role : s.cfg.role = .crusher) :
    s.doClearFault = s.when (s.crusher.mode != .running) State.clearJam := by
  unfold State.doClearFault
  rw [role]

theorem when_pos {c : Bool} (h : c = true) (f : State → State) : s.when c f = (f s, .ok) := if_pos h

theorem when_neg {c : Bool} (h : ¬c = true) (f : State → State) : s.when c f = (s, .refusedState) := if_neg h

/-- CLEAR FAULT where the role's condition holds. -/
theorem exec_clearFault_ok (awake : s.awake = true) {c : Bool} {f : State → State}
    (does : s.cleared.doClearFault = s.cleared.when c f) (holds : c = true) :
    exec .clearFault s = .next (((f s.cleared).transact 0 [] .ok).concluded s.seq) := by
  rw [exec_clearFault awake, does, when_pos holds]

theorem exec_clearFault_refused (awake : s.awake = true) {c : Bool} {f : State → State}
    (does : s.cleared.doClearFault = s.cleared.when c f) (fails : ¬c = true) :
    exec .clearFault s = .next ((s.cleared.transact 0 [] .refusedState).concluded s.seq) := by
  rw [exec_clearFault awake, does, when_neg fails]

end

/-- Settles O41, by the role: `clearJam_running`, `crusher_clearJam` and `seq_clearJam` say what a jam cleared is. -/
theorem faultsCleared : Obligations.FaultsCleared := by
  intro s awake
  refine ⟨fun role => ⟨fun running => ?_, fun stopped => ?_⟩, fun other => ?_,
    fun role => ⟨fun faulty clear => ?_, fun calm => ?_⟩, fun role => ⟨fun faulty => ?_, fun fine => ?_⟩⟩
  · refine ⟨congrArg Host.Outcome.next ((event_of_role awake role _).trans ?_), ?_⟩
    · exact congrArg (State.concluded s.seq) (clearJam_running (s := s.cleared) running)
    · exact exec_clearFault_refused awake (doClearFault_crusher (s := s.cleared) role)
        (fun h => bne_iff_ne.1 h running)
  · exact ⟨_, congrArg Host.Outcome.next (event_of_role awake role _),
      exec_clearFault_ok awake (doClearFault_crusher (s := s.cleared) role) (bne_iff_ne.2 stopped),
      untouched_clearJam _, crusher_clearJam (s := s.cleared) stopped, seq_clearJam (s := s.cleared) role stopped⟩
  · exact congrArg Host.Outcome.next (event_of_other (notReset_of_awake awake) (.inr other) _)
  · refine exec_clearFault_ok awake (doClearFault_discharge (s := s.cleared) role) ?_
    exact Bool.and_eq_true_iff.2 ⟨faulty, congrArg not clear⟩
  · refine exec_clearFault_refused awake (doClearFault_discharge (s := s.cleared) role) fun h => ?_
    obtain ⟨faulty, clear⟩ := Bool.and_eq_true_iff.1 h
    rcases calm with whole | above
    · exact Bool.noConfusion (whole.symm.trans faulty)
    · exact Bool.noConfusion ((congrArg not above).symm.trans clear)
  · exact exec_clearFault_ok awake (doClearFault_filter (s := s.cleared) role) (beq_iff_eq.2 faulty)
  · exact exec_clearFault_refused awake (doClearFault_filter (s := s.cleared) role) fun h => fine (beq_iff_eq.1 h)

end Sys2Proof.Machine
end


section
/-! O49: LOT CLOSE, FLUSH NOW and the posting of a flush claim. -/

namespace Sys2Proof.Machine

section
variable {s : State}

/-! ## The flush request under a request (R88, R146) -/

theorem flushRequest_claimFate (id : Byte) (f : Fate) (u : FilterState) :
    (u.claimFate id f).flushRequest = u.flushRequest := by
  unfold FilterState.claimFate
  split
  · cases f <;> rfl
  · rfl

theorem flushRequest_doneFate (b : DoneBody) (f : Fate) (u : FilterState) :
    (u.doneFate b f).flushRequest = u.flushRequest := by
  unfold FilterState.doneFate
  split
  · split <;> rfl
  · rfl

/-- No fate touches the flush request. -/
theorem flushRequest_deliver (s : State) (who : Block) (b : QBody) (f : Fate) :
    (s.deliver who b f).filter.flushRequest = s.filter.flushRequest := by
  unfold State.deliver
  dsimp only
  split
  · unfold State.claimFate
    split
    · rfl
    · exact flushRequest_claimFate _ _ _
    · rfl
  · unfold State.doneFate
    split
    · rfl
    · exact flushRequest_doneFate _ _ _
    · rfl
  · rfl
  · rfl

theorem flushRequest_deliverAll (l : List (Block × QBody × Fate)) (s : State) :
    (s.deliverAll l).filter.flushRequest = s.filter.flushRequest := by
  induction l generalizing s with
  | nil => rfl
  | cons x l ih => exact (ih _).trans (flushRequest_deliver s _ _ _)

theorem flushRequest_request (s : State) (b : QBody) (who : Block) (u : Bool) :
    (s.request b who u).filter.flushRequest = s.filter.flushRequest :=
  (flushRequest_deliver _ who b _).trans (flushRequest_deliverAll _ _)

/-! ## The rank a claim carries (R139, R146) -/

/-- The filter's claim carries a rank worse than 1: posted at one, or CLAIMED with one in the own table. -/
def State.ranksWorse (s : State) (id : Byte) : Prop :=
  if s.filter.mode = .online then 1 < s.filter.postedRank
  else ∃ c, s.ownClaim id = some c ∧ 1 < c.effective

/-- FLUSH NOW's request, its mark set (R146). -/
def State.flushMarked (s : State) : State := { s with filter := { s.filter with flushRequest := true } }

theorem rerank_of_claimless (none : s.filter.claimId = none) (rank : Nat) : s.rerank rank = s := by
  unfold State.rerank State.carriedRank
  rw [none]

theorem rerank_of_carried {id : Byte} {carried rank : Nat} (h : s.carriedRank = some (id, carried)) :
    s.rerank rank = if rank < carried then
      (s.mapFilter (fun u => { u with postedRank := rank })).request (.claim (s.flushClaim id rank)) .role else s := by
  unfold State.rerank
  rw [h]

theorem rerank_of_uncarried (h : s.carriedRank = none) (rank : Nat) : s.rerank rank = s := by
  unfold State.rerank
  rw [h]

/-- A claim that carries a rank worse than 1 is requested again at rank 1, and any other is left. -/
theorem rerank_one {id : Byte} (claim : s.filter.claimId = some id)
    (may : s.filter.mode = .online ∨ s.filter.mode = .claimed) :
    (s.ranksWorse id → s.rerank 1 =
      (s.mapFilter (fun u => { u with postedRank := 1 })).request (.claim (s.flushClaim id 1)) .role) ∧
    (¬s.ranksWorse id → s.rerank 1 = s) := by
  unfold State.ranksWorse
  rcases may with online | claimed
  · have carried : s.carriedRank = some (id, s.filter.postedRank) := by
      unfold State.carriedRank
      rw [claim, online]
    rw [if_pos online, rerank_of_carried carried]
    exact ⟨fun worse => if_pos worse, fun fine => if_neg fine⟩
  · have carried : s.carriedRank = (s.ownClaim id).map (fun c => (id, c.effective)) := by
      unfold State.carriedRank
      rw [claim, claimed]
    rw [if_neg (by rw [claimed]; nofun)]
    cases own : s.ownClaim id with
    | none =>
      rw [own] at carried
      exact ⟨fun ⟨_, missing, _⟩ => (nomatch missing), fun _ => rerank_of_uncarried carried 1⟩
    | some c =>
      rw [own] at carried
      rw [rerank_of_carried carried]
      refine ⟨fun ⟨_, same, worse⟩ => ?_, fun fine => if_neg fun worse => fine ⟨c, rfl, worse⟩⟩
      obtain rfl := Option.some.inj same
      exact if_pos worse

/-! ## The commands by role (R189) -/

theorem doLotClose_discharge (role : s.cfg.role = .discharge) :
    s.doLotClose = s.when (hasOpen s.discharge.lots) (fun s => s.sealOpen .port) := by
  unfold State.doLotClose
  rw [role]

theorem doLotClose_other (role : s.cfg.role ≠ .discharge) : s.doLotClose = (s, .refusedRole) := by
  unfold State.doLotClose
  split
  · contradiction
  · rfl

theorem doFlushNow_filter (role : s.cfg.role = .filter) : s.doFlushNow =
    s.when ((s.filter.mode == .online || s.filter.mode == .claimed) && !s.filter.held) State.flushSoon := by
  unfold State.doFlushNow
  rw [role]

theorem doFlushNow_other (role : s.cfg.role ≠ .filter) : s.doFlushNow = (s, .refusedRole) := by
  unfold State.doFlushNow
  split
  · contradiction
  · rfl

/-- A command of a station that is open, told its outcome. -/
theorem command_of_outcome {f : State → State × PortResult} (reset : s.inReset = false) (open_ : s.closed = false)
    {t : State} {r : PortResult} (does : f s.cleared = (t, r)) :
    s.command 0 f = (t.transact 0 [] r).concluded s.seq := by
  rw [command_of_open 0 f reset open_, does]

/-! ## The posting of a flush (R137) -/

theorem mayPostFlush_iff : s.mayPostFlush = true ↔ s.filter.mode = .online ∧ s.filter.claimId = none ∧
    s.filter.refused = false ∧ s.filter.pending = none ∧ (s.filter.band ≠ .normal ∨ s.filter.flushRequest = true) ∧
    s.sync.status = .synced ∧ s.trunk.line = .active ∧ (s.filter.held = false ∨ s.filter.band = .bypass) ∧
    s.mode.supply = .normal ∧ (s.mode.mode = .run ∨ s.mode.mode = .quiet) := by
  simp [State.mayPostFlush, State.working, State.lineActive, and_assoc]

theorem closeBypass_eq (s : State) : s.mapFilter FilterState.closeBypass =
    if s.filter.bypassOpen = true ∧ s.filter.cleaned = true ∧ s.filter.band = .normal then
      { s with filter := { s.filter with bypassOpen := false, cleaned := false } } else s := by
  unfold State.mapFilter FilterState.closeBypass
  split <;> rfl

theorem flushRank_eq (s : State) : s.flushRank = if s.filter.flushRequest then min (s.bandRank.getD 1) 1
    else s.bandRank.getD 1 := by
  unfold State.flushRank
  cases s.bandRank with
  | none => simp
  | some r => rfl

end

/-- Settles O49: each command by its role, `rerank_one` for a claim held, and the posting as `mayPostFlush_iff` has it. -/
theorem lotCloseAndFlushNow : Obligations.LotCloseAndFlushNow := by
  refine ⟨fun s reset open_ => ⟨fun role => ⟨fun opened => ?_, fun none => ?_⟩, fun role => ?_,
    fun role => ⟨fun may => ?_, fun may => ?_⟩, fun role => ?_⟩, fun s => ⟨fun may => ?_, fun may => ?_⟩,
    fun s ran role => ?_⟩
  · have does := (doLotClose_discharge (s := s.cleared) role).trans (when_pos (hasOpen_iff.2 opened) _)
    have sealed := (sealOpen_eq s.cleared .port).trans (if_pos opened)
    rw [sealed] at does
    exact congrArg Host.Outcome.next (command_of_outcome reset open_ does)
  · have closed : ¬hasOpen s.cleared.discharge.lots = true := fun h => by
      obtain ⟨l, mem, opened⟩ := hasOpen_iff.1 h
      exact none l mem opened
    exact congrArg Host.Outcome.next (command_of_outcome reset open_
      ((doLotClose_discharge (s := s.cleared) role).trans (when_neg closed _)))
  · exact congrArg Host.Outcome.next (command_of_outcome reset open_ (doLotClose_other (s := s.cleared) role))
  · have accepts : ((s.filter.mode == .online || s.filter.mode == .claimed) && !s.filter.held) = true := by
      simpa using may
    have does := (doFlushNow_filter (s := s.cleared) role).trans (when_pos accepts State.flushSoon)
    have makes : ∀ t, s.cleared.flushSoon = t → exec .flushNow s = .next ((t.transact 0 [] .ok).concluded s.seq) :=
      fun t same => congrArg Host.Outcome.next (command_of_outcome reset open_ (same ▸ does))
    refine ⟨fun claimless => makes _ (rerank_of_claimless (s := s.cleared.flushMarked) claimless 1), fun id claim => ?_⟩
    obtain ⟨again, left⟩ := rerank_one (s := s.cleared.flushMarked) claim may.1
    refine ⟨fun worse => ⟨makes _ (again worse), ?_, ?_, request_seq _ _ _ _⟩, fun fine => makes _ (left fine)⟩
    · exact flushRequest_request _ _ _ _
    · exact (congrArg (fun t : State => t.table.claims) (request_frame _ _ _ _)).trans rfl
  · have refuses : ¬((s.filter.mode == .online || s.filter.mode == .claimed) && !s.filter.held) = true := by
      simpa using may
    exact congrArg Host.Outcome.next (command_of_outcome reset open_
      ((doFlushNow_filter (s := s.cleared) role).trans (when_neg refuses _)))
  · exact congrArg Host.Outcome.next (command_of_outcome reset open_ (doFlushNow_other (s := s.cleared) role))
  · have rank : s.bandRank.getD 1 = (match s.filter.band with
        | .normal => 1 | .flush => s.cfg.fil.baseRank | .urgent => 1 | .bypass => 0) := by
      unfold State.bandRank
      cases s.filter.band <;> rfl
    have posts : s.postFlush = _ := if_pos (mayPostFlush_iff.2 may)
    rw [posts, flushRank_eq, rank]
    rfl
  · exact if_neg fun h => may (mayPostFlush_iff.1 h)
  · unfold State.settleRole
    rw [role]
    exact congrArg State.postFlush (closeBypass_eq s)

end Sys2Proof.Machine
end


section
/-! SUPPORT. What requests, withdrawals and the short end of a discharge make of the lots (R118, R119, R122, R131). -/

namespace Sys2Proof.Machine

/-! ## One lot -/

/-- A lot that requests and withdrawals may have returned: it may lose its claim, and its window and state with it, and
nothing else of it moves; one that is discharging, has no claim, or is still COMMITTED in the end is as it was. -/
structure Lot.Returns (l k : Lot) : Prop where
  frame : { k with status := l.status, claimId := l.claimId, discharge := l.discharge, refused := l.refused } = l
  claim : k.claimId = l.claimId ∨ k.claimId = none
  discharging : l.status = .discharging → k = l
  free : l.claimId = none → k = l
  committed : k.status = .committed → k = l

theorem Lot.Returns.refl (l : Lot) : l.Returns l := ⟨rfl, .inl rfl, fun _ => rfl, fun _ => rfl, fun _ => rfl⟩

theorem Lot.Returns.trans {a b c : Lot} (h : a.Returns b) (k : b.Returns c) : a.Returns c where
  frame := (congrArg (fun l : Lot => { l with
    status := a.status, claimId := a.claimId, discharge := a.discharge, refused := a.refused }) k.frame).trans h.frame
  claim := k.claim.elim (fun same => same ▸ h.claim) .inr
  discharging busy := by
    obtain rfl := h.discharging busy
    exact k.discharging busy
  free none := by
    obtain rfl := h.free none
    exact k.free none
  committed still := by
    obtain rfl := k.committed still
    exact h.committed still

theorem Lot.returns_claimFate (l : Lot) (id : Byte) (f : Fate) : l.Returns (l.claimFate id f) := by
  unfold Lot.claimFate
  split
  · rename_i posted
    obtain ⟨named, sealed⟩ := posted
    cases f <;>
      exact ⟨rfl, by simp, by simp [sealed], by simp [named], by simp [sealed]⟩
  · exact .refl l

/-- A withdrawal returns the lot that it names, unless that is discharging (R119). -/
theorem Lot.returns_unclaim (l : Lot) (id : Byte) :
    l.Returns (if l.claimId = some id ∧ l.status ≠ .discharging then l.unclaim else l) := by
  split
  · rename_i named
    exact ⟨rfl, .inr rfl, fun busy => absurd busy named.2, fun none => by simp [named.1] at none, nofun⟩
  · exact .refl l

/-- A lot that keeps its age, and is as it was if it is COMMITTED. -/
structure Lot.Keeps (l k : Lot) : Prop where
  age : k.age = l.age
  committed : k.status = .committed → k = l

theorem Lot.Returns.keeps {l k : Lot} (h : l.Returns k) : l.Keeps k :=
  ⟨(congrArg Lot.age h.frame.symm).symm, h.committed⟩

theorem Lot.Keeps.trans {a b c : Lot} (h : a.Keeps b) (k : b.Keeps c) : a.Keeps c where
  age := k.age.trans h.age
  committed still := by
    obtain rfl := k.committed still
    exact h.committed still

/-! ## All of them -/

theorem forall₂_trans {α : Type} {R : α → α → Prop} (trans : ∀ a b c, R a b → R b c → R a c) {l m n : List α}
    (h : List.Forall₂ R l m) (k : List.Forall₂ R m n) : List.Forall₂ R l n := by
  induction h generalizing n with
  | nil => exact k
  | cons first _ ih =>
    cases k with
    | cons then_ rest => exact .cons (trans _ _ _ first then_) (ih rest)

theorem forall₂_map {α : Type} {R : α → α → Prop} {f : α → α} (h : ∀ a, R a (f a)) (l : List α) :
    List.Forall₂ R l (l.map f) :=
  List.forall₂_map_right_iff.2 (List.forall₂_same.2 fun a _ => h a)

/-- Every member of the right list stands for one of the left. -/
theorem exists_of_forall₂ {α : Type} {R : α → α → Prop} {l m : List α} (h : List.Forall₂ R l m) {b : α} (mem : b ∈ m) :
    ∃ a ∈ l, R a b := by
  induction h with
  | nil => nomatch mem
  | cons first _ ih =>
    obtain rfl | later := List.mem_cons.1 mem
    · exact ⟨_, List.mem_cons_self, first⟩
    · obtain ⟨a, mem, related⟩ := ih later
      exact ⟨a, List.mem_cons_of_mem _ mem, related⟩

/-- Requests and withdrawals move lots and pending DONEs of the discharge unit, the lots as `Lot.Returns` says. -/
structure LotsReturn (s t : State) : Prop where
  lots : List.Forall₂ Lot.Returns s.discharge.lots t.discharge.lots
  frame : { t.discharge with lots := s.discharge.lots, pending := s.discharge.pending } = s.discharge

theorem LotsReturn.of_eq {s t : State} (h : t.discharge = s.discharge) : LotsReturn s t := by
  constructor
  · rw [h]
    exact List.forall₂_same.2 fun l _ => .refl l
  · rw [h]

theorem LotsReturn.trans {a b c : State} (h : LotsReturn a b) (k : LotsReturn b c) : LotsReturn a c where
  lots := forall₂_trans (R := Lot.Returns) (fun _ _ _ => .trans) h.lots k.lots
  frame := (congrArg (fun d : DischargeState => { d with
    lots := a.discharge.lots, pending := a.discharge.pending }) k.frame).trans h.frame

theorem LotsReturn.progress_eq {s t : State} (h : LotsReturn s t) : t.discharge.progress = s.discharge.progress := by
  rw [← h.frame]

theorem LotsReturn.beltFault_eq {s t : State} (h : LotsReturn s t) : t.discharge.beltFault = s.discharge.beltFault := by
  rw [← h.frame]

theorem lotsReturn_deliver (s : State) (who : Block) (b : QBody) (f : Fate) : LotsReturn s (s.deliver who b f) := by
  unfold State.deliver
  dsimp only
  split
  · unfold State.claimFate
    split
    · exact ⟨forall₂_map (fun l => l.returns_claimFate _ f) _, rfl⟩
    · exact .of_eq rfl
    · exact .of_eq rfl
  · unfold State.doneFate
    split
    · exact ⟨List.forall₂_same.2 fun l _ => .refl l, rfl⟩
    · exact .of_eq rfl
    · exact .of_eq rfl
  · exact .of_eq rfl
  · exact .of_eq rfl

theorem lotsReturn_deliverAll (l : List (Block × QBody × Fate)) (s : State) : LotsReturn s (s.deliverAll l) := by
  induction l generalizing s with
  | nil => exact .of_eq rfl
  | cons x l ih => exact (lotsReturn_deliver s _ _ _).trans (ih _)

theorem lotsReturn_request (s : State) (b : QBody) (who : Block) (u : Bool) : LotsReturn s (s.request b who u) := by
  have queued : LotsReturn s (s.setQueue (s.settleOf b who u).queue) := .of_eq rfl
  exact (queued.trans (lotsReturn_deliverAll _ _)).trans (lotsReturn_deliver _ _ _ _)

theorem lotsReturn_withdrawLot (s : State) (id : Byte) : LotsReturn s (s.withdrawLot id) := by
  have unclaimed : LotsReturn s (s.mapLots fun l =>
      if l.claimId = some id ∧ l.status ≠ .discharging then l.unclaim else l) :=
    ⟨forall₂_map (fun l => l.returns_unclaim id) _, rfl⟩
  exact unclaimed.trans (lotsReturn_request _ _ _ _)

theorem lotsReturn_withdrawLots (ids : List Byte) (s : State) : LotsReturn s (s.withdrawLots ids) := by
  induction ids generalizing s with
  | nil => exact .of_eq rfl
  | cons id ids ih => exact (lotsReturn_withdrawLot s id).trans (ih _)

/-! ## The claims withdrawn (R119) -/

/-- No lot but a discharging one has the claim. -/
def State.returned (s : State) (id : Byte) : Prop :=
  ∀ l ∈ s.discharge.lots, l.claimId = some id → l.status = .discharging

theorem LotsReturn.returned {s t : State} (h : LotsReturn s t) {id : Byte} (gone : s.returned id) : t.returned id := by
  intro k mem named
  obtain ⟨l, was, returns⟩ := exists_of_forall₂ h.lots mem
  have busy := gone l was (returns.claim.elim (fun same => same ▸ named) fun none => by simp [none] at named)
  rw [returns.discharging busy, busy]

theorem returned_withdrawLot (s : State) (id : Byte) : (s.withdrawLot id).returned id := by
  refine (lotsReturn_request _ _ _ _).returned fun l mem named => ?_
  obtain ⟨k, _, rfl⟩ := List.mem_map.1 mem
  by_contra other
  split at named
  · simp [Lot.unclaim] at named
  · rename_i kept
    rw [if_neg kept] at other
    exact kept ⟨named, other⟩

theorem returned_withdrawLots {ids : List Byte} {id : Byte} (mem : id ∈ ids) (s : State) :
    (s.withdrawLots ids).returned id := by
  induction ids generalizing s with
  | nil => nomatch mem
  | cons x ids ih =>
    obtain rfl | later := List.mem_cons.1 mem
    · exact (lotsReturn_withdrawLots ids _).returned (returned_withdrawLot s id)
    · exact ih later _

/-! ## The short end of a discharge (R122, R125) -/

theorem endDischarge_of_idle {s : State} (idle : s.discharge.progress = none) : s.endDischarge = s := by
  unfold State.endDischarge
  rw [idle]

theorem endDischarge_of_empty {s : State} (empty : s.discharge.lots = []) : s.endDischarge = s := by
  unfold State.endDischarge
  rw [empty]
  split
  · contradiction
  · rfl

theorem progress_endDischarge {s : State} (role : s.cfg.role = .discharge) (lots : s.discharge.lots ≠ []) :
    s.endDischarge.discharge.progress = none := by
  cases idle : s.discharge.progress with
  | none => rw [endDischarge_of_idle idle, idle]
  | some p =>
    obtain ⟨l, k, split⟩ := List.exists_cons_of_ne_nil lots
    exact (endsShort_endDischarge role idle split).progress

/-- The discharge ended short and counted, its DONE pending and not yet requested. -/
def State.cutShort (s : State) (p : Discharging) (l : Lot) (r : List Lot) : State :=
  ({ (s.cancelOp .discharge) with discharge := { s.discharge with
    progress := none, lots := l.remainderOf p.travel (s.boundsOf l.cls).min :: r
    pending := s.discharge.pending ++ [⟨shortDone p l, false⟩] } } : State).countShort.raise .lotShort

theorem endDischarge_of_busy {s : State} {p : Discharging} {l : Lot} {r : List Lot}
    (progress : s.discharge.progress = some p) (lots : s.discharge.lots = l :: r) :
    s.endDischarge = (s.cutShort p l r).request (.done (shortDone p l)) .role := by
  unfold State.endDischarge
  simp only [progress, lots]
  rfl

/-- The discharge unit with the lots, the discharge in progress and the pending DONEs of another. -/
def DischargeState.worked (d e : DischargeState) : DischargeState :=
  { d with lots := e.lots, progress := e.progress, pending := e.pending }

theorem LotsReturn.worked {s t : State} (h : LotsReturn s t) (e : DischargeState) :
    t.discharge.worked e = s.discharge.worked e := by
  have moved := congrArg (fun d : DischargeState => d.worked e) h.frame
  exact moved

theorem worked_endDischarge (s : State) : s.endDischarge.discharge.worked s.discharge = s.discharge := by
  cases idle : s.discharge.progress with
  | none => rw [endDischarge_of_idle idle]; rfl
  | some p =>
    cases lots : s.discharge.lots with
    | nil => rw [endDischarge_of_empty lots]; rfl
    | cons l r =>
      rw [endDischarge_of_busy idle lots]
      exact ((lotsReturn_request _ _ _ _).worked _).trans rfl

/-- The head becomes the remainder, and the lots keep their ages. -/
theorem keeps_endDischarge (s : State) : List.Forall₂ Lot.Keeps s.discharge.lots s.endDischarge.discharge.lots := by
  have still : List.Forall₂ Lot.Keeps s.discharge.lots s.discharge.lots :=
    List.forall₂_same.2 fun l _ => (Lot.Returns.refl l).keeps
  cases idle : s.discharge.progress with
  | none => rwa [endDischarge_of_idle idle]
  | some p =>
    cases lots : s.discharge.lots with
    | nil => rwa [endDischarge_of_empty lots, lots, ← lots]
    | cons l r =>
      rw [lots] at still
      have cut : List.Forall₂ Lot.Keeps (l :: r) (s.cutShort p l r).discharge.lots :=
        .cons ⟨rfl, nofun⟩ (List.forall₂_cons.1 still).2
      rw [endDischarge_of_busy idle lots]
      exact forall₂_trans (R := Lot.Keeps) (fun _ _ _ => .trans) cut
        ((lotsReturn_request _ _ _ _).lots.imp fun _ _ => Lot.Returns.keeps)

end Sys2Proof.Machine
end


section
/-! SUPPORT. BELT_FAULT at a discharge station (R128) and a jam at a crusher (R158, R160), each as the event that finds it
leaves the unit. -/

namespace Sys2Proof.Machine

/-! ## BELT_FAULT (R128) -/

/-- A discharge station in BELT_FAULT, entered from `s`: flagged, no discharge in progress, and no lot but a discharging
one with a claim. -/
structure Faulted (s t : State) : Prop where
  untouched : Untouched s t
  fault : t.discharge.beltFault = true
  raised : t.port.flags.getLsbD 6 = true
  progress : s.discharge.lots ≠ [] → t.discharge.progress = none
  claims : ∀ l ∈ t.discharge.lots, l.status = .discharging ∨ l.claimId = none
  measure : t.measure = s.measure

theorem Clerical.measure_eq {s t : State} (h : Clerical s t) : t.measure = s.measure := by
  have measure := congrArg State.measure h
  exact measure

/-- The withdrawal of every claim but that of a discharging lot leaves no other (R119). -/
theorem claimless_withdrawLots (s : State) :
    ∀ l ∈ (s.withdrawLots s.allUnstarted).discharge.lots, l.status = .discharging ∨ l.claimId = none := by
  intro k mem
  obtain ⟨l, was, returns⟩ := exists_of_forall₂ (lotsReturn_withdrawLots s.allUnstarted s).lots mem
  by_cases busy : l.status = .discharging
  · exact .inl (returns.discharging busy ▸ busy)
  cases named : k.claimId with
  | none => exact .inr rfl
  | some id =>
    have had : l.claimId = some id := returns.claim.elim (fun same => same ▸ named) fun none => by simp [none] at named
    have listed : id ∈ s.allUnstarted := List.mem_append_left _
      (List.mem_filterMap.2 ⟨l, List.mem_filter.2 ⟨was, by simp [busy]⟩, had⟩)
    exact .inl (returned_withdrawLots listed s k mem named)

theorem faulted_enterBeltFault {s : State} (role : s.cfg.role = .discharge) (sound : s.discharge.beltFault = false) :
    Faulted s s.enterBeltFault := by
  generalize hu : ({ s with discharge := { s.discharge with beltFault := true } } : State).endDischarge.cancelOp .index = u
  have entered : s.enterBeltFault = (u.withdrawLots u.allUnstarted).raise .beltFault := by
    rw [← hu]
    exact if_neg (Bool.eq_false_iff.1 sound)
  have returns := lotsReturn_withdrawLots u.allUnstarted u
  have worked := worked_endDischarge ({ s with discharge := { s.discharge with beltFault := true } } : State)
  have fault : u.discharge.beltFault = true := by
    rw [← hu]
    exact congrArg DischargeState.beltFault worked
  exact {
    untouched := untouched_enterBeltFault s
    fault := by rw [entered]; exact returns.beltFault_eq.trans fault
    raised := by
      rw [entered, raise_flags]
      simp [Attn.word, Attn.bit]
    progress := fun lots => by
      rw [entered]
      refine returns.progress_eq.trans ?_
      rw [← hu]
      exact progress_endDischarge (s := { s with discharge := { s.discharge with beltFault := true } }) role lots
    claims := by rw [entered]; exact claimless_withdrawLots u
    measure := by
      rw [entered]
      refine (chores_withdrawLots u _).clerical.measure_eq.trans ?_
      rw [← hu]
      exact (chores_endDischarge _).clerical.measure_eq }

/-! ## A jam (R158, R160) -/

/-- The attempts of a crusher that jams: counted on while the recurrence interval runs, and begun afresh without one. -/
def CrusherState.jams (c : CrusherState) : Nat := if c.recurrence.isSome then min (c.attempts + 1) 3 else 1

/-- A crusher that a jam has stopped: it reverses on the first two attempts and is JAMMED on the third. -/
structure Jammed (s t : State) : Prop where
  untouched : Untouched s t
  attempts : t.crusher.attempts = s.crusher.jams
  recurrence : t.crusher.recurrence = none
  reverses : s.crusher.jams < 3 → t.crusher.mode = .reversing ∧ t.seq.runs .reverse = true
  stuck : 3 ≤ s.crusher.jams → t.crusher.mode = .jammed ∧ t.port.flags.getLsbD 9 = true
  measure : t.measure = s.measure

/-- A request for an operation of a level above the running one's runs at once, and abandons nothing where that is below
level 2. -/
theorem request_over {q : SeqState} (lawful : q.lawful) {r o : Op} (running : q.running = some r) (low : r.level < 2)
    (above : r.level < o.level) : (q.request o).abandoned = none ∧ (q.request o).seq.running = some o := by
  have room := length_stack_of_lawful lawful running low
  unfold SeqState.request
  rw [running]
  dsimp only
  rw [if_pos above]
  simp [pushOp, room, SeqState.write]

theorem running_of_runs {q : SeqState} {k : OpKind} (runs : q.runs k = true) : ∃ r, q.running = some r ∧ r.kind = k := by
  unfold SeqState.runs at runs
  split at runs
  · rename_i r running
    exact ⟨r, running, eq_of_beq runs⟩
  · nomatch runs

theorem runs_of_running {q : SeqState} {r : Op} (running : q.running = some r) : q.runs r.kind = true := by
  unfold SeqState.runs
  rw [running]
  exact beq_self_eq_true _

/-- A REVERSE requested over a FEED runs at once (R160). -/
theorem requestOp_reverse {s : State} (lawful : s.seq.lawful) (feeds : s.seq.runs .feed = true) {o : Op}
    (kind : o.kind = .reverse) :
    s.requestOp o = s.takeSeq (s.seq.request o) ∧ (s.requestOp o).seq.runs .reverse = true := by
  obtain ⟨r, running, feed⟩ := running_of_runs feeds
  have low : r.level = 1 := congrArg OpKind.level feed
  have high : o.level = 3 := congrArg OpKind.level kind
  obtain ⟨kept, runs⟩ := request_over lawful running (o := o) (by omega) (by omega)
  have taken := requestOp_of_kept kept
  refine ⟨taken, ?_⟩
  rw [taken, ← kind]
  exact runs_of_running runs

/-- The attempt counted (R160). -/
def State.jamCounted (s : State) : State :=
  s.mapCrusher (fun c => { c with attempts := s.crusher.jams, recurrence := none })

theorem jam_of_feeding {s : State} (running : s.crusher.mode = .running) (feeds : s.seq.runs .feed = true) :
    s.jam = if s.crusher.jams < 3 then
        ((s.jamCounted.mapCrusher (fun c => { c with mode := .reversing })).requestOp s.reverseOp).tellHall
      else (((s.jamCounted.cancelOp .feed).mapCrusher (fun c => { c with mode := .jammed })).raise .jammed).tellHall :=
  if_pos ⟨running, feeds⟩

theorem jam_of_idle {s : State} (idle : s.crusher.mode ≠ .running ∨ s.seq.runs .feed = false) : s.jam = s :=
  if_neg fun both => idle.elim (fun stopped => stopped both.1) fun off => Bool.noConfusion (off.symm.trans both.2)

theorem jammed_jam {s : State} (role : s.cfg.role = .crusher) (running : s.crusher.mode = .running)
    (feeds : s.seq.runs .feed = true) (lawful : s.seq.lawful) : Jammed s s.jam := by
  have untouched := untouched_jam s
  rw [jam_of_feeding running feeds] at untouched ⊢
  by_cases again : s.crusher.jams < 3
  · rw [if_pos again] at untouched ⊢
    obtain ⟨taken, runs⟩ := requestOp_reverse (s := s.jamCounted.mapCrusher (fun c => { c with mode := .reversing }))
      lawful feeds (o := s.reverseOp) rfl
    have told := (chores_tellHall ((s.jamCounted.mapCrusher
      (fun c => { c with mode := .reversing })).requestOp s.reverseOp)).clerical
    have seq := (spares_tellHall (s := (s.jamCounted.mapCrusher
      (fun c => { c with mode := .reversing })).requestOp s.reverseOp) (by rw [taken]; exact role)).seq
    have reversed := told.crusher_eq.trans (congrArg State.crusher taken)
    have measure := told.measure_eq.trans (congrArg State.measure taken)
    exact {
      untouched
      attempts := congrArg CrusherState.attempts reversed
      recurrence := congrArg CrusherState.recurrence reversed
      reverses := fun _ => ⟨congrArg CrusherState.mode reversed, seq ▸ runs⟩
      stuck := fun third => absurd again (Nat.not_lt.2 third)
      measure }
  · rw [if_neg again] at untouched ⊢
    have told := chores_tellHall
      (((s.jamCounted.cancelOp .feed).mapCrusher (fun c => { c with mode := .jammed })).raise .jammed)
    have crusher := told.clerical.crusher_eq
    exact {
      untouched
      attempts := congrArg CrusherState.attempts crusher
      recurrence := congrArg CrusherState.recurrence crusher
      reverses := fun early => absurd early again
      stuck := fun _ => ⟨congrArg CrusherState.mode crusher, told.works.untouched.raised 9 (by
        rw [raise_flags]
        simp [Attn.word, Attn.bit])⟩
      measure := told.clerical.measure_eq }

end Sys2Proof.Machine
end


section
/-! O39: a stall. -/

namespace Sys2Proof.Machine

/-- The stall timer started again and the stall told (R168). -/
def State.stallTold (s : State) : State :=
  { s.cleared with measure := { s.measure with stallTimer := some 0 }, reports := [.stall] }

theorem exec_stall {s : State} (awake : s.awake = true) (timed : s.measure.stallTimer ≠ none) :
    exec .stall s = .next (s.stallTold.onStall.concluded s.seq) := by
  have takes : (s.cleared.awake && s.cleared.measure.stallTimer.isSome) = true :=
    Bool.and_eq_true_iff.2 ⟨awake, Option.isSome_iff_ne_none.2 timed⟩
  refine congrArg Host.Outcome.next ((event_of_running _ (notReset_of_awake awake)).trans ?_)
  exact congrArg (State.concluded s.seq) (if_pos takes)

section
variable {s : State}

theorem onStall_discharge (role : s.cfg.role = .discharge) :
    s.onStall = if s.seq.runs .index || s.seq.runs .discharge then s.enterBeltFault else s := by
  unfold State.onStall
  rw [role]

theorem onStall_filter (role : s.cfg.role = .filter) : s.onStall = s := by
  unfold State.onStall
  rw [role]

theorem onStall_crusher (role : s.cfg.role = .crusher) : s.onStall = s.jam := by
  unfold State.onStall
  rw [role]

theorem enterBeltFault_of_faulted (faulty : s.discharge.beltFault = true) : s.enterBeltFault = s := if_pos faulty

end

/-- Settles O39, by the role: a BELT_FAULT as `faulted_enterBeltFault` has it, and a jam as `jammed_jam` has it. -/
theorem stallJudged : Obligations.StallJudged := by
  intro s awake timed
  refine ⟨fun role moves sound => ?_, fun role running feeds lawful => ?_, fun still => ?_⟩
  · have entered : s.stallTold.onStall = s.stallTold.enterBeltFault :=
      (onStall_discharge (s := s.stallTold) role).trans (if_pos (Bool.or_eq_true_iff.2 moves))
    obtain ⟨untouched, fault, raised, progress, claims, _⟩ := faulted_enterBeltFault (s := s.stallTold) role sound
    exact ⟨_, (exec_stall awake timed).trans (by rw [entered]), untouched, fault, raised, progress, claims⟩
  · have jams := onStall_crusher (s := s.stallTold) role
    obtain ⟨untouched, attempts, recurrence, reverses, stuck, _⟩ := jammed_jam (s := s.stallTold) role running feeds lawful
    exact ⟨_, (exec_stall awake timed).trans (by rw [jams]), untouched, attempts, recurrence, reverses, stuck⟩
  · have nothing : s.stallTold.onStall = s.stallTold := by
      obtain role | ⟨role, faulty | ⟨noIndex, noDischarge⟩⟩ | ⟨role, idle⟩ := still
      · exact onStall_filter (s := s.stallTold) role
      · rw [onStall_discharge (s := s.stallTold) role, enterBeltFault_of_faulted (s := s.stallTold) faulty, ite_self]
      · have moves : ¬(s.stallTold.seq.runs .index || s.stallTold.seq.runs .discharge) = true := by
          simp [State.stallTold, State.cleared, noIndex, noDischarge]
        rw [onStall_discharge (s := s.stallTold) role, if_neg moves]
      · rw [onStall_crusher (s := s.stallTold) role, jam_of_idle (s := s.stallTold) idle]
    exact (exec_stall awake timed).trans (by rw [nothing]; rfl)

end Sys2Proof.Machine
end


section
/-! SUPPORT. The discharge unit's part in a MARK (R106, R110, R113, R118, R120, R122, R131), step by step. -/

namespace Sys2Proof.Machine

/-! ## What withdrawals leave (R119) -/

theorem withdrawLot_frame (s : State) (id : Byte) :
    { s.withdrawLot id with
      trunk := s.trunk, sync := s.sync, discharge := s.discharge, filter := s.filter, reports := s.reports } = s := by
  have moved := congrArg (fun t : State => { t with discharge := s.discharge }) (request_frame (s.mapLots fun l =>
    if l.claimId = some id ∧ l.status ≠ .discharging then l.unclaim else l) (.withdraw ⟨id⟩) .role false)
  exact moved

theorem withdrawLots_frame (ids : List Byte) (s : State) :
    { s.withdrawLots ids with
      trunk := s.trunk, sync := s.sync, discharge := s.discharge, filter := s.filter, reports := s.reports } = s := by
  induction ids generalizing s with
  | nil => rfl
  | cons id ids ih =>
    exact (congrArg (fun t : State => { t with
      trunk := s.trunk, sync := s.sync, discharge := s.discharge, filter := s.filter, reports := s.reports })
        (ih (s.withdrawLot id))).trans (withdrawLot_frame s id)

/-- Fates of frames that carry no DONE leave the pending DONEs. -/
theorem pending_deliver (s : State) (who : Block) {b : QBody} (other : ∀ d, b ≠ .done d) (f : Fate) :
    (s.deliver who b f).discharge.pending = s.discharge.pending := by
  unfold State.deliver
  dsimp only
  split
  · unfold State.claimFate
    split <;> rfl
  · exact absurd rfl (other _)
  · rfl
  · rfl

theorem pending_deliverAll (l : List (Block × QBody × Fate)) (s : State) (other : ∀ x ∈ l, ∀ d, x.2.1 ≠ .done d) :
    (s.deliverAll l).discharge.pending = s.discharge.pending := by
  induction l generalizing s with
  | nil => rfl
  | cons x l ih =>
    exact (ih _ fun y mem => other y (List.mem_cons_of_mem x mem)).trans
      (pending_deliver s _ (other x List.mem_cons_self) _)

/-- A WITHDRAW displaces no DONE, so that every DONE stays pending as it was (R86). -/
theorem pending_withdrawLots (ids : List Byte) (s : State) :
    (s.withdrawLots ids).discharge.pending = s.discharge.pending := by
  induction ids generalizing s with
  | nil => rfl
  | cons id ids ih =>
    refine (ih _).trans ?_
    exact (pending_deliver _ _ (by simp) _).trans (pending_deliverAll _ _ (others_of_withdraw _ _ _ _))

theorem queues_withdrawLots_done (ids : List Byte) {s : State} {d : DoneBody} (here : s.queues (.done d)) :
    (s.withdrawLots ids).queues (.done d) := by
  induction ids generalizing s with
  | nil => exact here
  | cons id ids ih =>
    exact ih (queues_request (s := s.mapLots _) here nofun (Nat.le_refl 2))

/-! ## The queue under withdrawals (R131) -/

/-- `s` and `t` agree in what the request of a WITHDRAW reads, and in the queue. -/
structure WithdrawsAlike (s t : State) : Prop where
  queue : t.trunk.queue = s.trunk.queue
  line : t.trunk.line = s.trunk.line
  status : t.sync.status = s.sync.status
  own : t.own = s.own
  claims : t.table.claims = s.table.claims

theorem WithdrawsAlike.request {s t : State} (h : WithdrawsAlike s t) (b : QBody) (who : Block) (u : Bool) :
    WithdrawsAlike (s.request b who u) (t.request b who u) := by
  have left := untouched_request s b who u
  have right := untouched_request t b who u
  have settled : t.settleOf b who u = s.settleOf b who u := by
    unfold State.settleOf State.ownClaim
    rw [h.queue, h.line, h.status, h.own, h.claims]
  exact {
    queue := by rw [request_queue, request_queue, settled]
    line := right.line_eq.trans (h.line.trans left.line_eq.symm)
    status := right.status_eq.trans (h.status.trans left.status_eq.symm)
    own := right.own_eq.trans (h.own.trans left.own_eq.symm)
    claims := right.claims.trans (h.claims.trans left.claims.symm) }

/-- To the queue the withdrawals of lots are their WITHDRAWs. -/
theorem WithdrawsAlike.withdrawLots (ids : List Byte) {s t : State} (h : WithdrawsAlike s t) :
    WithdrawsAlike (s.withdrawAll ids) (t.withdrawLots ids) := by
  induction ids generalizing s t with
  | nil => exact h
  | cons id ids ih =>
    have mapped : WithdrawsAlike s (t.mapLots fun l =>
        if l.claimId = some id ∧ l.status ≠ .discharging then l.unclaim else l) := { h with }
    exact ih (mapped.request _ _ _)

/-- The own claims of the table that no lot and no pending DONE names. -/
def State.orphanLots (s : State) : List Byte := (s.ownClaims.map (fun c => c.id)).filter (fun id => !s.lotNames id)

theorem mem_orphanLots {s : State} {c : Claim} (mem : c ∈ s.table.claims) (own : c.owner = s.own)
    (free : ∀ l ∈ s.discharge.lots, l.claimId ≠ some c.id) (unnamed : ∀ p ∈ s.discharge.pending, p.body.id ≠ c.id) :
    c.id ∈ s.orphanLots := by
  have owned : c ∈ s.ownClaims := List.mem_filter.2 ⟨mem, by simp [own]⟩
  refine List.mem_filter.2 ⟨List.mem_map.2 ⟨c, owned, rfl⟩, ?_⟩
  simpa [State.lotNames] using ⟨free, unnamed⟩

theorem own_of_mem_orphanLots {s : State} {id : Byte} (mem : id ∈ s.orphanLots) :
    ∃ c ∈ s.table.claims, c.owner = s.own ∧ c.id = id := by
  obtain ⟨c, owned, rfl⟩ := List.mem_map.1 (List.mem_filter.1 mem).1
  obtain ⟨held, own⟩ := List.mem_filter.1 owned
  exact ⟨c, held, eq_of_beq own, rfl⟩

/-- Where the queue has room for the own claims, each that nothing names has its WITHDRAW in it. -/
theorem withdrawOrphanLots_queues {s : State} (line : s.trunk.line = .active)
    (joined : ∀ c, s.sync.status ≠ .excluded c)
    (room : s.trunk.queue.length + (s.table.claims.filter (fun c => c.owner == s.own)).length ≤ 8) :
    ∀ id ∈ s.orphanLots, s.withdrawOrphanLots.queues (.withdraw ⟨id⟩) := by
  have few : s.orphanLots.length ≤ (s.table.claims.filter (fun c => c.owner == s.own)).length :=
    (List.length_filter_le _ _).trans (Nat.le_of_eq (List.length_map _))
  have alike : WithdrawsAlike (s.withdrawAll s.orphanLots) s.withdrawOrphanLots :=
    WithdrawsAlike.withdrawLots s.orphanLots ⟨rfl, rfl, rfl, rfl, rfl⟩
  intro id mem
  unfold State.queues
  rw [alike.queue]
  exact queues_withdrawAll s.orphanLots joined line (fun _ => own_of_mem_orphanLots) (by omega) id mem

/-! ## The age test (R113) -/

theorem ageDue_iff {s : State} : s.ageDue = true ↔ ∃ l ∈ s.discharge.lots, l.status = .opened ∧
    s.cfg.dis.ageLimit ≤ l.age ∧ ∃ v, l.running = some v ∧ (s.boundsOf l.cls).min ≤ v := by
  have running : ∀ l : Lot, (match l.running with
      | some v => decide ((s.boundsOf l.cls).min ≤ v)
      | none => false) = true ↔ ∃ v, l.running = some v ∧ (s.boundsOf l.cls).min ≤ v := by
    intro l
    cases l.running <;> simp
  unfold State.ageDue
  rw [List.any_eq_true]
  refine exists_congr fun l => and_congr_right fun _ => ?_
  rw [Bool.and_eq_true, Bool.and_eq_true, beq_iff_eq, decide_eq_true_iff, and_assoc]
  exact and_congr_right fun _ => and_congr_right fun _ => running l

/-! ## The start of a discharge (R120) -/

/-- The start of an operation of level 2 or below abandons nothing. -/
theorem request_abandoned_of_low {q : SeqState} (lawful : q.lawful) {o : Op} (low : o.level ≤ 2) :
    (q.request o).abandoned = none := by
  cases running : q.running with
  | none => simp [SeqState.request, running]
  | some r =>
    by_cases above : r.level < o.level
    · exact (request_over lawful running (by omega) above).1
    · unfold SeqState.request
      rw [running]
      dsimp only
      rw [if_neg above]
      split
      · rfl
      · split <;> rfl

theorem mayDischarge_iff {s : State} {m : Window} : s.mayDischarge m = true ↔ s.discharge.progress = none ∧
    ∃ l r, s.discharge.lots = l :: r ∧ l.status = .committed ∧ l.onTrack = true ∧ l.discharge = some m ∧
      s.sync.status = .synced ∧ s.hall.stops = [] ∧ s.mode.supply = .normal ∧
      (s.mode.mode = .run ∨ s.mode.mode = .quiet) ∧ s.discharge.beltFault = false ∧ s.discharge.pending.length < 6 := by
  unfold State.mayDischarge State.working
  cases lots : s.discharge.lots with
  | nil => simp
  | cons l r =>
    simp only [Bool.and_eq_true, Bool.or_eq_true, beq_iff_eq, List.isEmpty_iff, Bool.not_eq_true', decide_eq_true_iff,
      Option.isNone_iff_eq_none, List.cons.injEq]
    constructor
    · rintro ⟨⟨⟨⟨⟨⟨⟨synced, stops⟩, supply⟩, mode⟩, sound⟩, few⟩, idle⟩, ⟨committed, track⟩, window⟩
      exact ⟨idle, l, r, ⟨rfl, rfl⟩, committed, track, window, synced, stops, supply, mode, sound, few⟩
    · rintro ⟨idle, _, _, ⟨rfl, rfl⟩, committed, track, window, synced, stops, supply, mode, sound, few⟩
      exact ⟨⟨⟨⟨⟨⟨⟨synced, stops⟩, supply⟩, mode⟩, sound⟩, few⟩, idle⟩, ⟨committed, track⟩, window⟩

/-- The head lot discharging, its discharge in progress, before the DISCHARGE is requested. -/
def State.headStarted (s : State) (m : Window) (l : Lot) (r : List Lot) : State :=
  { s with discharge := { s.discharge with
      progress := some ⟨l.number, l.claimId.getD 0, plus m s.cfg.transit, 0⟩
      lots := { l with status := .discharging } :: r } }

theorem startDischarge_of_cons {s : State} {m : Window} {l : Lot} {r : List Lot} (lots : s.discharge.lots = l :: r) :
    s.startDischarge m = (s.headStarted m l r).requestOp s.dischargeOp := by
  unfold State.startDischarge
  rw [lots]
  rfl

/-! ### The lots meanwhile -/

theorem lotsReturn_compareStop (s : State) : LotsReturn s s.compareStop := by
  unfold State.compareStop
  split
  · split
    · rename_i b _
      have pulled : LotsReturn s (s.pullWaiting (fun f => f.unitStop && f.body != b)) :=
        .of_eq ((congrArg (fun t : State => t.discharge) (pull_frame s _)).trans rfl)
      dsimp only
      split
      · exact pulled
      · exact pulled.trans (lotsReturn_request _ _ _ _)
    · exact .of_eq rfl
  · exact .of_eq rfl

theorem lotsReturn_tellHall (s : State) : LotsReturn s s.tellHall := by
  have gate : LotsReturn s s.requestGate := by
    unfold State.requestGate
    split
    · exact lotsReturn_request _ _ _ _
    · exact .of_eq rfl
  exact gate.trans (lotsReturn_compareStop _)

theorem lotsReturn_endFlush (s : State) (next : FilterMode) (n : Nat) : LotsReturn s (s.endFlush next n) := by
  unfold State.endFlush
  split
  · refine LotsReturn.trans (.of_eq ?_) (lotsReturn_request _ _ _ _)
    rfl
  · exact .of_eq rfl

/-- What the request of an operation abandons leaves the lots their ages. -/
theorem keeps_requestOp (s : State) (o : Op) : List.Forall₂ Lot.Keeps s.discharge.lots (s.requestOp o).discharge.lots := by
  have returns : ∀ {t : State}, LotsReturn (s.takeSeq (s.seq.request o)) t →
      List.Forall₂ Lot.Keeps s.discharge.lots t.discharge.lots := fun h => h.lots.imp fun _ _ => Lot.Returns.keeps
  unfold State.requestOp
  dsimp only
  split
  · exact keeps_endDischarge (s.takeSeq (s.seq.request o))
  · refine returns (LotsReturn.trans (.of_eq ?_) (lotsReturn_tellHall _))
    rfl
  · exact returns (lotsReturn_endFlush _ _ _)
  · exact returns (.of_eq rfl)

end Sys2Proof.Machine
end


section
/-! O38: an encoder edge, and the discharge unit's part in a MARK. -/

namespace Sys2Proof.Machine

section
variable {s : State} {m : Window}

/-! ## An encoder edge (R115, R121, R167, R168) -/

/-- One unit of travel, told and not yet counted to a lot or discharge (R167, R168). -/
def State.travelled (s : State) : State :=
  { s with
    measure := { s.measure with
      prescale := 0, travel := s.measure.travel + 1, stallTimer := s.measure.stallTimer.map (fun _ => 0) }
    reports := s.reports ++ [.travel] }

theorem exec_encoderEdge_filter (awake : s.awake = true) (role : s.cfg.role = .filter) :
    exec .encoderEdge s = .next (s.cleared.concluded s.seq) := by
  have skips : ¬(s.cleared.awake && s.cleared.cfg.role != .filter) = true := by simp [State.cleared, role]
  refine congrArg Host.Outcome.next ((event_of_running _ (notReset_of_awake awake)).trans ?_)
  exact congrArg (State.concluded s.seq) (if_neg skips)

theorem exec_encoderEdge (awake : s.awake = true) (role : s.cfg.role ≠ .filter) {t : State}
    (counts : s.cleared.countEdge = t) : exec .encoderEdge s = .next (t.concluded s.seq) := by
  have takes : (s.cleared.awake && s.cleared.cfg.role != .filter) = true :=
    Bool.and_eq_true_iff.2 ⟨awake, bne_iff_ne.2 role⟩
  refine congrArg Host.Outcome.next ((event_of_running _ (notReset_of_awake awake)).trans ?_)
  exact congrArg (State.concluded s.seq) ((if_pos takes).trans counts)

theorem countEdge_full (full : s.cfg.prescaler ≤ s.measure.prescale + 1) :
    s.countEdge = if s.cfg.role = .discharge then s.travelled.countTravel else s.travelled := if_pos full

theorem countTravel_of_index (indexes : s.seq.runs .index = true) : s.countTravel =
    s.mapLots (fun l => if l.onTrack = true ∨ l.status = .opened then l else { l with travel := l.travel + 1 }) :=
  if_pos indexes

theorem countTravel_of_rest (indexes : s.seq.runs .index = false) (discharges : s.seq.runs .discharge = false) :
    s.countTravel = s := by
  unfold State.countTravel
  rw [if_neg (Bool.eq_false_iff.1 indexes), if_neg (Bool.eq_false_iff.1 discharges)]

/-- One operation runs at a time. -/
theorem runs_eq_false_of_runs {q : SeqState} {j k : OpKind} (runs : q.runs j = true) (other : j ≠ k) : q.runs k = false := by
  obtain ⟨r, running, rfl⟩ := running_of_runs runs
  unfold SeqState.runs
  rw [running]
  exact beq_false_of_ne other

/-- The travel counted to the discharge in progress. -/
def State.discharged (s : State) (p : Discharging) : State :=
  { s with discharge := { s.discharge with progress := some { p with travel := p.travel + 1 } } }

theorem countTravel_of_discharge (discharges : s.seq.runs .discharge = true) {p : Discharging} {l : Lot} {r : List Lot}
    (progress : s.discharge.progress = some p) (lots : s.discharge.lots = l :: r) : s.countTravel =
    if l.length.getD 1 ≤ p.travel + 1 then (s.discharged p).completeDischarge else s.discharged p := by
  have still : s.seq.runs .index = false := runs_eq_false_of_runs discharges (by decide)
  unfold State.countTravel
  rw [if_neg (Bool.eq_false_iff.1 still), if_pos discharges, progress, lots]
  rfl

/-- The DISCHARGE ended with the discharge of its lot, the DONE not yet pending (R121). -/
def State.headDischarged (s : State) (r : List Lot) : State :=
  { (s.completeOp .discharge) with discharge := { s.discharge with progress := none, lots := r } }

theorem completeDischarge_eq {p : Discharging} {l : Lot} {r : List Lot} (progress : s.discharge.progress = some p)
    (lots : s.discharge.lots = l :: r) (discharges : s.seq.runs .discharge = true) : s.completeDischarge =
    (s.headDischarged r).requestDone ⟨p.id, byteOf (l.volume.getD 0), false, p.arrival, byteOf l.cls⟩ := by
  have kept : (s.completeOp .discharge).discharge = s.discharge := by
    have frame := congrArg (fun t : State => t.discharge) (completeOp_of_runs discharges).2
    exact frame
  unfold State.completeDischarge
  rw [progress, lots]
  dsimp only
  rw [kept]
  rfl

/-! ## The lots at a MARK -/

/-- The start of the head lot's discharge, where it may start (R120). -/
def State.turnHead (m : Window) (s : State) : State := if s.mayDischarge m then s.startDischarge m else s

/-- The discharge unit's part in a MARK up to the age test: the discharge in progress ended, the head started, the lots
not started withdrawn, the marks cleared and the ages raised. -/
def State.lotsAtMark (s : State) (m : Window) : State :=
  ((s.endDischarge.turnHead m).withdrawLots ((s.endDischarge.turnHead m).overdueLots m)).mapLots Lot.atMark

theorem markDischarge_eq (s : State) (m : Window) : s.markDischarge m = (s.lotsAtMark m).sealAged.withdrawOrphanLots :=
  rfl

theorem untouched_turnHead (s : State) (m : Window) : Untouched s (s.turnHead m) := by
  unfold State.turnHead
  split
  · exact untouched_startDischarge s m
  · exact .refl s

theorem untouched_lotsAtMark (s : State) (m : Window) : Untouched s (s.lotsAtMark m) :=
  (untouched_endDischarge s).trans ((untouched_turnHead _ m).trans ((untouched_withdrawLots _ _).trans
    (untouched_mapLots _ _)))

theorem keeps_turnHead (s : State) (m : Window) :
    List.Forall₂ Lot.Keeps s.discharge.lots (s.turnHead m).discharge.lots := by
  have still : List.Forall₂ Lot.Keeps s.discharge.lots s.discharge.lots :=
    List.forall₂_same.2 fun l _ => (Lot.Returns.refl l).keeps
  unfold State.turnHead
  split
  · rename_i may
    obtain ⟨_, l, r, lots, _⟩ := mayDischarge_iff.1 may
    rw [startDischarge_of_cons lots]
    refine forall₂_trans (R := Lot.Keeps) (fun _ _ _ => .trans) ?_ (keeps_requestOp _ _)
    rw [lots] at still ⊢
    exact .cons ⟨rfl, nofun⟩ (List.forall₂_cons.1 still).2
  · exact still

theorem keeps_turned (s : State) (m : Window) :
    List.Forall₂ Lot.Keeps s.discharge.lots (s.endDischarge.turnHead m).discharge.lots :=
  forall₂_trans (R := Lot.Keeps) (fun _ _ _ => .trans) (keeps_endDischarge s) (keeps_turnHead _ m)

theorem ages_of_keeps {l k : List Lot} (h : List.Forall₂ Lot.Keeps l k) : k.map Lot.age = l.map Lot.age := by
  induction h with
  | nil => rfl
  | cons first _ ih => rw [List.map_cons, List.map_cons, first.age, ih]

/-- The ages rise by one at a MARK, up to 255. -/
theorem ages_lotsAtMark (s : State) (m : Window) :
    (s.lotsAtMark m).discharge.lots.map Lot.age = s.discharge.lots.map (fun l => min (l.age + 1) 255) := by
  generalize hu : s.endDischarge.turnHead m = u
  have turned : List.Forall₂ Lot.Keeps s.discharge.lots u.discharge.lots := hu ▸ keeps_turned s m
  have withdrawn := (lotsReturn_withdrawLots (u.overdueLots m) u).lots.imp fun _ _ => Lot.Returns.keeps
  have marked : (s.lotsAtMark m).discharge.lots = (u.withdrawLots (u.overdueLots m)).discharge.lots.map Lot.atMark := by
    rw [← hu]
    rfl
  calc (s.lotsAtMark m).discharge.lots.map Lot.age
    _ = ((u.withdrawLots (u.overdueLots m)).discharge.lots.map Lot.age).map (fun n => min (n + 1) 255) := by
      rw [marked, List.map_map, List.map_map]
      rfl
    _ = (s.discharge.lots.map Lot.age).map (fun n => min (n + 1) 255) := by
      rw [ages_of_keeps withdrawn, ages_of_keeps turned]
    _ = s.discharge.lots.map (fun l => min (l.age + 1) 255) := List.map_map

theorem refused_lotsAtMark (s : State) (m : Window) : ∀ l ∈ (s.lotsAtMark m).discharge.lots, l.refused = false := by
  intro l mem
  obtain ⟨k, _, rfl⟩ := List.mem_map.1 mem
  rfl

/-- A lot COMMITTED with a window that is due, and not started, is withdrawn (R120). -/
theorem early_of_committed (claimed : ∀ l ∈ s.discharge.lots, l.status = .committed → l.claimId ≠ none) {k : Lot}
    (mem : k ∈ (s.withdrawLots (s.overdueLots m)).discharge.lots) (committed : k.status = .committed) {w : Window}
    (window : k.discharge = some w) : 1 ≤ (w - m).toNat ∧ (w - m).toNat ≤ 255 := by
  refine earlier_iff.1 ?_
  by_contra due
  obtain ⟨l, was, returns⟩ := exists_of_forall₂ (lotsReturn_withdrawLots (s.overdueLots m) s).lots mem
  obtain rfl := returns.committed committed
  obtain ⟨id, named⟩ := Option.ne_none_iff_exists'.1 (claimed k was committed)
  have overdue : id ∈ s.overdueLots m := by
    refine List.mem_filterMap.2 ⟨k, List.mem_filter.2 ⟨was, ?_⟩, named⟩
    simp [committed, window, dueBy, Bool.eq_false_iff.2 due]
  have busy := returned_withdrawLots overdue s k mem named
  exact nomatch committed.symm.trans busy

theorem early_lotsAtMark (claimed : ∀ l ∈ s.discharge.lots, l.status = .committed → l.claimId ≠ none) :
    ∀ l ∈ (s.lotsAtMark m).discharge.lots, ∀ w, l.status = .committed → l.discharge = some w →
      1 ≤ (w - m).toNat ∧ (w - m).toNat ≤ 255 := by
  intro l mem w committed window
  obtain ⟨k, was, rfl⟩ := List.mem_map.1 mem
  refine early_of_committed (fun x here still => ?_) was committed window
  obtain ⟨y, before, keeps⟩ := exists_of_forall₂ (keeps_turned s m) here
  obtain rfl := keeps.committed still
  exact claimed x before still

/-- What the withdrawals and the ages leave of the unit: the discharge in progress, the sequencer and the counters. -/
theorem lotsAtMark_of_turned {u : State} (turned : s.endDischarge.turnHead m = u) :
    (s.lotsAtMark m).discharge.progress = u.discharge.progress ∧ (s.lotsAtMark m).seq = u.seq ∧
    (s.lotsAtMark m).counters = u.counters ∧ Untouched u (s.lotsAtMark m) ∧
    (s.lotsAtMark m).discharge.pending = u.discharge.pending ∧
    ∀ d, u.queues (.done d) → (s.lotsAtMark m).queues (.done d) := by
  subst turned
  have frame := withdrawLots_frame ((s.endDischarge.turnHead m).overdueLots m) (s.endDischarge.turnHead m)
  have seq := congrArg State.seq frame
  have counters := congrArg State.counters frame
  exact ⟨(lotsReturn_withdrawLots _ _).progress_eq, seq, counters,
    (untouched_withdrawLots _ _).trans (untouched_mapLots _ _), pending_withdrawLots _ _,
    fun _ here => queues_withdrawLots_done _ here⟩

/-- A head lot that has no claim, or is discharging, is aged and unmarked, and nothing else. -/
theorem head_lotsAtMark {u : State} (turned : s.endDischarge.turnHead m = u) {l : Lot}
    (head : u.discharge.lots.head? = some l) (safe : l.claimId = none ∨ l.status = .discharging) :
    ∃ k, (s.lotsAtMark m).discharge.lots = l.atMark :: k := by
  subst turned
  obtain ⟨r, lots⟩ := List.head?_eq_some_iff.1 head
  have withdrawn := (lotsReturn_withdrawLots ((s.endDischarge.turnHead m).overdueLots m) (s.endDischarge.turnHead m)).lots
  rw [lots] at withdrawn
  obtain ⟨k, rest, returns, _, now⟩ := List.forall₂_cons_left_iff.1 withdrawn
  obtain rfl : k = l := safe.elim returns.free returns.discharging
  have marked := congrArg (List.map Lot.atMark) now
  exact ⟨rest.map Lot.atMark, marked⟩

/-! ### The three courses of the head lot (R120, R122) -/

/-- The discharge in progress ends short, and its lot does not start again at once. -/
theorem turned_of_busy (role : s.cfg.role = .discharge) {p : Discharging} {l : Lot} {r : List Lot}
    (progress : s.discharge.progress = some p) (lots : s.discharge.lots = l :: r) :
    s.endDischarge.turnHead m = s.endDischarge := by
  refine if_neg fun may => ?_
  obtain ⟨_, k, rest, now, committed, _⟩ := mayDischarge_iff.1 may
  have head := (endsShort_endDischarge role progress lots).head
  rw [now, List.head?_cons, Option.some.injEq] at head
  rw [head] at committed
  nomatch committed

theorem turned_of_idle (idle : s.discharge.progress = none) (stays : ¬s.mayDischarge m = true) :
    s.endDischarge.turnHead m = s := by
  rw [endDischarge_of_idle idle]
  exact if_neg stays

theorem turned_of_start (idle : s.discharge.progress = none) (may : s.mayDischarge m = true) (lawful : s.seq.lawful)
    {l : Lot} {r : List Lot} (lots : s.discharge.lots = l :: r) :
    s.endDischarge.turnHead m = (s.headStarted m l r).takeSeq (s.seq.request s.dischargeOp) := by
  rw [endDischarge_of_idle idle]
  refine (if_pos may).trans ((startDischarge_of_cons lots).trans ?_)
  exact requestOp_of_kept (s := s.headStarted m l r) (request_abandoned_of_low lawful (Nat.le_refl 2))

end

/-- Settles O38: the edge by the role and by what runs; the MARK by the course of its head lot, `lotsAtMark` being the
unit's part up to the age test; and `withdrawOrphanLots_queues` for the claims that nothing names. -/
theorem encoderEdgeCounted : Obligations.EncoderEdgeCounted := by
  refine ⟨fun s awake => ⟨exec_encoderEdge_filter awake, fun role short => ?_, fun role full => ?_, fun role full => ?_⟩,
    fun s m role => ⟨s.lotsAtMark m, markDischarge_eq s m, untouched_lotsAtMark s m, refused_lotsAtMark s m,
      ages_lotsAtMark s m, early_lotsAtMark, fun p l r progress lots => ?_, fun l r idle lots starts lawful => ?_,
      fun idle stays => ?_⟩,
    fun s => ⟨fun due => if_pos (ageDue_iff.2 due), fun fresh => if_neg fun due => fresh (ageDue_iff.1 due)⟩,
    fun s => ⟨untouched_withdrawOrphanLots s, fun room line joined c mem own free unnamed =>
      withdrawOrphanLots_queues line joined room c.id (mem_orphanLots mem own free unnamed)⟩⟩
  · exact exec_encoderEdge awake role (if_neg (Nat.not_le.2 short))
  · refine exec_encoderEdge awake (by rw [role]; nofun) ((countEdge_full (s := s.cleared) full).trans (if_neg ?_))
    exact fun other => nomatch role.symm.trans other
  · have counts : s.cleared.countEdge = s.cleared.travelled.countTravel :=
      (countEdge_full (s := s.cleared) full).trans (if_pos role)
    have edge : ∀ {t : State}, s.cleared.travelled.countTravel = t → exec .encoderEdge s = .next (t.concluded s.seq) :=
      fun h => exec_encoderEdge awake (by rw [role]; nofun) (counts.trans h)
    refine ⟨fun indexes discharges => ?_, fun indexes => ?_, fun p l r discharges progress lots =>
      ⟨fun on => ?_, fun last => ?_⟩⟩
    · exact edge (countTravel_of_rest (s := s.cleared.travelled) indexes discharges)
    · exact edge (countTravel_of_index (s := s.cleared.travelled) indexes)
    · exact edge ((countTravel_of_discharge (s := s.cleared.travelled) discharges progress lots).trans
        (if_neg (Nat.not_le.2 on)))
    · have completed := completeDischarge_eq (s := s.cleared.travelled.discharged p) rfl lots discharges
      have counted := (countTravel_of_discharge (s := s.cleared.travelled) discharges progress lots).trans
        ((if_pos last).trans completed)
      obtain ⟨seq, frame⟩ := completeOp_of_runs (s := s.cleared.travelled.discharged p) discharges
      refine ⟨_, edge counted, rfl, seq, ?_⟩
      exact congrArg (fun t : State => { t with discharge := s.discharge, seq := s.seq }) frame
  · obtain ⟨progress', seq, counters, untouched, pending, queues⟩ :=
      lotsAtMark_of_turned (turned_of_busy (m := m) role progress lots)
    have ends := endsShort_endDischarge role progress lots
    obtain ⟨k, head⟩ := head_lotsAtMark (turned_of_busy (m := m) role progress lots) ends.head (.inl rfl)
    refine ⟨progress'.trans ends.progress, seq.trans ends.seq, ?_, untouched.raised 5 ends.raised, ⟨k, head⟩,
      fun room line joined => ?_⟩
    · rw [counters]
      exact ends.counted
    · have roomy : s.roomy := ⟨room, line, isExcluded_eq_false.2 joined⟩
      exact ⟨pending ▸ ends.pending roomy, queues _ (ends.queued roomy)⟩
  · have may : s.mayDischarge m = true := mayDischarge_iff.2 ⟨idle, l, r, lots, starts⟩
    have turned := turned_of_start idle may lawful lots
    obtain ⟨progress', seq, _⟩ := lotsAtMark_of_turned turned
    exact ⟨progress', seq, head_lotsAtMark turned rfl (.inr rfl)⟩
  · have turned := turned_of_idle (m := m) idle fun may => by
      obtain ⟨_, l, r, lots, starts⟩ := mayDischarge_iff.1 may
      exact stays l r lots starts
    obtain ⟨progress', seq, _⟩ := lotsAtMark_of_turned turned
    exact ⟨progress'.trans idle, seq⟩

end Sys2Proof.Machine
end


section
/-! SUPPORT. What an average makes of its channel (R164, R165) and of the records. -/

namespace Sys2Proof.Machine

/-! ## The state of a channel (R165) -/

section
variable {p : ChannelParams} {avg : Nat} {c : Channel}

theorem last_comeBack (n : Nat) (c : Channel) : (c.comeBack n).last = c.last := by
  unfold Channel.comeBack
  split <;> rfl

theorem last_judge (n : Nat) (r : Reading) (c : Channel) : (c.judge n r).last = c.last := by
  unfold Channel.judge
  split
  · split <;> rfl
  · split <;> rfl
  · rfl
  · rfl
  · exact last_comeBack n c
  · rfl
  · exact last_comeBack n c

theorem last_after (p : ChannelParams) (avg : Nat) (c : Channel) : (c.after p avg).last = some avg :=
  last_judge _ _ _

theorem readingOf_high (high : p.high < avg) : readingOf p avg = .high := if_pos high

theorem readingOf_low (low : ¬p.high < avg ∧ avg < p.low) : readingOf p avg = .low :=
  (if_neg low.1).trans (if_pos low.2)

theorem readingOf_inside (low : ¬p.high < avg) (high : ¬avg < p.low) : readingOf p avg = .inside :=
  (if_neg low).trans (if_neg high)

theorem readingOf_ne_high (low : ¬p.high < avg) : readingOf p avg ≠ .high := by
  unfold readingOf
  rw [if_neg low]
  split <;> nofun

theorem readingOf_ne_low (high : ¬(¬p.high < avg ∧ avg < p.low)) : readingOf p avg ≠ .low := by
  unfold readingOf
  split
  · nofun
  · rename_i low
    rw [if_neg fun h => high ⟨low, h⟩]
    nofun

/-- A channel in bounds with an average above them: ABOVE once the run is long enough. -/
theorem after_high (inside : c.status = .inBounds) (high : p.high < avg) : c.after p avg =
    if p.persistence ≤ c.highRun + 1 then { c with last := some avg }.enter .above
    else { c with last := some avg, highRun := c.highRun + 1, lowRun := 0 } := by
  unfold Channel.after Channel.judge
  rw [readingOf_high high]
  simp only [inside]

/-- A channel in bounds with an average below them: BELOW once the run is long enough. -/
theorem after_low (inside : c.status = .inBounds) (low : ¬p.high < avg ∧ avg < p.low) : c.after p avg =
    if p.persistence ≤ c.lowRun + 1 then { c with last := some avg }.enter .below
    else { c with last := some avg, lowRun := c.lowRun + 1, highRun := 0 } := by
  unfold Channel.after Channel.judge
  rw [readingOf_low low]
  simp only [inside]

theorem after_inside (inside : c.status = .inBounds) (low : ¬p.high < avg) (high : ¬avg < p.low) :
    c.after p avg = { c with last := some avg, highRun := 0, lowRun := 0 } := by
  unfold Channel.after Channel.judge
  rw [readingOf_inside low high]
  simp only [inside]

/-- A channel out of bounds whose average stays beyond the same bound. -/
theorem after_beyond (beyond : c.status = .above ∧ p.high < avg ∨ c.status = .below ∧ ¬p.high < avg ∧ avg < p.low) :
    c.after p avg = { c with last := some avg, returnRun := 0 } := by
  unfold Channel.after Channel.judge
  obtain ⟨above, high⟩ | ⟨below, low⟩ := beyond
  · rw [readingOf_high high]
    simp only [above]
  · rw [readingOf_low low]
    simp only [below]

/-- A channel out of bounds whose average does not: in bounds again once the run is long enough. -/
theorem after_back (back : c.status = .above ∧ ¬p.high < avg ∨ c.status = .below ∧ ¬(¬p.high < avg ∧ avg < p.low)) :
    c.after p avg = { c with last := some avg }.comeBack p.persistence := by
  unfold Channel.after Channel.judge
  obtain ⟨above, high⟩ | ⟨below, low⟩ := back
  · cases reading : readingOf p avg with
    | high => exact absurd reading (readingOf_ne_high high)
    | low => simp only [above]
    | inside => simp only [above]
  · cases reading : readingOf p avg with
    | low => exact absurd reading (readingOf_ne_low low)
    | high => simp only [below]
    | inside => simp only [below]

/-! ### The rows of its table -/

theorem enters_above (inside : c.status = .inBounds) (high : p.high < avg) : if p.persistence ≤ c.highRun + 1
    then (c.after p avg).status = .above ∧ (c.after p avg).highRun = 0 ∧ (c.after p avg).lowRun = 0 ∧
      (c.after p avg).returnRun = 0
    else (c.after p avg).status = .inBounds ∧ (c.after p avg).highRun = c.highRun + 1 ∧ (c.after p avg).lowRun = 0 := by
  rw [after_high inside high]
  split
  · exact ⟨rfl, rfl, rfl, rfl⟩
  · exact ⟨inside, rfl, rfl⟩

theorem enters_below (inside : c.status = .inBounds) (low : ¬p.high < avg ∧ avg < p.low) :
    if p.persistence ≤ c.lowRun + 1
    then (c.after p avg).status = .below ∧ (c.after p avg).highRun = 0 ∧ (c.after p avg).lowRun = 0 ∧
      (c.after p avg).returnRun = 0
    else (c.after p avg).status = .inBounds ∧ (c.after p avg).lowRun = c.lowRun + 1 ∧ (c.after p avg).highRun = 0 := by
  rw [after_low inside low]
  split
  · exact ⟨rfl, rfl, rfl, rfl⟩
  · exact ⟨inside, rfl, rfl⟩

theorem comes_back (back : c.status = .above ∧ ¬p.high < avg ∨ c.status = .below ∧ ¬(¬p.high < avg ∧ avg < p.low)) :
    if p.persistence ≤ c.returnRun + 1
    then (c.after p avg).status = .inBounds ∧ (c.after p avg).highRun = 0 ∧ (c.after p avg).lowRun = 0 ∧
      (c.after p avg).returnRun = 0
    else (c.after p avg).status = c.status ∧ (c.after p avg).returnRun = c.returnRun + 1 := by
  rw [after_back back]
  unfold Channel.comeBack
  split
  · exact ⟨rfl, rfl, rfl, rfl⟩
  · exact ⟨rfl, rfl⟩

end

/-! ## The steps of an average (R165, R166) -/

/-- The channel after the average. -/
def State.channelAfter (s : State) (ch : Fin 4) (avg : Nat) : Channel := (s.channel ch).after (s.channelParams ch) avg

/-- The channel takes its average, and a capture that waits for it is filled. -/
def State.measured (s : State) (ch : Fin 4) (avg : Nat) : State :=
  { s with measure := { s.measure with
    channels := s.measure.channels.set ch.val (s.channelAfter ch avg)
    capture := s.measure.capture.fill ch avg } }

/-- An entry event of the channel, where its state has changed, is told and acted on. -/
def State.entered (s : State) (ch : Fin 4) (was now : ChannelStatus) (avg : Nat) : State :=
  if now = was then s else (s.report (.entered ch now)).onEntered ch was now avg

theorem completeAverage_eq (s : State) (ch : Fin 4) (avg : Nat) : s.completeAverage ch avg =
    ((((s.measured ch avg).entered ch (s.channel ch).status (s.channelAfter ch avg).status avg).report
      (.average ch avg (s.channelAfter ch avg).status)).onAverage ch avg).captureReady := rfl

theorem exec_channelAverage {s : State} (awake : s.awake = true) (ch : Fin 4) (conv : Conversions) :
    exec (.channelAverage ch conv) s =
      .next ((s.cleared.completeAverage ch (conversionAverage conv)).concluded s.seq) := by
  refine congrArg Host.Outcome.next ((event_of_running _ (notReset_of_awake awake)).trans ?_)
  exact congrArg (State.concluded s.seq) (if_pos awake)

/-! ## What it leaves alone -/

/-- `t` agrees with `s` in the channels and in the records of the hall. -/
structure SameChannels (s t : State) : Prop where
  channels : t.measure.channels = s.measure.channels
  claims : t.table.claims = s.table.claims
  roster : t.roster = s.roster
  hall : t.hall = s.hall
  plan : t.plan = s.plan

theorem SameChannels.refl (s : State) : SameChannels s s := ⟨rfl, rfl, rfl, rfl, rfl⟩

theorem SameChannels.trans {a b c : State} (h : SameChannels a b) (k : SameChannels b c) : SameChannels a c :=
  ⟨k.channels.trans h.channels, k.claims.trans h.claims, k.roster.trans h.roster, k.hall.trans h.hall,
    k.plan.trans h.plan⟩

theorem Untouched.sameChannels {s t : State} (h : Untouched s t) : SameChannels s t := by
  have channels := congrArg MeasureState.channels h.measure
  exact ⟨channels, h.claims, h.roster, h.hall, h.plan⟩

theorem Concluded.sameChannels {s t : State} (h : Concluded s t) : SameChannels s t := by
  have same := Untouched.sameChannels h
  exact ⟨same.channels, same.claims, same.roster, same.hall, same.plan⟩

theorem sameChannels_ite {s a b : State} {c : Prop} [Decidable c] (yes : c → SameChannels s a)
    (no : ¬c → SameChannels s b) : SameChannels s (if c then a else b) := by
  split
  · exact yes ‹_›
  · exact no ‹_›

section
variable (s : State)

theorem sameChannels_mapFilter (f : FilterState → FilterState) : SameChannels s (s.mapFilter f) :=
  ⟨rfl, rfl, rfl, rfl, rfl⟩

theorem sameChannels_setBand (b : Band) : SameChannels s (s.setBand b) := by
  have bypassed : ∀ u : State, SameChannels u
      (if b = .bypass then
        (if u.filter.bypassOpen then u else u.raise .bypassOpen).mapFilter
          (fun x => { x with bypassOpen := true, cleaned := false })
      else u.mapFilter FilterState.closeBypass) := fun u =>
    sameChannels_ite (fun _ => (sameChannels_ite (fun _ => .refl u) fun _ => (untouched_raise u _).sameChannels).trans
      (sameChannels_mapFilter _ _)) fun _ => sameChannels_mapFilter u _
  have reranked : ∀ u : State, SameChannels u (match u.bandRank with
      | some r => u.rerank r
      | none => u) := by
    intro u
    split
    · exact (untouched_rerank u _).sameChannels
    · exact .refl u
  refine sameChannels_ite (fun _ => .refl s) fun _ => ?_
  exact (sameChannels_mapFilter s (fun u => { u with band := b })).trans ((bypassed _).trans
    (sameChannels_ite (fun _ => reranked _) fun _ => .refl _))

theorem sameChannels_onEntered (ch : Fin 4) (was now : ChannelStatus) (avg : Nat) :
    SameChannels s (s.onEntered ch was now avg) := by
  unfold State.onEntered
  split
  · exact sameChannels_ite (fun _ => (untouched_enterBeltFault s).sameChannels) fun _ => .refl s
  · exact sameChannels_ite (fun _ => sameChannels_setBand s _) fun _ =>
      sameChannels_ite (fun _ => sameChannels_setBand s _) fun _ => .refl s
  · exact sameChannels_ite (fun _ => (untouched_pumpFault s).sameChannels) fun _ => .refl s
  · exact sameChannels_ite (fun _ => (untouched_jam s).sameChannels) fun _ => .refl s
  · exact sameChannels_ite (fun _ => ⟨rfl, rfl, rfl, rfl, rfl⟩) fun _ => .refl s
  · exact .refl s

theorem untouched_takeCapture (avg : Nat) : Untouched s (s.takeCapture avg) := by
  unfold State.takeCapture
  split
  · split
    · exact untouched_setLots s _
    · exact untouched_mapLots s _
  · split
    · have sealed : Untouched s ((s.mapLots (s.runningLot avg)).sealAged) :=
        (untouched_mapLots s _).trans (untouched_sealAged _)
      dsimp only
      split
      · exact sealed.trans (untouched_requestCapture _ _)
      · exact sealed
    · exact .refl s

theorem sameChannels_captureReady : SameChannels s s.captureReady := by
  have emptied : SameChannels s ({ s with measure := { s.measure with capture := .empty } }.report .captureReady) :=
    ⟨rfl, rfl, rfl, rfl, rfl⟩
  unfold State.captureReady
  split
  · exact emptied.trans (untouched_takeCapture _ _).sameChannels
  · exact .refl s

/-- Once the channel has its average, the rest of the event leaves the channels. -/
theorem sameChannels_completeAverage (ch : Fin 4) (avg : Nat) :
    SameChannels (s.measured ch avg) (s.completeAverage ch avg) := by
  have entered : ∀ (u : State) (was now : ChannelStatus), SameChannels u (u.entered ch was now avg) := fun u _ _ =>
    sameChannels_ite (fun _ => .refl u) fun _ =>
      (untouched_report u _).sameChannels.trans (sameChannels_onEntered _ _ _ _ _)
  have averaged : ∀ u : State, SameChannels u (u.onAverage ch avg) := by
    intro u
    unfold State.onAverage
    split
    · exact sameChannels_ite (fun _ => .refl u) fun _ => sameChannels_setBand u _
    · exact .refl u
  rw [completeAverage_eq]
  exact (entered _ _ _).trans ((untouched_report _ _).sameChannels.trans
    ((averaged _).trans (sameChannels_captureReady _)))

end

/-! ## A capture taken (R112, R113, R114) -/

section
variable {s : State} {avg : Nat}

theorem waits_iff : s.discharge.lots.any Lot.unweighed = true ↔
    ∃ l ∈ s.discharge.lots, (l.status == .sealed && l.volume.isNone) = true := List.any_eq_true

/-- Sealed lots that wait for their volume are dropped where the skip was empty. -/
theorem takeCapture_dropped (waits : s.discharge.lots.any Lot.unweighed = true) (below : s.channelIs 0 .below = true) :
    s.takeCapture avg = s.setLots (s.discharge.lots.filter (fun l => !l.unweighed)) :=
  (if_pos waits).trans (if_pos below)

/-- Otherwise they take it. -/
theorem takeCapture_weighed (waits : s.discharge.lots.any Lot.unweighed = true) (full : s.channelIs 0 .below = false) :
    s.takeCapture avg = s.mapLots (fun l => if l.unweighed then s.sealedVolume avg l else l) :=
  (if_pos waits).trans (if_neg (Bool.eq_false_iff.1 full))

/-- Without one the OPEN lot takes a running volume, is judged, and asks again if still OPEN. -/
theorem takeCapture_opened (weighed : ¬s.discharge.lots.any Lot.unweighed = true)
    (opened : hasOpen s.discharge.lots = true) : s.takeCapture avg =
    if hasOpen ((s.mapLots (s.runningLot avg)).sealAged).discharge.lots then
      ((s.mapLots (s.runningLot avg)).sealAged).requestCapture 0
    else (s.mapLots (s.runningLot avg)).sealAged :=
  (if_neg weighed).trans (if_pos opened)

theorem takeCapture_none (weighed : ¬s.discharge.lots.any Lot.unweighed = true)
    (closed : ¬hasOpen s.discharge.lots = true) : s.takeCapture avg = s :=
  (if_neg weighed).trans (if_neg closed)

end

end Sys2Proof.Machine
end


section
/-! O36: an average of a channel completes. -/

namespace Sys2Proof.Machine

section
variable {s : State} {ch : Fin 4} {avg : Nat}

/-! ## The event, where the role unit has nothing to do but take a capture -/

/-- The average taken and told, with CAPTURE_READY last and the slot emptied where a capture waited for it. -/
def State.averageTold (s : State) (ch : Fin 4) (avg : Nat) : State :=
  { s with
    measure := { s.measure with
      channels := s.measure.channels.set ch.val (s.channelAfter ch avg)
      capture := if s.measure.capture = .pending ch then .empty else s.measure.capture }
    reports := s.reports ++ (if (s.channelAfter ch avg).status = (s.channel ch).status then []
        else [.entered ch (s.channelAfter ch avg).status]) ++ [.average ch avg (s.channelAfter ch avg).status] ++
      (if s.measure.capture = .pending ch then [.captureReady] else []) }

/-- The average takes the channel ABOVE. -/
def State.entersAbove (s : State) (ch : Fin 4) (avg : Nat) : Prop :=
  (s.channelAfter ch avg).status = .above ∧ (s.channel ch).status ≠ .above

/-- The average takes the channel out of ABOVE. -/
def State.leavesAbove (s : State) (ch : Fin 4) (avg : Nat) : Prop :=
  (s.channel ch).status = .above ∧ (s.channelAfter ch avg).status ≠ .above

theorem entersAbove_of_changed (changed : (s.channelAfter ch avg).status ≠ (s.channel ch).status)
    (above : (s.channelAfter ch avg).status = .above) : s.entersAbove ch avg :=
  ⟨above, fun was => changed (above.trans was.symm)⟩

theorem leavesAbove_of_changed (changed : (s.channelAfter ch avg).status ≠ (s.channel ch).status)
    (was : (s.channel ch).status = .above) : s.leavesAbove ch avg :=
  ⟨was, fun above => changed (above.trans was.symm)⟩

theorem changed_of_turn (turns : s.entersAbove ch avg ∨ s.leavesAbove ch avg) :
    (s.channelAfter ch avg).status ≠ (s.channel ch).status := by
  obtain ⟨above, below⟩ | ⟨was, below⟩ := turns
  · rw [above]
    exact below.symm
  · rw [was]
    exact below

/-- The state in which the role unit acts on the entry event. -/
def State.entryMade (s : State) (ch : Fin 4) (avg : Nat) : State :=
  (s.measured ch avg).report (.entered ch (s.channelAfter ch avg).status)

/-- Nothing else waits in the capture slot: it is not FILLED. -/
def State.unfilled (s : State) : Prop := ∀ x v, s.measure.capture ≠ .filled x v

theorem fill_of_other {c : Capture} (other : c ≠ .pending ch) : c.fill ch avg = c := by
  unfold Capture.fill
  split
  · rename_i d
    exact if_neg fun same => other (congrArg Capture.pending same)
  · rfl

theorem captureReady_of_unfilled (unfilled : s.unfilled) : s.captureReady = s := by
  unfold State.captureReady
  split
  · rename_i x v filled
    exact absurd filled (unfilled x v)
  · rfl

theorem captureReady_of_filled {x : Fin 4} {v : Nat} (filled : s.measure.capture = .filled x v) : s.captureReady =
    ({ s with measure := { s.measure with capture := .empty } }.report .captureReady).takeCapture v := by
  unfold State.captureReady
  rw [filled]

theorem unfilled_measured (unfilled : s.unfilled) (other : s.measure.capture ≠ .pending ch) :
    (s.measured ch avg).unfilled := by
  intro x v filled
  exact unfilled x v ((fill_of_other other).symm.trans filled)

theorem onAverage_of_role (role : s.cfg.role ≠ .filter) : s.onAverage ch avg = s := by
  unfold State.onAverage
  split
  · rename_i filter _
    exact absurd filter role
  · rfl

/-- The entry event told, where there is one, and nothing done about it. -/
def State.entryTold (s : State) (ch : Fin 4) (was now : ChannelStatus) : State :=
  { s with reports := s.reports ++ if now = was then [] else [.entered ch now] }

theorem entered_of_idle {was now : ChannelStatus}
    (idle : now ≠ was → (s.report (.entered ch now)).onEntered ch was now avg = s.report (.entered ch now)) :
    s.entered ch was now avg = s.entryTold ch was now := by
  unfold State.entered State.entryTold
  by_cases same : now = was
  · rw [if_pos same, if_pos same, List.append_nil]
  · rw [if_neg same, if_neg same, idle same]
    rfl

/-- Outside a filter only the entry event and a capture filled are acted on. -/
theorem completeAverage_of_entered {e : State}
    (entered : (s.measured ch avg).entered ch (s.channel ch).status (s.channelAfter ch avg).status avg = e)
    (role : e.cfg.role ≠ .filter) :
    s.completeAverage ch avg = (e.report (.average ch avg (s.channelAfter ch avg).status)).captureReady := by
  rw [completeAverage_eq, entered]
  exact congrArg State.captureReady (onAverage_of_role role)

/-- The entry event and the average told. -/
def State.bothTold (s : State) (ch : Fin 4) (avg : Nat) : State :=
  ((s.measured ch avg).entryTold ch (s.channel ch).status (s.channelAfter ch avg).status).report
    (.average ch avg (s.channelAfter ch avg).status)

theorem captureReady_of_waited (waited : s.measure.capture = .pending ch) :
    (s.bothTold ch avg).captureReady = (s.averageTold ch avg).takeCapture avg := by
  have filled : (s.bothTold ch avg).measure.capture = .filled ch avg := by
    simp [State.bothTold, State.entryTold, State.measured, Capture.fill, waited]
  rw [captureReady_of_filled filled]
  refine congrArg (State.takeCapture · avg) ?_
  unfold State.averageTold
  rw [if_pos waited, if_pos waited]
  rfl

theorem bothTold_of_unwaited (other : s.measure.capture ≠ .pending ch) : s.bothTold ch avg = s.averageTold ch avg := by
  unfold State.averageTold
  rw [if_neg other, if_neg other, List.append_nil, ← fill_of_other (avg := avg) other]
  rfl

/-- With nothing done about its entry event, an average is taken and told, and a capture that waited for it taken. -/
theorem completeAverage_of_idle (role : s.cfg.role ≠ .filter) (unfilled : s.unfilled)
    (idle : (s.channelAfter ch avg).status ≠ (s.channel ch).status →
      (s.entryMade ch avg).onEntered ch (s.channel ch).status (s.channelAfter ch avg).status avg = s.entryMade ch avg) :
    s.completeAverage ch avg = if s.measure.capture = .pending ch then (s.averageTold ch avg).takeCapture avg
      else s.averageTold ch avg := by
  have told : s.completeAverage ch avg = (s.bothTold ch avg).captureReady :=
    completeAverage_of_entered (entered_of_idle idle) role
  rw [told]
  by_cases waited : s.measure.capture = .pending ch
  · rw [if_pos waited, captureReady_of_waited waited]
  · have left : (s.bothTold ch avg).unfilled := unfilled_measured unfilled waited
    rw [if_neg waited, captureReady_of_unfilled left, bothTold_of_unwaited waited]

/-! ## The entry event by role (R128, R157, R158) -/

theorem onEntered_discharge (role : s.cfg.role = .discharge) (was now : ChannelStatus) : s.onEntered ch was now avg =
    if ch.val = 1 ∧ now = .above then s.enterBeltFault else s := by
  unfold State.onEntered
  rw [role]
  by_cases one : ch.val = 1
  · rw [one]
    by_cases above : now = .above <;> simp [above]
  · split <;> simp_all

theorem onEntered_crusher (role : s.cfg.role = .crusher) (was now : ChannelStatus) : s.onEntered ch was now avg =
    if ch.val = 0 ∧ now = .above then s.jam
    else if ch.val = 1 ∧ (now = .above ∨ was = .above) then { s with seq := s.seq.setFeedLevel s.feedLevel }
    else s := by
  unfold State.onEntered
  rw [role]
  fin_cases ch <;> simp

/-- The entry event of a channel that has changed state is told and acted on. -/
theorem entered_of_changed {was now : ChannelStatus} (changed : now ≠ was) :
    s.entered ch was now avg = (s.report (.entered ch now)).onEntered ch was now avg := if_neg changed

/-- Where the role unit makes `e` of the entry event and touches no measurement, the average is told after it. -/
theorem completeAverage_of_acted {e : State} (role : e.cfg.role ≠ .filter) (unfilled : s.unfilled)
    (other : s.measure.capture ≠ .pending ch) (changed : (s.channelAfter ch avg).status ≠ (s.channel ch).status)
    (acts : (s.entryMade ch avg).onEntered ch (s.channel ch).status (s.channelAfter ch avg).status avg = e)
    (measure : e.measure = (s.entryMade ch avg).measure) :
    s.completeAverage ch avg = e.report (.average ch avg (s.channelAfter ch avg).status) := by
  rw [completeAverage_of_entered ((entered_of_changed changed).trans acts) role]
  have left : e.unfilled := by
    unfold State.unfilled
    rw [measure]
    exact unfilled_measured unfilled other
  exact captureReady_of_unfilled (s := e.report _) left

/-- What such an act leaves of the station, it leaves of the station with the average taken and told. -/
theorem untouched_acted {e : State} (other : s.measure.capture ≠ .pending ch) (acted : Untouched (s.entryMade ch avg) e) :
    Untouched (s.averageTold ch avg) (e.report (.average ch avg (s.channelAfter ch avg).status)) := by
  have told := acted.trans (untouched_report e (.average ch avg (s.channelAfter ch avg).status))
  rw [← bothTold_of_unwaited other]
  exact { told with }

/-! ## The FEED level (R157) -/

theorem setFeedLevel_eq (q : SeqState) (level : Nat) : q.setFeedLevel level =
    let tune (o : Op) : Op := if o.kind = .feed then { o with drv0 := level } else o
    { q with
      running := q.running.map tune, stack := q.stack.map tune, deferred := q.deferred.map tune
      shadow0 := match q.running with | some o => (tune o).drv0 | none => 0
      shadow1 := match q.running with | some o => o.drv1 | none => 0 } := by
  unfold SeqState.setFeedLevel SeqState.write
  cases running : q.running with
  | none => rfl
  | some o =>
    have kept : (if o.kind = .feed then { o with drv0 := level } else o).drv1 = o.drv1 := by
      split <;> rfl
    simp only [Option.map_some, kept]

theorem feedLevel_entryMade (one : ch.val = 1) (real : ch.val < s.measure.channels.length) :
    (s.entryMade ch avg).feedLevel =
      if (s.channelAfter ch avg).status = .above then s.cfg.cru.reducedFeed else s.cfg.cru.feed := by
  have second : (s.entryMade ch avg).measure.channels.getD 1 Channel.start = s.channelAfter ch avg := by
    simp [State.entryMade, State.measured, one] at real ⊢
    simp [real]
  unfold State.feedLevel
  rw [second]
  rfl

/-! ## A capture taken (R112, R113, R114) -/

/-- The OPEN lot under an average, and any other, in the words of R112 and R114. -/
theorem runningLot_eq (s : State) (avg : Nat) (l : Lot) : s.runningLot avg l =
    if l.status ≠ .opened then l
    else if (s.boundsOf l.cls).max ≤ s.convert l.cls avg then
      { l with status := .sealed, sealReason := some .volumeBound, running := none
               volume := some (s.boundsOf l.cls).max, undersize := false }
    else { l with running := some (s.convert l.cls avg) } := by
  unfold State.runningLot
  by_cases opened : l.status = .opened
  · rw [if_pos opened, if_neg (not_not.2 opened)]
  · rw [if_neg opened, if_pos opened]

theorem sealAged_eq (s : State) : s.sealAged =
    if ∃ l ∈ s.discharge.lots, l.status = .opened ∧ s.cfg.dis.ageLimit ≤ l.age ∧
      (s.boundsOf l.cls).min ≤ l.running.getD 0 ∧ l.running ≠ none then s.sealOpen .age else s := by
  refine if_congr (ageDue_iff.trans ?_) rfl rfl
  refine exists_congr fun l => and_congr_right fun _ => and_congr_right fun _ => and_congr_right fun _ => ?_
  cases l.running <;> simp

/-- The lot in the skip is OPEN: it takes its running volume, and the volume and age tests follow. -/
theorem takeCapture_opened_eq (weighed : ¬s.discharge.lots.any Lot.unweighed = true)
    (opened : hasOpen s.discharge.lots = true) {x y : State} (hx : s.mapLots (s.runningLot avg) = x)
    (hy : x.sealAged = y) : s.takeCapture avg =
    if ∃ l ∈ y.discharge.lots, l.status = .opened then y.requestCapture 0 else y := by
  rw [takeCapture_opened weighed opened, hx, hy]
  exact if_congr hasOpen_iff rfl rfl

end

/-! ## The event by role -/

section
variable {s : State} {ch : Fin 4} {avg : Nat}

/-- At a discharge station the entry event matters where channel 1 enters ABOVE out of BELT_FAULT (R128). -/
theorem completeAverage_discharge (role : s.cfg.role = .discharge) (unfilled : s.unfilled)
    (idle : ch.val ≠ 1 ∨ ¬s.entersAbove ch avg ∨ s.discharge.beltFault = true) :
    s.completeAverage ch avg = if s.measure.capture = .pending ch then (s.averageTold ch avg).takeCapture avg
      else s.averageTold ch avg := by
  refine completeAverage_of_idle (by rw [role]; nofun) unfilled fun changed => ?_
  rw [onEntered_discharge (s := s.entryMade ch avg) role]
  split
  · rename_i enters
    obtain ⟨one, above⟩ := enters
    obtain other | inside | faulty := idle
    · exact absurd one other
    · exact absurd (entersAbove_of_changed changed above) inside
    · exact enterBeltFault_of_faulted (s := s.entryMade ch avg) faulty
  · rfl

theorem measure_entryMade (other : s.measure.capture ≠ .pending ch) :
    (s.entryMade ch avg).measure = (s.averageTold ch avg).measure := by
  rw [← bothTold_of_unwaited other]
  rfl

/-- Channel 1 enters ABOVE: the station is in BELT_FAULT (R128). -/
theorem completeAverage_faulted (role : s.cfg.role = .discharge) (unfilled : s.unfilled)
    (other : s.measure.capture ≠ .pending ch) (one : ch.val = 1) (enters : s.entersAbove ch avg)
    (sound : s.discharge.beltFault = false) : Faulted (s.averageTold ch avg) (s.completeAverage ch avg) := by
  have faults := faulted_enterBeltFault (s := s.entryMade ch avg) role sound
  have acts := (onEntered_discharge (s := s.entryMade ch avg) (ch := ch) (avg := avg) role (s.channel ch).status
    (s.channelAfter ch avg).status).trans (if_pos ⟨one, enters.1⟩)
  have still : (s.entryMade ch avg).enterBeltFault.cfg.role ≠ .filter := by
    rw [faults.untouched.cfg]
    exact fun filter => nomatch role.symm.trans filter
  rw [completeAverage_of_acted still unfilled other (changed_of_turn (.inl enters)) acts faults.measure]
  exact {
    untouched := untouched_acted other faults.untouched
    fault := faults.fault
    raised := faults.raised
    progress := faults.progress
    claims := faults.claims
    measure := faults.measure.trans (measure_entryMade other) }

/-- At a crusher the entry event matters where channel 0 enters ABOVE while it is RUNNING and feeds (R158), and where
channel 1 enters or leaves ABOVE (R157). -/
theorem completeAverage_crusher (role : s.cfg.role = .crusher) (unfilled : s.unfilled)
    (other : s.measure.capture ≠ .pending ch)
    (noJam : ¬(ch.val = 0 ∧ s.entersAbove ch avg ∧ s.crusher.mode = .running ∧ s.seq.runs .feed = true))
    (noTune : ¬(ch.val = 1 ∧ (s.entersAbove ch avg ∨ s.leavesAbove ch avg))) :
    s.completeAverage ch avg = s.averageTold ch avg := by
  refine (completeAverage_of_idle (by rw [role]; nofun) unfilled fun changed => ?_).trans (if_neg other)
  rw [onEntered_crusher (s := s.entryMade ch avg) role]
  split
  · rename_i enters
    obtain ⟨zero, above⟩ := enters
    refine jam_of_idle (s := s.entryMade ch avg) ?_
    by_contra feeds
    obtain ⟨running, feeding⟩ := not_or.1 feeds
    exact noJam ⟨zero, entersAbove_of_changed changed above, not_not.1 running, Bool.of_not_eq_false feeding⟩
  · split
    · rename_i turns
      obtain ⟨one, above | was⟩ := turns
      · exact absurd ⟨one, .inl (entersAbove_of_changed changed above)⟩ noTune
      · exact absurd ⟨one, .inr (leavesAbove_of_changed changed was)⟩ noTune
    · rfl

/-- Channel 0 enters ABOVE at a crusher that feeds: a jam (R158, R160). -/
theorem completeAverage_jammed (role : s.cfg.role = .crusher) (unfilled : s.unfilled)
    (other : s.measure.capture ≠ .pending ch) (zero : ch.val = 0) (enters : s.entersAbove ch avg)
    (running : s.crusher.mode = .running) (feeds : s.seq.runs .feed = true) (lawful : s.seq.lawful) :
    Jammed (s.averageTold ch avg) (s.completeAverage ch avg) := by
  have jams := jammed_jam (s := s.entryMade ch avg) role running feeds lawful
  have acts := (onEntered_crusher (s := s.entryMade ch avg) (ch := ch) (avg := avg) role (s.channel ch).status
    (s.channelAfter ch avg).status).trans (if_pos ⟨zero, enters.1⟩)
  have still : (s.entryMade ch avg).jam.cfg.role ≠ .filter := by
    rw [jams.untouched.cfg]
    exact fun filter => nomatch role.symm.trans filter
  rw [completeAverage_of_acted still unfilled other (changed_of_turn (.inl enters)) acts jams.measure]
  exact {
    untouched := untouched_acted other jams.untouched
    attempts := jams.attempts
    recurrence := jams.recurrence
    reverses := jams.reverses
    stuck := jams.stuck
    measure := jams.measure.trans (measure_entryMade other) }

/-- The level of a FEED after the average (R157). -/
def State.feedAfter (s : State) (ch : Fin 4) (avg : Nat) : Nat :=
  if (s.channelAfter ch avg).status = .above then s.cfg.cru.reducedFeed else s.cfg.cru.feed

/-- Channel 1 enters or leaves ABOVE at a crusher: the FEED held takes its level (R157). -/
theorem completeAverage_tuned (role : s.cfg.role = .crusher) (unfilled : s.unfilled)
    (other : s.measure.capture ≠ .pending ch) (real : ch.val < s.measure.channels.length) (one : ch.val = 1)
    (turns : s.entersAbove ch avg ∨ s.leavesAbove ch avg) :
    s.completeAverage ch avg =
      { s.averageTold ch avg with seq := s.seq.setFeedLevel (s.feedAfter ch avg) } := by
  have acts : (s.entryMade ch avg).onEntered ch (s.channel ch).status (s.channelAfter ch avg).status avg =
      { s.entryMade ch avg with seq := s.seq.setFeedLevel (s.entryMade ch avg).feedLevel } := by
    rw [onEntered_crusher (s := s.entryMade ch avg) role, if_neg (fun h => by rw [one] at h; nomatch h.1),
      if_pos ⟨one, turns.imp And.left And.left⟩]
    rfl
  have level : (s.entryMade ch avg).feedLevel = s.feedAfter ch avg := feedLevel_entryMade one real
  have crusher : s.cfg.role ≠ .filter := by
    rw [role]
    nofun
  have acted := completeAverage_of_acted
    (e := { s.entryMade ch avg with seq := s.seq.setFeedLevel (s.entryMade ch avg).feedLevel }) crusher unfilled other
    (changed_of_turn turns) acts rfl
  rw [acted, level, ← bothTold_of_unwaited other]
  unfold State.bothTold State.entryTold
  rw [if_neg (changed_of_turn turns)]
  rfl

/-- The event comes to the average completed. -/
theorem exec_channelAverage_eq (awake : s.awake = true) {conv : Conversions} {t : State}
    (h : s.cleared.completeAverage ch (conversionAverage conv) = t) :
    exec (.channelAverage ch conv) s = .next (t.concluded s.seq) := by
  rw [exec_channelAverage awake, h]

end

/-- The first part of O36: the channel follows the table of R165, and the records of the hall stand. -/
theorem averageCompletes_channel (s : State) (ch : Fin 4) (conv : Conversions) (awake : s.awake = true) :
    ∃ t, exec (.channelAverage ch conv) s = .next t ∧
      t.measure.channels = s.measure.channels.set ch.val (s.channelAfter ch (conversionAverage conv)) ∧
      t.table.claims = s.table.claims ∧ t.roster = s.roster ∧ t.hall = s.hall ∧ t.plan = s.plan := by
  obtain ⟨channels, claims, roster, hall, plan⟩ :=
    (sameChannels_completeAverage s.cleared ch (conversionAverage conv)).trans
      (concluded_concluded s.seq _).sameChannels
  exact ⟨_, exec_channelAverage awake ch conv, channels, claims, roster, hall, plan⟩

/-- Settles O36: the channel by the table of R165; the role unit by its role, BELT_FAULT and jam as `Faulted` and `Jammed`
have them; and the capture by the lots that wait for it. -/
theorem averageCompletes : Obligations.AverageCompletes := by
  refine ⟨fun s ch conv awake _ => ?_, fun s ch conv awake real unfilled => ⟨fun role idle => ?_,
    fun role one enters other => ?_, fun role other => ⟨fun jams lawful => ?_, fun tunes => ?_, fun noJam noTune => ?_⟩⟩,
    fun s avg => ⟨fun waits below => ?_, fun waits full => ?_, fun weighed opened => ?_, fun weighed closed => ?_⟩⟩
  · obtain ⟨t, does, channels, frame⟩ := averageCompletes_channel s ch conv awake
    refine ⟨t, _, does, channels, last_after _ _ _, fun inside high => ?_, fun inside low => ?_,
      fun inside low high => ?_, fun beyond => ?_, fun back => ?_, frame⟩
    · exact enters_above inside high
    · exact enters_below inside low
    · have stays : s.channelAfter ch (conversionAverage conv) = _ :=
        after_inside inside low fun under => high ⟨low, under⟩
      rw [stays]
      exact ⟨inside, rfl, rfl⟩
    · have stays : s.channelAfter ch (conversionAverage conv) = _ := after_beyond beyond
      rw [stays]
      exact ⟨rfl, rfl⟩
    · exact comes_back back
  · exact exec_channelAverage_eq awake (completeAverage_discharge (s := s.cleared) role unfilled (idle.imp_right .inl))
  · cases fault : s.discharge.beltFault with
    | true =>
      have still := (completeAverage_discharge (s := s.cleared) (avg := conversionAverage conv) role unfilled
        (.inr (.inr fault))).trans (if_neg other)
      refine ⟨_, exec_channelAverage_eq awake still, .refl _, fault, fun _ => rfl, nofun⟩
    | false =>
      obtain ⟨untouched, faulty, raised, progress, claims, _⟩ :=
        completeAverage_faulted (s := s.cleared) role unfilled other one enters fault
      exact ⟨_, exec_channelAverage_eq awake rfl, untouched, faulty, nofun, fun _ => ⟨raised, progress, claims⟩⟩
  · obtain ⟨zero, enters, running, feeds⟩ := jams
    obtain ⟨untouched, attempts, recurrence, reverses, stuck, _⟩ :=
      completeAverage_jammed (s := s.cleared) role unfilled other zero enters running feeds lawful
    exact ⟨_, exec_channelAverage_eq awake rfl, untouched, attempts, recurrence, reverses, stuck⟩
  · have tuned := completeAverage_tuned (s := s.cleared) (avg := conversionAverage conv) role unfilled other real
      tunes.1 tunes.2
    rw [setFeedLevel_eq] at tuned
    exact exec_channelAverage_eq awake tuned
  · exact exec_channelAverage_eq awake (completeAverage_crusher (s := s.cleared) role unfilled other noJam noTune)
  · exact takeCapture_dropped (waits_iff.2 waits) below
  · exact takeCapture_weighed (waits_iff.2 waits) full
  · refine takeCapture_opened_eq (fun h => weighed (waits_iff.1 h)) (hasOpen_iff.2 opened) ?_ (sealAged_eq _)
    exact congrArg (fun f => s.setLots (s.discharge.lots.map f)) (funext (runningLot_eq s avg))
  · refine takeCapture_none (fun h => weighed (waits_iff.1 h)) fun h => ?_
    obtain ⟨l, mem, opened⟩ := hasOpen_iff.1 h
    exact closed l mem opened

end Sys2Proof.Machine
end
